-- ==== Sys2Proof/Word.lean ====
section
/-! DEFINITION. The words the Borpin's registers and octet strings are made of, and the sparse table that every
large array of the block (ports, queues, counters, pages) is kept in. -/

namespace Sys2Proof

/-- A register word (R13): 32 bits, bit 0 the least significant. -/
abbrev Word := BitVec 32

/-- One octet. -/
abbrev Byte := BitVec 8

/-- An octet string, first octet first. -/
abbrev Bytes := List Byte

/-- A sparse table: index and value, indices strictly rising, no value equal to the table's default. -/
abbrev Tab (α : Type) := List (Nat × α)

end Sys2Proof
end

