-- ==== Sys2Proof/Syntax.lean ====
section
/-! DEFINITION. The commands of the Borpin block: one constructor for each row of spec/opcode_table.json, with the
operands that reach the block from outside (an address and a value on a bus, a frame on a wire, the level a comparator
finds, the verdict an engine delivers). The docstring of a constructor names the rule of spec/ its row cites. -/

namespace Sys2Proof

/-- Who makes a register access (R19, R470): the driver through PCIe, or the management controller through the
maintenance SPI target. -/
inductive Requester where
  | pcie
  | msp
deriving DecidableEq, Repr

/-- The two entropy channels (R241, R243). -/
inductive Channel where
  | a
  | b
deriving DecidableEq, Repr

/-- The two sources of the vigil domain's rail (R75). -/
inductive VigilSource where
  | vio18
  | vbat
deriving DecidableEq, Repr

/-- The requesters whose writes of one register fall in one cycle (R259). -/
structure Writers where
  pcie : Bool
  msp  : Bool
deriving DecidableEq, Repr

/-- A write of MOD_CTRL.GO (R43): its requester, and whether a quarantine cause was detected in the same CORECLK cycle
(R49; the command before it gives that cause). -/
structure GoWrite where
  by_ : Requester
  met : Bool
deriving DecidableEq, Repr

/-- What a flash's SFDP tables report at Stage step 4 (R459, R460). -/
structure Sfdp where
  readable       : Bool
  log2           : Nat
  quadRead       : Bool
  addr4          : Bool
  page256        : Bool
  erase4k        : Bool
  erase64k       : Bool
  eraseSuspend   : Bool
  programSuspend : Bool
  suspendUs      : Nat
  maxClockKhz    : Nat
deriving DecidableEq, Repr

/-- What the flash gives the verification of one recipe slot (R127): the check, if any, whose flash read fails. -/
structure SlotVerdict where
  readErrAt : Option Nat
deriving DecidableEq, Repr

/-- A tag frame as the port receives it (R178, R208): the body bits in slot order, the number of erasure slots, and the
number of slots whose line was low at the end of a recharge interval. -/
structure RxFrame where
  bits       : List Bool
  erasures   : Nat
  contention : Nat
deriving DecidableEq, Repr

/-- A port, with the slots of the attempt that the event ends which the Borpin received as erasures and those whose line
was low at the end of a recharge interval (R179, R200). -/
structure LineSlots where
  port       : Nat
  erasures   : Nat
  contention : Nat
deriving DecidableEq, Repr

/-- An accepted or refused presence pulse: fall after the reference and low time, in µs (R184, R186). -/
structure Presence where
  fallUs  : Nat
  widthUs : Nat
deriving DecidableEq, Repr

/-- What a slot of the journal ring reads back as after a drain program (R297). -/
inductive Readback where
  | equal        -- the buffer entry itself
  | badMac       -- anything else whose MAC does not verify
  | otherValid   -- a different entry whose MAC verifies
deriving DecidableEq, Repr

/-- What a descriptor read from host memory answers (R362, R378): the descriptors' octets, or an error status. -/
inductive ReadAnswer where
  | error
  | descriptors (ds : List Bytes)
deriving DecidableEq, Repr

/-- What an engine reports (R386): that its work is done. The result is fixed by the work's inputs. -/
inductive EngineResult where
  | done
deriving DecidableEq, Repr

/-- What a received Glaze frame shows that is discarded whole, in the order of R430; `wire`: the bytes from its BOF to its
EOF, and whether one of them has a framing error. -/
inductive GlzDiscard where
  | blind
  | pulses
  | wire (bytes : Bytes) (framing : Bool)
deriving DecidableEq, Repr

/-- The test instructions of R476; `other` is an opcode outside the list. -/
inductive TapInstr where
  | bypass
  | idcode
  | sample
  | extest
  | clamp
  | highz
  | vendor
  | other
deriving DecidableEq, Repr

/-- Where a lifecycle request comes from (R102): the head descriptor of an ADMIN queue with the in-buffer the block
read (none: the read failed), or the mailbox. -/
inductive LcSource where
  | queue (q : Nat) (buf : Option Bytes)
  | mailbox
deriving DecidableEq, Repr

/-- What a session frame from the loader shows (R433, R437): its SEQ, and whether its GCM tag verifies. -/
structure GlzFrame where
  seq   : Nat
  tagOk : Bool
deriving DecidableEq, Repr

/-- The results of a page check (R341, R344, R350, R458): the level (1–4) of a tree node from DDR4 that fails its check,
whether the DDR4 copy of the page verifies, whether DDR4 showed a corrected or an uncorrectable error on the way (with its
address), and whether what is fetched from record flash verifies. -/
structure PageCheck where
  badNode : Option Nat
  ddrOk   : Bool
  ddrCe   : Bool
  ddrUe   : Bool
  ueAddr  : BitVec 64
  flashOk : Bool
deriving DecidableEq, Repr

/-- Whether each header block of record flash could be read (R349). -/
structure HeaderReads where
  first  : Bool
  second : Bool
deriving DecidableEq, Repr

/-- What the preparation of a beat meets (R404, R405, R416): whether the page from DDR4 passes its check, how often the
preparation paused for confirmed work, and the AES lane (0–31) on which it still stands paused in its third step. -/
structure SpecRun where
  pageOk : Bool
  pauses : Nat
  lane   : Option Nat
deriving DecidableEq, Repr

/-- The commands of the block. -/
inductive Instr where
  /-- R17: a write of one register, or of two in one 8-byte PCIe request (`hi`), R480. -/
  | registerWrite (r : Requester) (off : Nat) (lo : Word) (hi : Option Word)
  /-- R14: a read of an RC field's register; `wide` is an 8-byte read (R480). -/
  | rcFieldRead (r : Requester) (off : Nat) (wide : Bool)
  /-- R19: a read of the lowest word of a wide value. -/
  | wideValueLowRead (r : Requester) (off : Nat) (wide : Bool)
  /-- R45. -/
  | modQuarCauseRead (r : Requester)
  /-- R173. -/
  | fabCellOut0Read (r : Requester)
  /-- R311. -/
  | cntCountLoRead (r : Requester)
  /-- R264. -/
  | entEstSeqRead (r : Requester) (ch : Channel)
  /-- R485. -/
  | stsCtxFullRead (r : Requester)
  /-- R280. -/
  | rngDataRead (r : Requester)
  /-- R481: an access to a BAR0 offset that no register occupies. -/
  | holeAccess (r : Requester) (off : Nat) (write : Bool)
  /-- R482. -/
  | bar0BadWidth (off : Nat) (write : Bool)
  /-- R487. -/
  | glbIrqEnWrite (r : Requester) (v : Word)
  /-- R75: the vigil rail's source that reached the window. -/
  | vigilWindowReached (src : VigilSource)
  /-- R75: VIO18 fell below 1.60 V (to VBAT) or rose above 1.66 V (to VIO18). -/
  | vigilSupplySwitch (dst : VigilSource)
  /-- R77. -/
  | totalPowerLoss
  /-- R47. -/
  | coldStart
  /-- R58: the strap balls (R456) and whether the PLL locks. -/
  | stageStep1 (straps : BitVec 6) (pllLocks : Bool)
  /-- R98. -/
  | stageStep2
  /-- R60: which ECC engines, SHA-256 lanes and AES lanes fail when tried as boot engines. -/
  | stageStep3 (eccFail shaFail : BitVec 8) (aesFail : BitVec 32)
  /-- R128. -/
  | stageStep4 (boot record : Sfdp) (slotA slotB : SlotVerdict)
  /-- R457: whether training converges. -/
  | stageStep5 (converges : Bool)
  /-- R58. -/
  | stageStep6
  /-- R69. -/
  | stageStep7
  /-- R302. -/
  | stageStep8
  /-- R251: the engines, Proofer instances and SHA-256 conditioning tests that fail. -/
  | stageStep9 (eccFail shaFail : BitVec 8) (aesFail : BitVec 32) (prfFail : BitVec 4) (katFail : BitVec 8)
  /-- R349: whether the header blocks can be read, and whether the chosen header's tree verifies. -/
  | stageStep10 (reads : HeaderReads) (treeOk : Bool)
  /-- R47. -/
  | enterService
  /-- R43: MOD_CTRL.GO. -/
  | modGo (r : GoWrite)
  /-- R56: MOD_CTRL.RESTART, written by one requester or, in one cycle, by both (R49). -/
  | modRestart (pcie msp : Bool)
  /-- R65. -/
  | modSnap (r : Requester)
  /-- R43: MOD_CTRL.QUARANTINE, by one requester or, in one cycle, by both. -/
  | modQuarantine (pcie msp : Bool)
  /-- R47: PERST_N asserted, with the RESTART writes that meet it in the same cycle (R49). -/
  | perstAssert (pcieRestart mspRestart : Bool)
  /-- R58. -/
  | perstRelease
  /-- R50. -/
  | warmPreludeDone
  /-- R65. -/
  | snapshotIdleTimer
  /-- R66: whether the write and the read-back succeeded. -/
  | snapshotWriteDone (ok : Bool)
  /-- R81. -/
  | mainSupplyLoss
  /-- R81, R83: the width of the excursion in ns. -/
  | coreVoltageExcursion (widthNs : Nat)
  /-- R83. -/
  | coreclkLoss
  /-- R509. -/
  | refclkLoss
  /-- R81. -/
  | vbatLowDetect
  /-- R87, R88, R90: the A and B balls that read other than their intact level, and for how long. -/
  | tamperLatch (aWrong bWrong : BitVec 8) (durNs : Nat)
  /-- R104. -/
  | zeroizeDone
  /-- R97: IDENTIFY on the head descriptor of a queue; `buf` is the in-buffer read. -/
  | identify (q : Nat) (buf : Option Bytes)
  /-- R472. -/
  | mboxIdentify
  /-- R101. -/
  | lifecycleOwn (src : LcSource) (res : EngineResult)
  /-- R101. -/
  | lifecycleAddKey (src : LcSource) (res : EngineResult)
  /-- R101. -/
  | lifecycleRevokeKey (src : LcSource) (res : EngineResult)
  /-- R101. -/
  | lifecycleDeploy (src : LcSource) (res : EngineResult)
  /-- R101. -/
  | lifecycleRetire (src : LcSource) (res : EngineResult)
  /-- R134. -/
  | rcpOpen (r : Requester) (slotB : Bool)
  /-- R133. -/
  | rcpAppend (r : Requester) (len : Nat)
  /-- R134. -/
  | rcpClose (r : Requester)
  /-- R127. -/
  | rcpVerify (r : Requester) (slotB : Bool)
  /-- R137. -/
  | rcpActivate (r : Requester)
  /-- R135. -/
  | rcpCommitFloor (r : Requester)
  /-- R134: whether the erase, program or blow succeeded. -/
  | rcpFlashDone (ok : Bool)
  /-- R127. -/
  | rcpVerifyDone (v : SlotVerdict)
  /-- R142. -/
  | unitRestart (r : Requester) (u : Nat)
  /-- R142. -/
  | unitOff (r : Requester) (u : Nat)
  /-- R142. -/
  | unitOn (r : Requester) (u : Nat)
  /-- R143. -/
  | drainLimitExpire (u : Nat)
  /-- R144: the replies other units still hold for the unit. -/
  | unitQuiesced (u : Nat) (heldReplies : Nat)
  /-- R145: whether the unit passes its self-test, and a SHA-256 lane its conditioning test. -/
  | unitRejoin (u : Nat) (testPass : Bool)
  /-- R152. -/
  | fabricTick
  /-- R156. -/
  | fabricStall
  /-- R163. -/
  | guardCarrierStart (g : Nat)
  /-- R167. -/
  | guardReadbackFault (g : Nat)
  /-- R167: a write of GRD_FAULTm. -/
  | grdFaultClear (m : Nat) (v : Word)
  /-- R161: the values the two requesters write to GRD_PERMITm in this cycle. -/
  | grdPermitWrite (m : Nat) (pcie msp : Option Word)
  /-- R184. -/
  | plaitReset (p : Nat)
  /-- R184: the presence pulse in the window, if any, and whether the line is below VT+ at its close. -/
  | presenceWindowClose (p : Nat) (pulse : Option Presence) (lineLow : Bool)
  /-- R186. -/
  | extensionWindowPresence (p : Nat) (pulse : Presence)
  /-- R186. -/
  | extensionWindowExpire (p : Nat)
  /-- R189. -/
  | plaitProbe (p : Nat)
  /-- R205. -/
  | pltReenum (r : Requester) (p : Nat)
  /-- R205. -/
  | pltProbe (r : Requester) (p : Nat)
  /-- R192: the length of the low. -/
  | unsolicitedPresence (p : Nat) (widthUs : Nat)
  /-- R182. -/
  | answerTimeout (l : LineSlots)
  /-- R195. -/
  | spuPlaceGrant (p : Nat)
  /-- R194. -/
  | spuHoldEnd (p : Nat)
  /-- R196. -/
  | spuShort (p : Nat)
  /-- R200. -/
  | lineLow (l : LineSlots)
  /-- R200. -/
  | lineHigh (p : Nat)
  /-- R201. -/
  | faultRecoveryCheck (p : Nat)
  /-- R201: whether the line stayed above VT+ throughout the millisecond. -/
  | faultReleaseWindowEnd (p : Nat) (stayedHigh : Bool)
  /-- R186. -/
  | plaitAssign (p : Nat)
  /-- R212. -/
  | plaitPing (p : Nat)
  /-- R189. -/
  | plaitTrim (p : Nat)
  /-- R224. -/
  | plaitCollect (p : Nat)
  /-- R226. -/
  | plaitReadCert (p : Nat)
  /-- R235. -/
  | plaitReadMem (p : Nat)
  /-- R228. -/
  | plaitKeyAgree (p : Nat)
  /-- R231. -/
  | plaitChallenge (p : Nat)
  /-- R233. -/
  | plaitConsume (p : Nat)
  /-- R234. -/
  | plaitCatchup (p : Nat)
  /-- R235. -/
  | plaitWriteMem (p : Nat)
  /-- R216. -/
  | plaitFinish (p : Nat)
  /-- R210. -/
  | tagAnswerReceived (p : Nat) (f : RxFrame)
  /-- R242: the trim codes the 64 latches end acquisition with, latch 0 first. -/
  | acquisitionEnd (codes : List Nat)
  /-- R250: the 4,096 samples of the startup test are taken. -/
  | startupTestEnd (ch : Channel)
  /-- R243: the measured ring frequencies. -/
  | ringFreqCheck (fastMhz slowKhz : Nat)
  /-- R247: the stream (a latch of channel A), the index of the sample, and the length of the run. -/
  | repetitionEvent (ch : Channel) (latch : Nat) (sample : Nat) (run : Nat)
  /-- R248. -/
  | proportionEvent (ch : Channel) (latch : Nat) (sample : Nat) (count : Nat)
  /-- R248: the ones each latch's window held (channel A), latch 0 first. -/
  | aptWindowClose (ch : Channel) (ones : List Nat)
  /-- R252: the 2,048 bits, the first one most significant. -/
  | churnBlockFormed (ch : Channel) (raw : BitVec 2048)
  /-- R259. -/
  | entRetestA (w : Writers)
  /-- R259. -/
  | entRetestB (w : Writers)
  /-- R263: the counts of the window, and channel B's ring frequencies. -/
  | estimateWindowEnd (ch : Channel) (bits ones pairs agree : Nat) (fastMhz slowKhz : Nat)
  /-- R271. -/
  | prooferGenerate (inst : Nat)
  /-- R297. -/
  | drainProgramStart
  /-- R297. -/
  | drainReadbackDone (slots : List Readback)
  /-- R297. -/
  | drainPauseEnd
  /-- R300. -/
  | compactionStart
  /-- R300: whether the checkpoint reads back. -/
  | checkpointProgramDone (ok : Bool)
  /-- R300. -/
  | ratchetFuseBlown
  /-- R300. -/
  | compactionEraseDone
  /-- R312: the ball voltage in nV at the next enabled channel. -/
  | spwConversion (ballNv : Nat)
  /-- R322. -/
  | earlyWarningFall
  /-- R319. -/
  | transientEnd (c : Nat)
  /-- R318. -/
  | rippleWindowEnd (c : Nat)
  /-- R317. -/
  | missingCrossingClose (c : Nat)
  /-- R344. -/
  | pageFaultComplete (page : Nat) (chk : PageCheck)
  /-- R348. -/
  | writebackRoundStart
  /-- R346: whether everything reads back as programmed, after at most two re-programs (R347). -/
  | writebackRoundReadback (ok : Bool)
  /-- R347. -/
  | roundHoldoffEnd
  /-- R351. -/
  | lockHoldExpire
  /-- R353: BAR4 offset and length; `chk` is the check of a page that is not cached. -/
  | windowRead (off len : Nat) (chk : PageCheck)
  /-- R354; `chk` is the check of a page that is not cached. -/
  | windowWrite (off : Nat) (data : Bytes) (chk : PageCheck)
  /-- R355. -/
  | ldrFlush (r : Requester)
  /-- R458: the errors the scrub corrected and the uncorrectable ones, with the address of the last of these. -/
  | ddrScrub (ce ue : Nat) (ueAddr : BitVec 64)
  /-- R458. -/
  | ddrZqCalibration
  /-- R359. -/
  | queueEnable (q : Nat)
  /-- R361. -/
  | queueDisable (q : Nat)
  /-- R363: `width` is the request's size in bytes. -/
  | sqTailDoorbell (q : Nat) (v : BitVec 64) (width : Nat)
  /-- R363. -/
  | cqHeadDoorbell (q : Nat) (v : BitVec 64) (width : Nat)
  /-- R378: the answer and the measured round trip in ns. -/
  | descriptorReadComplete (q : Nat) (ans : ReadAnswer) (rttNs : Nat)
  /-- R370. -/
  | verify (q : Nat)
  /-- R29. -/
  | consume (q : Nat)
  /-- R286. -/
  | increment (q : Nat)
  /-- R281. -/
  | random (q : Nat)
  /-- R370. -/
  | tagRead (q : Nat)
  /-- R370. -/
  | tagWrite (q : Nat)
  /-- R305. -/
  | anchorAck (q : Nat) (buf : Option Bytes) (res : EngineResult)
  /-- R306. -/
  | limitSet (q : Nat)
  /-- R353. -/
  | recordRead (q : Nat)
  /-- R355. -/
  | recordWrite (q : Nat) (buf : Option Bytes)
  /-- R338. -/
  | recordFree (q : Nat)
  /-- R340: the verdicts on SIGNATURE and on ISSUER_KEY as a P-256 point. -/
  | issuerSet (q : Nat) (buf : Option Bytes) (sig point : EngineResult)
  /-- R376. -/
  | eventBuf (q : Nat)
  /-- R366. -/
  | irqCoalesceTimeout (q : Nat)
  /-- R393. -/
  | schedulerEpoch
  /-- R389. -/
  | engineSelftest (u : Nat) (pass : Bool)
  /-- R402: `pageOk` is the check of a page fetched from DDR4 for it (R405). -/
  | beatPrepareStart (p pos : Nat) (run : SpecRun)
  /-- R417. -/
  | classWarm (c : Nat)
  /-- R435: the HELLO body, and the verdicts on the credential's SIGNATURE and on LOADER_KEY and EPUB_L as points. -/
  | glzHello (body : Bytes) (sig points : EngineResult)
  /-- R435: whether SIG_L verifies, and the shared secret Z. -/
  | glzProve (sigL : Bytes) (res : EngineResult)
  /-- R435. -/
  | glzProveTimeout
  /-- R439. -/
  | glzRead (f : GlzFrame) (off len : Nat) (chk : PageCheck)
  /-- R438. -/
  | glzAttest (f : GlzFrame) (challenge : BitVec 256)
  /-- R438. -/
  | glzCertRead (f : GlzFrame) (chunk : Nat)
  /-- R441: the token's octets, the verdict on its SIGNATURE, and the check of pages that are not cached. -/
  | glzStageToken (f : GlzFrame) (token : Bytes) (sig : EngineResult) (chk : PageCheck)
  /-- R439. -/
  | glzStageLabel (f : GlzFrame) (record : Nat) (label : Bytes) (chk : PageCheck)
  /-- R442. -/
  | glzCommit (f : GlzFrame)
  /-- R438. -/
  | glzDiscard (f : GlzFrame)
  /-- R437. -/
  | glzClose (f : GlzFrame)
  /-- R437, and R438's answer to a frame whose TYPE is no request's. -/
  | glzSessionFrameDrop (f : GlzFrame) (typ : Byte)
  /-- R430: the case, and the out-of-spec pulses of the frame (R428). -/
  | glzFrameDiscard (why : GlzDiscard) (badPulses : Nat)
  /-- R431. -/
  | glzAmplitudeAbort
  /-- R431. -/
  | glzHushEnd
  /-- R424: the ambient photocurrent in µA. -/
  | glzBlindRise (ambientUa : Nat)
  /-- R424. -/
  | glzBlindFall (ambientUa : Nat)
  /-- R437. -/
  | glzSessionIdleTimeout
  /-- R444. -/
  | glzCtrlClose (r : Requester)
  /-- R451: the negotiated rate code 1–4, the width, and whether lane reversal is in use. -/
  | pcieLinkUp (speed width : Nat) (reversed : Bool)
  /-- R451. -/
  | pcieHotReset
  /-- R453. -/
  | bmeD3Change (busMaster d3hot : Bool)
  /-- R454: one vector, or (none) the function mask. -/
  | msixUnmask (vector : Option Nat)
  /-- R469: the MOSI words HEADER, ADDR, CHECK, and the rising edges of the whole frame. -/
  | mspRead (mosi : List Word) (edges : Nat)
  /-- R468. -/
  | mspWrite (mosi : List Word) (edges : Nat)
  /-- R477. -/
  | tapInstructionLoad (i : TapInstr)
  /-- R386: the unit and its result. -/
  | engineOperationComplete (u : Nat) (res : EngineResult)
  /-- R79. -/
  | commitEntryValid
  /-- R102. -/
  | lifecycleBlowDone
  /-- R436. -/
  | glzTransmissionEnd
  /-- R435. -/
  | glzHelloEntropyTimeout
  /-- R259. -/
  | retestBudgetExpire (ch : Channel)
  /-- R82. -/
  | vbatLowClear
  /-- R74. -/
  | vbatPresentChange (present : Bool)
deriving DecidableEq, Repr

end Sys2Proof
end

