-- ==== Sys2Proof/Decode.lean ====
section
/-! DEFINITION. The table gives no row bits: every row of spec/opcode_table.json has an empty list of fields, so no word
spells a command. -/

namespace Sys2Proof

/-- The command a word spells: none, whatever the word (assumption log 1). -/
def decodeTableWord (_nbits _w : Nat) : Option Instr := none

end Sys2Proof
end

