-- ==== Sys2Proof/Config.lean ====
section
/-! DEFINITION. What the model takes as given and leaves uninterpreted: the free values of the spec, and the published
algorithms whose results the spec fixes by reference to their standards. None has a body, so no proof can see a value. -/

namespace Sys2Proof.Config

/-- The free values, in the order in which the machine takes them (assumption log 3). -/
opaque freeNat : Nat → Nat

/-- SHA-256 (FIPS 180-4) of an octet string, as one big-endian integer. -/
opaque sha256 : Bytes → BitVec 256

/-- AES-256 CMAC of an octet string. -/
opaque cmac256 : BitVec 256 → Bytes → BitVec 128

/-- AES-128 CMAC of an octet string. -/
opaque cmac128 : BitVec 128 → Bytes → BitVec 128

/-- A 256-bit key derived from the device secret seed, by the number of its use. -/
opaque deviceKey : BitVec 256 → Nat → BitVec 256

/-- The P-256 public key of a private scalar. -/
opaque publicKey : BitVec 256 → BitVec 512

/-- The private scalar of a P-256 public key X ‖ Y. -/
opaque privateKey : BitVec 512 → BitVec 256

/-- Whether a signature (r ‖ s) of a message made with another nonce than that of the deterministic method of FIPS 186-5
verifies under a public key. -/
opaque ecdsaOther : BitVec 512 → Bytes → Bytes → Bool

/-- The P-256 key agreement of a private scalar and a public key: the shared X coordinate. -/
opaque ecdh : BitVec 256 → BitVec 512 → BitVec 256

/-- The ECDSA P-256 signature r ‖ s of a message under a private scalar, with the nonce of the deterministic method of
FIPS 186-5. -/
opaque ecdsaSign : BitVec 256 → Bytes → BitVec 512

/-- CTR_DRBG (SP 800-90A) instantiation: entropy input, nonce, personalization string. -/
opaque drbgInstantiate : Bytes → Bytes → Bytes → BitVec 384

/-- CTR_DRBG reseed: working state, entropy input. -/
opaque drbgReseed : BitVec 384 → Bytes → BitVec 384

/-- CTR_DRBG generate: the octets of one request. -/
opaque drbgOutput : BitVec 384 → Nat → Bytes

/-- CTR_DRBG generate: the working state after one request. -/
opaque drbgUpdate : BitVec 384 → Nat → BitVec 384

/-- The ciphertext and 16-octet tag of AES-256-GCM: key, nonce, associated data, plaintext. -/
opaque gcmSeal : BitVec 128 → Bytes → Bytes → Bytes → Bytes

/-- The ciphertext and 16-octet tag of AES-256-GCM: key, nonce, associated data, plaintext. -/
opaque gcmSeal256 : BitVec 256 → Bytes → Bytes → Bytes → Bytes

/-- The number of a tree node, by its level (1–4) and its place in it: R341 numbers no nodes. -/
opaque nodeNumber : Nat → Nat → BitVec 32

/-- COPY_MAP of a Larder header, from the blocks whose second copy is current: R345 gives no bit its place. -/
opaque copyMap : List Nat → BitVec 512

/-- The 4,096 octets of an index page, from the index and the page's number: R335 gives no layout of its slots. -/
opaque indexOctets : List (BitVec 128 × Nat) → Nat → Bytes

/-- The index page (0–511) that holds a TAG_ID's slot: the hash of R335 is not given. -/
opaque indexPage : BitVec 128 → Nat

/-- TYPE of a HELLO_REPLY frame: R438 lists the types of session frames only. -/
opaque glzReplyType : Byte

/-- HST_DDR_STAT.SIZE_GIB for straps that give 32 GiB, which its range does not hold (R456, R475). -/
opaque sizeGib32 : BitVec 5

end Sys2Proof.Config
end

