-- ==== Sys2Proof/Machine/State.lean ====
section
/-! DEFINITION. The state of the Borpin block: everything the spec gives the device, as plain data, with the commands
that wait (`pending`) and what has been sent out of the block, oldest first (`out`). Register words are not stored twice:
`Machine/Regs.lean` computes each register's word from the fields below. -/

namespace Sys2Proof.Machine

/-! ## Outputs -/

/-- What leaves the block. -/
inductive Output where
  /-- Data of a BAR0 read (R13), or of a BAR2 read. -/
  | readData (r : Requester) (ws : List Word)
  /-- Data of a BAR4 read (R353). -/
  | windowData (data : Bytes)
  /-- A read refused with Completer Abort (R354, R482). -/
  | completerAbort
  /-- The data words and DCHECK of a maintenance SPI READ (R466). -/
  | miso (ws : List Word)
  /-- One MSI-X message (R366, R487). -/
  | msix (vector : Nat)
  /-- A write of a host buffer. -/
  | dmaWrite (addr : BitVec 64) (data : Bytes)
  /-- A completion entry written to slot `slot` of a queue's completion ring (R371). -/
  | completion (q slot : Nat) (entry : Bytes)
  /-- A descriptor read request of `n` descriptors from ring slot `slot` (R378). -/
  | descriptorRead (q slot n : Nat)
  /-- An AER log (R455): the kind of error and the address of the request. -/
  | aer (kind : Nat) (addr : Nat)
  /-- A Borpin frame on a Plait port, body bits in slot order (R207). -/
  | plaitFrame (port : Nat) (bits : List Bool)
  /-- A low driven on a Plait port: 300 µs for a reset, 70 µs for a probe (R185). -/
  | plaitLow (port : Nat) (us : Nat)
  /-- The bytes of a Glaze frame sent, from BOF to EOF (R429). -/
  | glzFrame (wire : Bytes)
  /-- The bit cells of a Glaze frame sent, at a rate of R427: in a 1 of this list GLZ_LED is high for the first 3/16 of
  the cell, in a 0 it is low (R425, R427). -/
  | glzLed (rate : Nat) (cells : List Bool)
deriving DecidableEq, Repr

/-- The completion statuses of R483, in its order. -/
inductive Status where
  | ok
  | granted
  | adoptedHigher
  | retryLater
  | cancelled
  | late
  | supplyHold
  | locked
  | entropyStarved
  | boundary
  | badDescriptor
  | notPermitted
  | absent
  | notGenuine
  | tagError
  | limitReached
  | integrity
  | quarantined
deriving DecidableEq, Repr

/-! ## Modes, starts, snapshots (R40–R71) -/

/-- R40. -/
inductive Mode where
  | unpowered
  | vigil
  | stage
  | service
  | quarantine
deriving DecidableEq, Repr

/-- R53, in the order of R55. -/
inductive QuarCause where
  | tamper
  | lifecycle
  | journalChain
  | anchorLost
  | entropyExhausted
  | hostRequest
  | mspRequest
deriving DecidableEq, Repr

/-- The causes found, in MOD_START_CAUSE's fields (R44). -/
structure StartCause where
  kind           : Nat   -- 0, 1 COLD, 2 WARM
  firstPower     : Bool
  perst          : Bool
  hostRestart    : Bool
  mspRestart     : Bool
  quarExit       : Bool
  pristine       : Bool
  anchorLost     : Bool
  snapInvalid    : Bool
  snapMismatch   : Bool
  snapReject     : Bool
  slotB          : Bool
  stageRestarted : Bool
  retire         : Bool
  vigilCause     : Nat
  lastMode       : Nat
deriving DecidableEq, Repr

/-- The kept fields (R20): the only three the registers have. -/
structure Kept where
  irqEn  : BitVec 13   -- GLB_IRQ_EN (R486)
  attnEn : BitVec 4    -- MSP_ATTN_EN (R474)
  lead   : Nat         -- SPC_CTRL.LEAD (R418)
deriving DecidableEq, Repr

/-- A settings snapshot image in a slot of boot flash (R68): the fields of its header that are checked, the kept
registers' values, and its MAC. -/
structure Snapshot where
  formatOk    : Bool
  generation  : Nat
  recipeGen   : Nat
  captureTick : BitVec 64
  binding     : BitVec 128
  irqEn       : Word
  attnEn      : Word
  lead        : Word
  mac         : BitVec 128
deriving DecidableEq, Repr

/-- A snapshot being written (R66). -/
structure SnapWrite where
  image  : Snapshot
  slot   : Nat
  second : Bool        -- the second slot is being tried
deriving DecidableEq, Repr

/-- The MOD_ block and the progress of Stage. -/
structure Mod where
  goReq      : Bool
  stageStep  : Nat
  stageDone  : Bool
  stageFault : Nat
  done       : List Nat          -- Stage steps completed on this start
  begun      : List Nat          -- those of steps 4, 8, 9 and 10 that have begun (R517)
  inStep9    : Bool              -- step 9 runs
  exitSpare  : Bool              -- R64: the quarantine-exit Stage with a spare key block
  preludeOn  : Bool              -- the warm prelude runs (R50)
  nextCause  : StartCause        -- the cause the next Stage step 1 writes
  cause      : StartCause        -- MOD_START_CAUSE
  quarCause  : Option QuarCause
  zeroized   : Bool
  fromMode   : Nat
  readHost   : Bool
  readMsp    : Bool
  ackDone    : Bool
  stageBegin : BitVec 64
  stageTime  : Nat
  -- snapshots
  snapReq     : Bool             -- MOD_CTRL.SNAP: a snapshot it asked for is not complete
  snapAsk     : Bool             -- SNAP asked for the snapshot queued behind the current one
  snapWrite   : Option SnapWrite
  snapPending : Bool
  snapDeferred : Bool
  snapResult  : Nat
  snapTimer   : Option (BitVec 64)   -- TICK_NOW of the last write that changed a kept field
deriving DecidableEq, Repr

/-! ## The vigil domain and OTP (R75–R107, R518) -/

/-- A journal entry (R291). -/
structure Entry where
  typ    : Nat          -- 1 COUNT, 2 LIMIT
  cause  : Nat
  seq    : Nat
  id     : Nat
  value  : Nat
  serial : BitVec 32
  mac    : BitVec 64
deriving DecidableEq, Repr

/-- R98: the pending-transition record. -/
inductive PendingRec where
  /-- A lifecycle group 1–4 (ENROLLED, OWNED, DEPLOYED, RETIRED). -/
  | group (n : Nat)
  /-- OWN: slot 0's hash and active group, then the OWNED group. -/
  | own (hash : BitVec 256)
  /-- ADD_KEY: a slot's hash field and active group. -/
  | addKey (slot : Nat) (hash : BitVec 256)
  /-- REVOKE_KEY: a slot's revoke group. -/
  | revoke (slot : Nat)
deriving DecidableEq, Repr

/-- The vigil domain (R78). -/
structure Vigil where
  source     : VigilSource
  intact     : Bool               -- the integrity word reads its pattern (R77)
  headSeq    : BitVec 64
  chain      : BitVec 128
  anchorOk   : Bool
  buffer     : List Entry         -- the commit buffer, in commit order
  snapSlot   : Nat
  snapGen    : Nat
  snapOk     : Bool               -- a snapshot is anchored
  causes     : List QuarCause     -- recorded quarantine causes
  lastMode   : Nat
  shadow     : Option Nat         -- the lifecycle shadow
  record     : Option PendingRec
  armed      : BitVec 8
  latched    : BitVec 8
  firstPair  : Nat
  firstKind  : Nat
  inVigil    : Bool
  inhibit    : Bool
  zeroPending : Bool
  fired      : List Nat           -- detectors that fired since the last start, first one first (R84)
  detArmed   : Bool               -- the supply and clock detectors are armed (R83)
  force      : Bool               -- the guard-force line
  forceTamper : Bool              -- asserted by a tamper detection (R86)
  forceTap    : Bool              -- asserted by the test access port (R477)
  vbatPresent : Bool
  vbatLow     : Bool
  wrongA      : BitVec 8          -- pairs whose A ball is at other than its intact level
  wrongB      : BitVec 8          -- the same of the B ball
  wrongLong   : BitVec 8          -- pairs whose loop state is wrong and lasts 1 µs or more (R88)
deriving DecidableEq, Repr

/-- A customer key slot in OTP (R518): whether any fuse of its hash field is written, the hash, the fuses
blown of its active and revoke groups. -/
structure KeySlot where
  hashAny : Bool
  hash    : BitVec 256
  active  : Nat
  revoke  : Nat
deriving DecidableEq, Repr

/-- An identity key block (R95, R105). -/
structure KeyBlock where
  used     : Bool
  priv     : BitVec 256           -- the identity private key
  pub      : BitVec 512
  seed     : BitVec 256
  cert     : Bytes
  marker   : Bool                 -- the zeroize marker fuse is blown
  unblown  : Bool                 -- unblown fuses remain
deriving DecidableEq, Repr

/-- The fuses. -/
structure Otp where
  groups   : Vector Nat 4         -- fuses blown of ENROLLED, OWNED, DEPLOYED, RETIRED
  slots    : Vector KeySlot 4
  blocks   : Vector KeyBlock 2
  rollback : Nat                  -- anti-rollback fuses (R135)
  ratchet  : Nat                  -- R301
  revision : BitVec 16            -- GLB_ID.REVISION
deriving DecidableEq, Repr

/-- What is read from OTP at Stage steps 1 and 2, and a lifecycle request in progress. -/
structure Life where
  state     : Nat                 -- VGL_LIFECYCLE.STATE
  completed : Bool
  keyBlock  : Nat                 -- VGL_LIFECYCLE.KEYBLOCK
  shown     : Bool                -- the identity registers show the identity (R96)
  retireWait : Bool               -- an accepted RETIRE waits for its zeroization (R99)
  blowing   : Option (Option Nat × Nat)  -- a request whose fuses blow: its context (none: mailbox) and its OP
deriving DecidableEq, Repr

/-! ## The recipe (R109–R146) -/

/-- One policy cell (R147). -/
structure Cell where
  lut    : BitVec 64
  sel    : Vector Nat 6
  latch  : Bool
  timer  : Nat
  timerN : Nat
deriving DecidableEq, Repr

/-- A guard entry (R126). -/
structure GuardEntry where
  guard   : Nat
  static  : Bool
  source  : Nat
deriving DecidableEq, Repr

/-- A PLAIT entry (R119). -/
structure PortEntry where
  port       : Nat
  brisk      : Bool
  pullup     : Nat
  maxPos     : Nat
  retries    : Nat
  spuLimitMs : Nat
  probeMs    : Nat
  sprinkleMs : Nat
deriving DecidableEq, Repr

/-- An accessory class (R120). -/
structure AccClass where
  id           : Nat
  counterClass : Nat
  missLimit    : Nat
  multiHost    : Bool
  beatMs       : Nat
  defaultLimit : Nat
  name         : BitVec 128        -- 16 octets of ASCII, padded with 0x00
deriving DecidableEq, Repr

/-- A counter class (R120). -/
structure CtrClass where
  id         : Nat
  tokenRaise : Bool
  maxLimit   : Nat
deriving DecidableEq, Repr

/-- A QUEUES entry (R121). -/
structure QueueEntry where
  queue    : Nat
  cls      : Nat
  maxIn    : Nat
  affinity : BitVec 16
deriving DecidableEq, Repr

/-- A SUPPLY entry (R123, R315). -/
structure SupplyEntry where
  channel  : Nat
  profile  : Nat
  hz       : Nat
  scale    : Nat
  nominal  : Nat
  low      : Nat
  high     : Nat
  intr     : Nat
  warn     : Nat
  fail     : Nat
  hyst     : Nat
  trans    : Nat
  ripple   : Nat
  freqTol  : Nat
  holdupUs : Nat
  role     : Nat
deriving DecidableEq, Repr

/-- A SETTINGS entry (R125). -/
structure Setting where
  off   : Nat
  value : Word
  mask  : Word
deriving DecidableEq, Repr

/-- A recipe, as its sections define it, with the hash of each section (R109–R126). -/
structure Recipe where
  generation : Nat
  floor      : Nat
  hashes     : List (Nat × BitVec 256)   -- section type and HASH
  tamperMask : BitVec 8
  requireGo  : Bool
  lostQuar   : Bool
  drainPlait : Nat
  drainEngine : Nat
  balls      : List (Nat × Nat)          -- ball index and function code
  ports      : List PortEntry
  acc        : List AccClass
  ctr        : List CtrClass
  queues     : List QueueEntry
  chanA      : Bool
  chanB      : Bool
  rctA       : Nat
  rctB       : Nat
  aptA       : Nat
  aptB       : Nat
  reseedInt  : Nat
  supply     : List SupplyEntry
  glzOn      : Bool
  glzRates   : BitVec 5
  glzLed     : Nat
  glzIdleS   : Nat
  glzLockMs  : Nat
  settings   : List Setting
  cells      : List Cell
  guards     : List GuardEntry
deriving DecidableEq, Repr

/-- What RCP_CMD is doing while CMD_BUSY is 1. -/
inductive RcpJob where
  | erase (slot : Nat)
  | program (slot : Nat) (data : Bytes)
  | closing (slot : Nat)
  | verifying (slot : Nat)
  | activateVerify
  | activateApply
  | floor
deriving DecidableEq, Repr

/-- A write session (R134). -/
structure Session where
  slot   : Nat
  owner  : Requester
  offset : Nat
deriving DecidableEq, Repr

/-- A live reload in progress after step 5 (R137): the recipe whose sections apply, what is still to apply, and the
ports still to reach REJOINING or OFF. -/
structure Activation where
  recipe     : Recipe
  classesDue : Bool
  fabricDue  : Bool
  portsTodo  : List Nat
deriving DecidableEq, Repr

/-- Unit service states (R142), as RCP_UNIT_STATE codes them. -/
inductive UnitState where
  | active
  | draining
  | quiesced
  | rejoining
  | off
deriving DecidableEq, Repr

/-- Why a unit drains. -/
inductive DrainFor where
  | restart
  | off
  | update
deriving DecidableEq, Repr

/-- One unit. -/
structure UnitSt where
  st       : UnitState
  drainFor : DrainFor
  drainEnd : BitVec 64
  passed   : Bool                 -- a rejoining engine that passed its self-test (R391)
deriving DecidableEq, Repr

/-- The RCP_ block (R129–R132). -/
structure Rcp where
  resultA    : Nat
  resultB    : Nat
  loadedB    : Bool
  busy       : Option RcpJob
  activating : Option Activation
  actBit     : Bool
  snapStale  : Bool
  cmdResult  : Nat
  gen        : Nat
  loadedFloor : Nat
  win        : Tab Byte
  session    : Option Session
  recipe     : Option Recipe      -- the recipe that runs
  pendingRcp : Option Recipe      -- verified at step 4, loaded at step 6; or verified by an ACTIVATE
  units      : Tab UnitSt
  earlyFails : List Nat           -- engines that failed before the SCH_ block is loaded (R60)
  testOff    : List Nat           -- units that a failed test has switched OFF (R258)
deriving DecidableEq, Repr

/-! ## Fabric and guards (R147–R173) -/

structure Fabric where
  cells     : List Cell
  guards    : List GuardEntry
  fresh     : Bool                -- no tick of this netlist has been evaluated yet
  newNet    : Option (List Cell × List GuardEntry)   -- takes over at the next tick (R138)
  ticks     : BitVec 64
  out       : BitVec 1024
  latch     : BitVec 1024
  counts    : Tab Nat
  lastIn    : BitVec 1            -- FAB_PEEK_VAL's sample
  peekSel   : Nat
  cellSel   : Nat
  -- guards
  enabled   : BitVec 256
  prevTrue  : BitVec 256          -- the source cell's output on the previous tick of this netlist, stalls aside
  carrier   : BitVec 256          -- live guards whose carrier runs
  enabledAt : Tab Nat             -- the enabling tick of each live guard whose carrier has not started
  fault     : BitVec 256
  permit    : BitVec 256
  stallHold : Bool
deriving DecidableEq, Repr

/-! ## Plait (R174–R240) -/

/-- PLT_STAT.STATE (R203). -/
inductive PortState where
  | off
  | held
  | charge
  | reset
  | enumerate
  | running
  | fault
  | stopped
deriving DecidableEq, Repr

/-- A tag session (R227, R228, R230). -/
structure TagSession where
  kbt   : BitVec 128
  ktb   : BitVec 128
  epoch : BitVec 32
  mseq  : Nat
  hist  : BitVec 32
  snap  : BitVec 32
deriving DecidableEq, Repr

/-- Who a full authentication, or a transaction, is for. -/
inductive Owner where
  | host (ctx : Nat)
  | beat
  | catchup
  | auth
  | collect
  | prio
  | enum
  | probe
  | check
deriving DecidableEq, Repr

/-- The stages of a full authentication (R227, R335). -/
inductive AuthStage where
  | cert (chunk : Nat)
  | issuer                         -- a page of the issuer table is being fetched
  | verify                         -- an ECC engine checks the certificate
  | bind                           -- a page of the record or the tag index is being fetched
  | bindCommit                     -- the record-creation LIMIT entry is being committed
  | bindRound                      -- the binding's write-back round runs
  | keys                           -- the ephemeral key is drawn and Z computed
  | agree
  | adopt                          -- the ADOPT entry is being committed
deriving DecidableEq, Repr

structure Auth where
  owner : Owner
  stage : AuthStage
  cert  : Bytes
  epub  : BitVec 512
  z     : BitVec 256
  priv  : Option (BitVec 256)      -- the ephemeral private key, once drawn
  key   : BitVec 512               -- the issuer key the certificate is checked under (R226)
  count : Nat                      -- the count the tag reported (R227)
  unit  : Option Nat               -- the ECC engine that holds its work (R386)
  begun : Bool                     -- its first transaction has begun
  binding : Nat                    -- the record being bound
deriving DecidableEq, Repr

/-- The stored fields of a record (R333). -/
structure Record where
  state     : Nat
  classId   : Nat
  caps      : BitVec 8
  issuer    : Nat
  epoch     : BitVec 32
  authCount : Word
  tagId     : BitVec 128
  vendor    : BitVec 64
  tagPub    : BitVec 512
  label     : BitVec 256
  user      : BitVec 768
deriving DecidableEq, Repr

/-- A beat prepared ahead or from its release (R400, R404). -/
structure BeatPrep where
  nonce   : Option (BitVec 64)
  mac     : BitVec 64
  count   : Nat
  snap    : BitVec 32
  tagId   : BitVec 128
  epoch   : BitVec 32
  rcpGen  : Nat
  page    : Nat
  copy    : Option Record          -- the copy of the record
  version : Nat                    -- the page version of that copy
  frame   : Bool                   -- its page lies in a speculation frame
  body    : List Bool              -- the prepared CHALLENGE frame without ACK and CRC: ADDR, OP, NONCE and CRUMB
  lane    : Option Nat             -- the AES lane (unit number) on which its MAC is unfinished
deriving DecidableEq, Repr

/-- One position of a port (R236, R238). -/
structure Pos where
  verdict    : Nat
  session    : Option TagSession
  catchupDue : Bool
  reason     : Nat
  misses     : Nat
  lastCrumb  : BitVec 4
  brisk      : Bool
  counter    : Bool
  classId    : Nat
  nvHold     : Nat                 -- NV_HOLD of the certificate, in 10 µs
  parity     : Bool
  tagId      : Option (BitVec 128)
  record     : Option Nat
  sprinkle   : List Bool
  auth       : Option Auth
  authAt     : Option Nat          -- release time of a due AUTH
  beatAt     : Option Nat          -- next release of the BEAT series
  beatBusy   : Bool                -- the latest BEAT job has not retired or been dropped
  shadow     : Option BeatPrep     -- speculative preparation
  catchupAt  : Option Nat
  prioAt     : Option Nat
  adoptWait  : Option Nat          -- a tag count whose ADOPT entry is being committed
deriving DecidableEq, Repr

/-- A transaction that is on the wire (R181, R183). -/
structure Txn where
  owner   : Owner
  op      : Nat                    -- the opcode of R212
  pos     : Nat
  payload : Bytes
  tries   : Nat
  holdUs  : Nat                    -- the hold of one attempt
  holdUsed : Nat                   -- hold time the command has used
  holding : Bool
  finish  : Bool                   -- the frame on the wire, or the next one, is a FINISH
  due     : Bool                   -- a FINISH is to be sent (R216)
  silent  : Bool                   -- no try of the command has had an answer (R193)
deriving DecidableEq, Repr

/-- Windows in which a port accepts presence. -/
inductive Window where
  | none
  | presence (probe : Bool)
  | extension
  | release                        -- the 1 ms release of a FAULT recovery check
deriving DecidableEq, Repr

/-- A released job (R392). -/
structure Job where
  kind     : Nat                   -- 0 BEAT, 1 CATCHUP, 2 AUTH, 3 PROBE, 4 COLLECT, 5 PRIORITY_COLLECT
  pos      : Nat
  deadline : Nat
  ctx      : Bool                  -- it holds a beat context
  prep     : Option BeatPrep
  todo     : List Nat              -- COLLECT: positions still to collect
  sent     : Nat                   -- COLLECT frames sent to the current position
deriving DecidableEq, Repr

/-- A chain check in progress (R193). -/
structure ChainCheck where
  pos   : Nat
  next  : Nat
  answered : List Nat
deriving DecidableEq, Repr

/-- One Plait port. -/
structure Port where
  entry    : Option PortEntry
  newEntry : Option (Option PortEntry)   -- the profile an update applies at QUIESCED (R138)
  state    : PortState
  fault    : Nat
  spuOn    : Bool
  spuWait  : Option Nat            -- request order of a port waiting for a place
  spuPlace : Bool
  chainLen : Nat
  present  : BitVec 32
  mute     : BitVec 32
  event    : BitVec 8
  reenum   : Bool
  reenumRuns : Bool                -- the reset sequence that REENUM asked for runs
  probeReq : Bool
  resetDue : Bool
  charge   : Bool                  -- the due reset sequence begins with its charge period
  uprobe   : Bool                  -- a probe scheduled by R192 or R193
  enumPos  : Nat
  enumFirst : Nat                  -- the first position of this enumeration
  expect   : Bool                  -- a presence opened position enumPos, ASSIGN is due
  window   : Window
  trimSent : Bool
  txn      : Option Txn
  check    : Option ChainCheck
  checkq   : List Nat              -- silent positions whose chain checks come after it
  jobs     : List Job
  hostq    : List Nat              -- contexts waiting for the port, in order
  probeAt  : Option Nat
  collectAt : Option Nat
  pos      : Tab Pos
  erasures : Word
  noanswer : Word
  contention : Word
  presFall : Nat
  presWidth : Nat
  crcerr   : Word
  retries  : Word
  tstatErr : Word
  sprMsgs  : Word
  sprDrops : Word
  authFails : Word
  powerLow : Word
deriving DecidableEq, Repr

/-! ## Entropy and the Proofer (R241–R284) -/

/-- A conditioned block (R252, R255). -/
structure Block where
  seq       : Nat
  idx       : Nat                  -- which 2,048 operational bits of the run fed it
  digest    : BitVec 256
  confirmed : Bool
deriving DecidableEq, Repr

/-- One entropy channel. -/
structure Chan where
  state     : Nat                  -- 0 OFF, 1 STARTUP, 2 HEALTHY, 3 FAILED, 4 DEAD
  retesting : Bool
  retestBit : Bool                 -- ENT_CTRL.RETEST_x
  cause     : Nat
  acquired  : Bool                 -- acquisition (A) or the frequency check (B) of the run is done
  tested    : Bool                 -- the run's startup test has passed
  nextSeq   : Nat                  -- SEQ of the block being filled
  pool      : List Block
  blk       : Nat                  -- blocks' worth of operational bits this run has completed
  taken     : List Block           -- unconfirmed blocks held by a Proofer shadow
  marked    : List Nat             -- `idx` of blocks not yet formed that hold a marked bit
  lastKind  : Nat                  -- kind of the last event: 1 repetition, 2 proportion
  startEvents : Nat                -- events of the run's startup samples
  wasFailed : Bool                 -- FAILED when the previous run of the device ended (R261)
  counted   : Bool                 -- this startup counts as a retest (R261)
  windows   : Nat                  -- windows closed since the run's startup test ended
  bitsClosed : Nat                 -- bits of the stream in closed windows
  recent    : List Nat             -- sample indices of recent events, latest first
  retests   : List (BitVec 64)     -- TICK_NOW at which recent retests began
  rct       : Nat
  apt       : Nat
  events    : Word
  nconf     : Word
  ndisc     : Word
  ndrop     : Word
  estSeq    : Word
  estBits   : Nat
  estOnes   : Nat
  estPairs  : Nat
  estAgree  : Nat
deriving DecidableEq, Repr

structure Entropy where
  a       : Chan
  b       : Chan
  trim    : List Nat               -- the 64 trim codes
  masked  : BitVec 64
  prevMasked : BitVec 64           -- the mask in force in the last closed window
  atEnd   : List Nat               -- consecutive windows each latch has ended at code 0 or 63
  lastLatch : Nat
  fastMhz : Nat
  slowKhz : Nat
  forming : Bool                   -- the Churn forms blocks (R262)
deriving DecidableEq, Repr

/-- A speculative reseed (R275). -/
structure PrfShadow where
  seq   : Nat                      -- the channel A block it is made from
  ws    : BitVec 384               -- the shadow state, after its requests
  count : Nat                      -- generate requests made in the shadow
  out   : Bytes                    -- the shadow buffer
deriving DecidableEq, Repr

/-- One Proofer instance. -/
structure Prf where
  state   : Nat                    -- 0 UNINSTANTIATED, 1 READY, 2 STRETCHING, 3 STOPPED
  ws      : BitVec 384
  since   : Nat
  lastCh  : Nat
  reseeds : Word
  buf     : Bytes
  shadow  : Option PrfShadow
  due     : Bool                   -- it has passed its tests and waits to be instantiated (R270)
deriving DecidableEq, Repr

/-! ## Counters (R285–R311) -/

/-- A checkpoint slot (R299). -/
structure Checkpoint where
  formatOk : Bool
  epoch    : Nat
  seq      : Nat
  chain    : BitVec 128
  binding  : BitVec 128
  counts   : Tab (Nat × Nat)       -- per-record counters other than 0/0
  gcounts  : Tab (Nat × Nat)       -- device-global counters other than 0 / all ones, by their number from 262,144
  mac      : BitVec 128
deriving DecidableEq, Repr

/-- A slot of the entry ring that is not erased (R290, R291). -/
inductive RingSlot where
  | pad
  | entry (e : Entry)
deriving DecidableEq, Repr

/-- Who asked for a commit (R286, R306). -/
inductive CommitOwner where
  | host (ctx : Nat)
  | adopt (port pos : Nat)
  | bind (port pos rec : Nat)
  | token (item : Nat)
deriving DecidableEq, Repr

/-- A request to the counter unit (R295). `plusOne` requests take the value at their turn. -/
structure Commit where
  owner   : CommitOwner
  typ     : Nat
  cause   : Nat
  id      : Nat
  value   : Nat
  plusOne : Bool
  base    : Nat                    -- a token's BASE_LIMIT (R442)
  serial  : BitVec 32
  accepted : Bool                  -- a floor of a token accepted whole (R305)
  tag     : Option (BitVec 128)    -- the TAG_ID a credit token is for (R287)
deriving DecidableEq, Repr

/-- The drain (R297). -/
inductive Drain where
  | idle
  | programming (n : Nat)
  | paused (until_ : BitVec 64)
deriving DecidableEq, Repr

/-- A compaction (R300): the step under way. -/
inductive Compaction where
  | none
  | program (ck : Checkpoint) (begun : Bool)
  | blow (ck : Checkpoint) (begun : Bool)
  | erase
deriving DecidableEq, Repr

structure Counters where
  ready      : Bool
  cache      : Tab (Nat × Nat)     -- per-record counters other than 0/0 (COUNT, LIMIT)
  gcache     : Tab (Nat × Nat)     -- device-global counters other than 0 / all ones
  visible    : Tab Nat             -- COUNT as readers see it, where a commit is not yet published (R296)
  headSeq    : Nat                 -- SEQ of the newest committed entry
  headChain  : BitVec 128          -- its chain value
  ckptSeq    : Nat
  ckptSlot   : Nat
  rejected   : Bool
  reinitDue  : Bool                -- the rejected journal is still to be reinitialized (R303)
  recoverAll : Bool                -- every counter was marked RECOVERING (R303)
  recovered  : List Nat            -- those that have cleared the mark
  queue      : List Commit         -- requests, the head being committed when `busy`
  arrivals   : List Commit         -- requests of the cycle in progress, not yet ordered (R295)
  busy       : Option Entry
  drain      : Drain
  drainFails : Nat
  drainFail  : Bool
  compaction : Compaction
  ringNext   : Nat                 -- next entry slot of the ring
  sel        : Nat
  commits    : Word
  supplyHolds : Word
  adoptions  : Word
  compactions : Word
  drainRetries : Word
deriving DecidableEq, Repr

/-! ## Flash content -/

/-- An issuer table entry (R339). -/
structure Issuer where
  id    : Nat
  state : Nat
  gen   : Nat
  key   : BitVec 512
deriving DecidableEq, Repr

/-- A header block of record flash (R345) with what it stands for. -/
structure Header where
  magicOk   : Bool
  formatOk  : Bool
  round     : Nat
  capacity  : Nat
  issuerGen : Nat
  binding   : BitVec 128
  root      : List Nat             -- the eight root counters
  copyMap   : BitVec 512
  mac       : BitVec 128
  copies    : List Nat             -- what COPY_MAP says: the blocks whose second copy is current
  tree      : Tab Nat              -- the counters of the tree it names, by node
  records   : Tab Record
  index     : List (BitVec 128 × Nat)
  issuers   : Tab Issuer
  versions  : Tab Nat
deriving DecidableEq, Repr

structure Flash where
  slotA    : Bytes                 -- programmed bytes of a recipe slot; every later byte reads 0xFF
  slotB    : Bytes
  snaps    : Tab Snapshot
  ring     : Tab RingSlot
  ckpt0    : Option Checkpoint
  ckpt1    : Option Checkpoint
  hdr0     : Option Header
  hdr1     : Option Header
  copies   : List (Nat × Bool)     -- programmed copies of the Larder's blocks; true: the second copy
  bootLog2 : Nat
  recLog2  : Nat
  clock    : Nat
deriving DecidableEq, Repr

/-! ## Supply Watch (R312–R332) -/

/-- One Supply Watch channel. Supply values are exact, in mV (R313). -/
structure SpwChan where
  on       : Bool
  acquire  : Bool
  lost     : Bool
  lostAt   : BitVec 64
  level    : Nat                   -- 10 mV units
  freq     : Nat                   -- 10 mHz units
  events   : BitVec 9
  clip     : Bool
  seen     : BitVec 9
  min      : BitVec 16
  max      : BitVec 16
  slope    : Int                   -- supply µV per µs
  ripple   : Nat
  onsets   : Word
  samples  : List Rat              -- latest first; AC: less the offset
  sampleAt : Nat                   -- TICK_NOW of the latest sample
  count    : Nat                   -- samples since the channel start
  v8s      : List Rat              -- V8 after each of the latest samples, latest first (DC)
  offset   : Rat                   -- what AC samples are less by
  cycSum   : Rat                   -- sum and number of the samples of the cycle in progress (AC)
  cycN     : Nat
  halfSq   : Rat                   -- sum of squares and number of the samples of the half cycle in progress (AC)
  halfN    : Nat
  lastHalf : Option (Rat × Nat)    -- the same of the half cycle before it
  bounded  : Bool                  -- a half-cycle boundary has come
  cycles   : Nat                   -- cycle boundaries since the channel start
  above    : Option Bool           -- the last side of the hysteresis band the signal was beyond (AC)
  zeroAt   : Option Rat            -- the latest instant at which the signal rose through zero, µs
  crossAt  : Option Rat            -- that of the crossing which began the cycle in progress
  lastCross : BitVec 64            -- TICK_NOW of the last positive-going crossing or of the channel start
  synth    : Option Nat            -- half periods closed without a crossing
  nominal  : Nat                   -- half-cycle boundaries whose cycle holds such a closing
  outRun   : Nat
  inRun    : Nat
  goodHalf : Nat                   -- half-cycle values at or above WARN + HYST since LOST
  transEnd : Option (BitVec 64)
  winMin   : Option Rat            -- the ripple window in progress
  winMax   : Option Rat
  winWhole : Bool                  -- it began after the channel start
deriving DecidableEq, Repr

structure Supply where
  running  : Bool
  next     : Nat                   -- the channel the next conversion samples from upward
  lastConv : Option (BitVec 64)
  early    : Bool
  clearAt  : Option (BitVec 64)    -- when the 10 ms wait of R322 ends
  pred     : Option (Nat × Nat)    -- T_PRED and SOURCE
  rises    : Word
  lastRise : BitVec 64
  chans    : Vector SpwChan 8
deriving DecidableEq, Repr

/-! ## The Larder (R333–R357) -/

/-- A frame of the record cache (R342, R343). -/
structure Frame where
  page   : Nat
  ref    : Bool
  pins   : List Nat
  dirty  : Bool                    -- dirty with respect to DDR4
deriving DecidableEq, Repr

/-- What needs a write-back round. -/
inductive Need where
  | bind (port pos rec : Nat)
  | issuer (ctx : Nat) (old : Tab Issuer) (oldGen : Nat)
  | glaze
  | flush
  | prelude
deriving DecidableEq, Repr

structure Round where
  pages   : List (Nat × BitVec 64)
  records : Tab Record             -- the image this round writes
  index   : List (BitVec 128 × Nat)
  issuers : Tab Issuer
  versions : Tab Nat
  tree    : Tab Nat
  gen     : Nat
  needs   : List Need
deriving DecidableEq, Repr

/-- A parked posted write (R352). -/
structure Parked where
  off  : Nat
  data : Bytes
deriving DecidableEq, Repr

/-- A posted write that waits for an unpin (R343), with what its page's fetch shows. -/
structure Stalled where
  off  : Nat
  data : Bytes
  chk  : PageCheck
deriving DecidableEq, Repr

/-- A speculation frame (R342, R405): its page, at the version it was fetched at, and the shadows that use it. -/
structure SpecFrame where
  page    : Nat
  uses    : Nat
  version : Nat
  records : List Record            -- the page's records
deriving DecidableEq, Repr

structure Larder where
  isOpen    : Bool
  fresh     : Nat
  capacity  : Nat
  header    : Nat                  -- 0 or 1: the current header block
  round     : Nat                  -- ROUND of the current header
  issuerGen : Nat
  records   : Tab Record           -- records as the cache and DDR4 hold them
  index     : List (BitVec 128 × Nat)
  issuers   : Tab Issuer
  frames    : List Frame
  hand      : Nat
  ddr       : Tab Bytes            -- pages in DDR4: ciphertext and tag
  ddrNodes  : List Nat             -- tree nodes in DDR4
  versions  : Tab Nat              -- 56-bit page versions
  tree      : Tab Nat              -- 56-bit counters of the tree, by the node they count for
  dirty     : List (Nat × BitVec 64)   -- pages dirty with respect to flash, and since when
  poisoned  : List Nat
  poisonPage : Nat
  faults    : List Nat             -- page fetches in progress
  running   : Option Round
  needs     : List Need
  holdoff   : Option (BitVec 64)
  roundFail : Bool
  full      : Bool
  flush     : Bool
  flushNext : Bool                 -- LDR_CTRL.FLUSH was written while a round that serves it runs
  stalled   : List Stalled         -- posted writes that wait for a frame
  locked    : List Nat             -- records under a Glaze commit lock
  lockAt    : BitVec 64
  lockOld   : Tab Record           -- their stored fields as they stood when the lock began
  parked    : List Parked
  lockWait  : List Nat             -- contexts waiting for the lock, in arrival order
  errAddr   : BitVec 64
  errCause  : Nat
  errWrite  : Bool
  errMore   : Bool
  errValid  : Bool
  integritySeen : Bool
  specFrames : List SpecFrame
  cFaultsDdr : Word
  cFaultsFlash : Word
  cEvictions : Word
  cRounds    : Word
  cIntegrity : Word
  cRecovered : Word
  cDrops     : Word
  cOrphans   : Word
  cRoundFails : Word
deriving DecidableEq, Repr

/-! ## Queues, contexts, scheduler, speculation (R358–R421) -/

/-- A descriptor (R367). -/
structure Desc where
  opcode   : Nat
  flags    : BitVec 8
  rsvOk    : Bool                  -- every reserved byte is 0
  target   : BitVec 32
  cmdTag   : BitVec 64
  deadline : BitVec 64
  bufAddr  : BitVec 64
  bufLen   : Nat
  param0   : BitVec 32
  param1   : BitVec 64
deriving DecidableEq, Repr

/-- A fetched descriptor that holds no context. -/
structure Fetched where
  desc    : Desc
  fetched : BitVec 64
deriving DecidableEq, Repr

/-- Where an operation stands. -/
inductive Phase where
  | page (p : Nat)                 -- waiting for a page
  | commit                         -- its entry waits for or is in the counter unit
  | port                           -- waiting for its port, or on it
  | auth                           -- its authentication runs
  | lock                           -- waiting for a Glaze commit lock
  | round                          -- waiting for a write-back round
  | gather                         -- RANDOM: gathering output
  | blow                           -- LIFECYCLE: fuses blow
  | engine                         -- waiting for an engine's result
  | ecc                            -- waiting for an ECC engine
deriving DecidableEq, Repr

/-- An operation that holds a context (R382). -/
structure Op where
  ctx       : Nat
  q         : Nat
  desc      : Desc
  eff       : Nat                  -- effective deadline (R374)
  phase     : Phase
  pastPoint : Bool                 -- past its point of no return (R373)
  committed : Bool
  count     : Nat                  -- the committed count, or the tag's count
  record    : Nat
  offset    : Nat                  -- tag memory octets read
  data      : Bytes
deriving DecidableEq, Repr

/-- One queue pair (R397). -/
structure Queue where
  enable   : Bool
  irqEn    : Bool
  state    : Nat                   -- 0 DISABLED, 1 RUNNING, 2 DISABLING, 3 ERROR
  err      : Nat
  log2     : Nat
  sqBase   : BitVec 64
  cqBase   : BitVec 64
  winBase  : BitVec 64
  winLimit : BitVec 64
  fetch    : Nat
  tail     : Nat
  write    : Nat
  head     : Nat
  phase    : Bool
  unread   : Nat                   -- completion entries written and not yet released
  irqCount : Nat
  irqTime  : Nat
  evmask   : BitVec 8
  rttNs    : Nat
  starved  : Word
  completions : Word
  late     : Word
  bq       : Nat
  buf      : List Fetched
  reading  : Nat                   -- descriptors requested
  evBufs   : List Desc             -- EVENT_BUF buffers held
  unsent   : Nat                   -- entries written since the last message
  oldest   : Option (BitVec 64)    -- when the oldest of them was written
  moved    : Nat                   -- descriptors moved in the current epoch
  rate     : List Nat              -- moved in each of the last 100 epochs
  overrun  : Nat                      -- consecutive epochs with B_q above T_q
deriving DecidableEq, Repr

/-- A completion that waits for bus mastering or D0 (R453), with the buffer write before it. -/
structure Held where
  q      : Nat
  desc   : Desc
  status : Status
  result : Bytes
  dma    : Option Bytes
  host   : Bool                    -- it still holds a host context
  count  : Option (Nat × Nat)      -- the counter and COUNT that show with it (R31)
deriving DecidableEq, Repr

structure Scheduler where
  ops       : List Op
  held      : List Held
  hostPeak  : Nat
  beatPeak  : Nat
  lastServed : Nat
  store     : List (Nat × Bytes)   -- the device event store: queue and record
  evSeq     : BitVec 32
  released  : Word
  beatsLate : Word
  misses    : Word
  authLate  : Word
  otherLate : Word
  ctxWaits  : Word
  selfFails : Word
  lastFail  : Nat
  lastFailOk : Bool
  classesNew : Option (List AccClass × List CtrClass)   -- applies at the next epoch (R138)
  acc       : List AccClass        -- classes in force
  ctr       : List CtrClass
  firstBeat : Tab Nat              -- per class: TICK_NOW + 1 of its first BEAT release (R417)
  warm      : List Nat
  spuSeq    : Nat                  -- order of strong pull-up requests
  epochDue  : Bool                 -- TICK_NOW has just advanced to a multiple of 10 (R25)
deriving DecidableEq, Repr

/-- The SPC_ counters (R421). -/
structure Spec where
  started   : Word
  confirmed : Word
  squashed  : Word
  sqIdentity : Word
  sqEpoch   : Word
  sqGen     : Word
  sqUnit    : Word
  sqContext : Word
  sqEngine  : Word
  nonces    : Word
  recomputes : Word
  pagesFetched : Word
  pagesStale : Word
  prfShadows : Word
  prfConfirmed : Word
  prfSquashed : Word
  preemptions : Word
deriving DecidableEq, Repr

/-! ## Glaze (R422–R446) -/

/-- A staged item (R438). -/
inductive GlzItem where
  | token (record : Nat) (tagId : BitVec 128) (serial : BitVec 32) (base raise : Nat)
  | label (record : Nat) (text : BitVec 256)
deriving DecidableEq, Repr

/-- A handshake between HELLO and PROVE (R435). -/
structure GlzHand where
  body      : Bytes                -- the HELLO body
  reply     : Option Bytes         -- the HELLO_REPLY body, once sent
  bnonce    : BitVec 128
  priv      : BitVec 256           -- the ephemeral private key of EPUB_B
deriving DecidableEq, Repr

/-- A request whose page waits for a frame of the record cache (R343), with what the page's fetch shows. -/
inductive GlzStall where
  | token (t : Bytes) (chk : PageCheck)
  | label (record : Nat) (text : Bytes) (chk : PageCheck)
deriving DecidableEq, Repr

structure GlzSession where
  loaderId : BitVec 32
  rights   : BitVec 4
  klb      : BitVec 128
  kbl      : BitVec 128
  rate     : Nat
  lastSeq  : Nat
  stored   : Bytes                 -- the response to the last request
  drops    : Nat
  lastAt   : BitVec 64
  staged   : List GlzItem
deriving DecidableEq, Repr

/-- A COMMIT in progress (R442). -/
structure GlzCommit where
  seq      : Nat
  items    : List GlzItem
  statuses : List (Option Nat)     -- the items' statuses; none while open
  labelsIn : Bool                  -- the labels are written and the round is requested
  lockEnded : Bool                  -- its lock has ended
deriving DecidableEq, Repr

structure Glaze where
  state     : Nat                  -- 0 OFF, 1 IDLE, 2 HANDSHAKE, 3 SESSION, 4 COMMIT
  rate      : Nat
  nextRate  : Option Nat           -- the rate in force after the transmission in progress ends
  sending   : Bool
  waiting   : Option (Bytes × Option Nat)   -- a response held back by the hush, with the rate after it
  blind     : Bool
  hushEnd   : Option (BitVec 64)
  ambient   : Nat
  close     : Bool
  lastHello : Option (BitVec 64)   -- when the last handshake began
  hand      : Option GlzHand
  session   : Option GlzSession
  commit    : Option GlzCommit
  stalled   : Option GlzStall
  framesOk  : Word
  fcsErrors : Word
  discBlind : Word
  discPulses : Word
  abortAmp  : Word
  badPulses : Word
  authFails : Word
  sessDrops : Word
  tokens    : Word
deriving DecidableEq, Repr

/-! ## Links, requesters, statistics (R447–R488) -/

structure Links where
  perstN    : Bool                 -- PERST_N high
  linkUp    : Bool
  speed     : Nat
  width     : Nat
  reversed  : Bool
  busMaster : Bool
  d3hot     : Bool
  fnMask    : Bool
  msixTable : Tab Byte             -- 0x0000–0x400F of the table
  pba       : BitVec 1025
  straps    : BitVec 6
  trained   : Bool
  ddrCe     : Word
  ddrUe     : Word
  ddrErrAddr : BitVec 64
  zqCount   : Nat                  -- ZQ calibrations run (R458); no register shows it
  tap       : TapInstr
deriving DecidableEq, Repr

structure Msp where
  frameErr   : Bool
  checkErr   : Bool
  headerErr  : Bool
  reject     : Bool
  attn       : BitVec 4
  frames     : Word
  errors     : Word
  mbox       : Option Nat          -- OP while MBOX_BUSY is 1
  mboxStat   : Nat
  mboxData   : Tab Byte
deriving DecidableEq, Repr

structure Stats where
  rejects   : Word
  unmapped  : Word
  widthErr  : Word
  dbDrops   : Word
  evDrops   : Word
  quiesce   : Word
  stalls    : Word
  grdFaults : Word
  ctxFull   : BitVec 64
  devMsgs   : Word
  status    : Tab Word             -- STS_STATUS00–17
deriving DecidableEq, Repr

/-! ## The whole -/

structure State where
  pending : List Instr
  out     : List Output
  /-- The model's own: which free value the next undefined quantity takes (Config.freeNat). -/
  free    : Nat
  mode    : Mode
  refclk  : Bool                   -- REFCLK present and in its lock range
  tick    : BitVec 64              -- TICK_NOW
  kept    : Kept
  mod     : Mod
  vig     : Vigil
  otp     : Otp
  life    : Life
  rcp     : Rcp
  fab     : Fabric
  ports   : Tab Port
  ent     : Entropy
  prf     : Vector Prf 4
  rngEmpty : Bool                  -- RNG_STAT.EMPTY_READ
  cnt     : Counters
  flash   : Flash
  spw     : Supply
  ldr     : Larder
  que     : Tab Queue
  sch     : Scheduler
  spc     : Spec
  glz     : Glaze
  links   : Links
  msp     : Msp
  sts     : Stats
  irqStat : BitVec 13              -- GLB_IRQ_STAT
  holdPcie : Tab Word              -- hold latches, by register offset (R19)
  holdMsp  : Tab Word
deriving DecidableEq, Repr

/-- No command of the block ends in a fault: the spec gives every row an effect, and a command for which the state
holds no occasion changes nothing (assumption log 2). -/
inductive Fault where
deriving DecidableEq, Repr

inductive Refusal where
  /-- Raised only by a dispatch arm whose meaning is not written yet: safe, the model stops. -/
  | notModelled (mnemonic : String)
deriving DecidableEq, Repr

/-! ## Start values (R20, R70)

Each block's registers at their Start values, as every cold and warm start loads them, and the stores that outlive a
start as they are in a part that has never been powered. -/

def StartCause.none : StartCause :=
  { kind := 0, firstPower := false, perst := false, hostRestart := false, mspRestart := false, quarExit := false,
    pristine := false, anchorLost := false, snapInvalid := false, snapMismatch := false, snapReject := false,
    slotB := false, stageRestarted := false, retire := false, vigilCause := 0, lastMode := 0 }

/-- The bracketed Start values of the kept fields (R418, R474, R486). -/
def Kept.bracket : Kept := { irqEn := 0x1FFF, attnEn := 0xF, lead := 16 }

/-- R42–R46. -/
def Mod.start : Mod :=
  { goReq := false, stageStep := 0, stageDone := false, stageFault := 0, done := [], begun := [], inStep9 := false,
    exitSpare := false, preludeOn := false, nextCause := .none, cause := .none,
    quarCause := .none, zeroized := false, fromMode := 0, readHost := false, readMsp := false, ackDone := false,
    stageBegin := 0, stageTime := 0, snapReq := false, snapAsk := false, snapWrite := .none, snapPending := false,
    snapDeferred := false, snapResult := 0, snapTimer := .none }

/-- The vigil domain with no state (R77): the anchor invalid, every store empty, nothing armed. -/
def Vigil.empty : Vigil :=
  { source := .vbat, intact := false, headSeq := 0, chain := 0, anchorOk := false, buffer := [], snapSlot := 0,
    snapGen := 0, snapOk := false, causes := [], lastMode := 0, shadow := none, record := none, armed := 0,
    latched := 0, firstPair := 0, firstKind := 0, inVigil := false, inhibit := false, zeroPending := false,
    fired := [], detArmed := false, force := false, forceTamper := false, forceTap := false, vbatPresent := false, vbatLow := false,
    wrongA := 0, wrongB := 0, wrongLong := 0 }

def KeySlot.blank : KeySlot := { hashAny := false, hash := 0, active := 0, revoke := 0 }

def KeyBlock.blank : KeyBlock :=
  { used := false, priv := 0, pub := 0, seed := 0, cert := [], marker := false, unblown := true }

/-- OTP as it leaves manufacture (DESIGN CHOICE, assumption log 5): ENROLLED, no customer key, the first identity in
use, its keys 0 and no certificate stored. -/
def Otp.fresh : Otp :=
  { groups := #v[3, 0, 0, 0]
    slots := #v[KeySlot.blank, KeySlot.blank, KeySlot.blank, KeySlot.blank]
    blocks := #v[{ KeyBlock.blank with used := true }, KeyBlock.blank]
    rollback := 0, ratchet := 0, revision := 0 }

def Life.start : Life :=
  { state := 0, completed := false, keyBlock := 0, shown := false, retireWait := false, blowing := none }

/-- R129–R132. -/
def Rcp.start : Rcp :=
  { resultA := 0, resultB := 0, loadedB := false, busy := none, activating := none, actBit := false,
    snapStale := false, cmdResult := 0, gen := 0, loadedFloor := 0, win := [], session := none, recipe := none,
    pendingRcp := none, units := [], earlyFails := [], testOff := [] }

/-- R170–R173. -/
def Fabric.start : Fabric :=
  { cells := [], guards := [], fresh := true, newNet := none, ticks := 0, out := 0, latch := 0, counts := [],
    lastIn := 0, peekSel := 0, cellSel := 0, enabled := 0, prevTrue := 0, carrier := 0, enabledAt := [], fault := 0,
    permit := 0, stallHold := false }

/-- R266–R268. -/
def Chan.start : Chan :=
  { state := 0, retesting := false, retestBit := false, cause := 0, acquired := false, tested := false, nextSeq := 0,
    pool := [], blk := 0, taken := [], marked := [], lastKind := 0, startEvents := 0, wasFailed := false,
    counted := false, windows := 0, bitsClosed := 0, recent := [],
    retests := [], rct := 0, apt := 0, events := 0, nconf := 0, ndisc := 0, ndrop := 0, estSeq := 0, estBits := 0,
    estOnes := 0, estPairs := 0, estAgree := 0 }

def Entropy.start : Entropy :=
  { a := .start, b := .start, trim := List.replicate 64 0, masked := 0, prevMasked := 0, atEnd := List.replicate 64 0, lastLatch := 0,
    fastMhz := 0, slowKhz := 0, forming := false }

/-- R283, R284. -/
def Prf.start : Prf :=
  { state := 0, ws := 0, since := 0, lastCh := 0, reseeds := 0, buf := [], shadow := none, due := false }

/-- R310, R311. -/
def Counters.start : Counters :=
  { ready := false, cache := [], gcache := [], visible := [], headSeq := 0, headChain := 0, ckptSeq := 0,
    ckptSlot := 0, rejected := false, reinitDue := false, recoverAll := false, recovered := [], queue := [], arrivals := [],
    busy := none, drain := .idle,
    drainFails := 0, drainFail := false, compaction := .none, ringNext := 0, sel := 0, commits := 0, supplyHolds := 0,
    adoptions := 0, compactions := 0, drainRetries := 0 }

/-- Both flashes erased, their tables not yet read. -/
def Flash.erased : Flash :=
  { slotA := [], slotB := [], snaps := [], ring := [], ckpt0 := none, ckpt1 := none, hdr0 := none, hdr1 := none,
    copies := [], bootLog2 := 0, recLog2 := 0, clock := 0 }

/-- R330–R332. -/
def SpwChan.start : SpwChan :=
  { on := false, acquire := false, lost := false, lostAt := 0, level := 0, freq := 0, events := 0, clip := false,
    seen := 0, min := 0xFFFF, max := 0, slope := 0, ripple := 0, onsets := 0, samples := [], sampleAt := 0, count := 0,
    v8s := [], offset := 0, cycSum := 0, cycN := 0, halfSq := 0, halfN := 0, lastHalf := none, bounded := false,
    cycles := 0, above := none, zeroAt := none, crossAt := none, lastCross := 0, synth := none, nominal := 0, outRun := 0,
    inRun := 0, goodHalf := 0, transEnd := none, winMin := none, winMax := none, winWhole := false }

def Supply.start : Supply :=
  { running := false, next := 0, lastConv := none, early := false, clearAt := none, pred := none, rises := 0,
    lastRise := 0, chans := Vector.replicate 8 SpwChan.start }

/-- R356, R357. -/
def Larder.start : Larder :=
  { isOpen := false, fresh := 0, capacity := 0, header := 0, round := 0, issuerGen := 0, records := [], index := [],
    issuers := [], frames := [], hand := 0, ddr := [], ddrNodes := [], versions := [], tree := [], dirty := [], poisoned := [], poisonPage := 0,
    faults := [], running := none, needs := [], holdoff := none, roundFail := false, full := false, flush := false,
    flushNext := false, stalled := [], locked := [], lockAt := 0, lockOld := [], parked := [], lockWait := [], errAddr := 0, errCause := 0,
    errWrite := false, errMore := false, errValid := false, integritySeen := false, specFrames := [], cFaultsDdr := 0,
    cFaultsFlash := 0, cEvictions := 0, cRounds := 0, cIntegrity := 0, cRecovered := 0, cDrops := 0, cOrphans := 0,
    cRoundFails := 0 }

/-- R398. -/
def Scheduler.start : Scheduler :=
  { ops := [], held := [], hostPeak := 0, beatPeak := 0, lastServed := 0, store := [], evSeq := 0, released := 0,
    beatsLate := 0, misses := 0, authLate := 0, otherLate := 0, ctxWaits := 0, selfFails := 0, lastFail := 0,
    lastFailOk := false, classesNew := none, acc := [], ctr := [], firstBeat := [], warm := [], spuSeq := 0,
    epochDue := false }

/-- R421. -/
def Spec.start : Spec :=
  { started := 0, confirmed := 0, squashed := 0, sqIdentity := 0, sqEpoch := 0, sqGen := 0, sqUnit := 0,
    sqContext := 0, sqEngine := 0, nonces := 0, recomputes := 0, pagesFetched := 0, pagesStale := 0, prfShadows := 0,
    prfConfirmed := 0, prfSquashed := 0, preemptions := 0 }

/-- R445, R446. -/
def Glaze.start : Glaze :=
  { state := 0, rate := 0, nextRate := none, sending := false, waiting := none, blind := false, hushEnd := none, ambient := 0,
    close := false, lastHello := none, hand := none, session := none, commit := none, stalled := none, framesOk := 0, fcsErrors := 0,
    discBlind := 0, discPulses := 0, abortAmp := 0, badPulses := 0, authFails := 0, sessDrops := 0, tokens := 0 }

/-- R454, R475. -/
def Links.start : Links :=
  { perstN := false, linkUp := false, speed := 0, width := 0, reversed := false, busMaster := false, d3hot := false,
    fnMask := false, msixTable := [], pba := 0, straps := 0, trained := false, ddrCe := 0, ddrUe := 0,
    ddrErrAddr := 0, zqCount := 0, tap := .bypass }

/-- R474. -/
def Msp.start : Msp :=
  { frameErr := false, checkErr := false, headerErr := false, reject := false, attn := 0, frames := 0, errors := 0,
    mbox := none, mboxStat := 0, mboxData := [] }

/-- R484. -/
def Stats.start : Stats :=
  { rejects := 0, unmapped := 0, widthErr := 0, dbDrops := 0, evDrops := 0, quiesce := 0, stalls := 0, grdFaults := 0,
    ctxFull := 0, devMsgs := 0, status := [] }

/-- The block before any supply has reached it (R40, R47): unpowered, every register at its Start value, no vigil
state, OTP as manufactured and both flashes erased (DESIGN CHOICE, assumption logs 4 and 5). -/
def State.reset : State :=
  { pending := [], out := [], free := 0, mode := .unpowered, refclk := true, tick := 0, kept := .bracket, mod := .start,
    vig := .empty, otp := .fresh, life := .start, rcp := .start, fab := .start, ports := [], ent := .start,
    prf := Vector.replicate 4 Prf.start, rngEmpty := false, cnt := .start, flash := .erased, spw := .start,
    ldr := .start, que := [], sch := .start, spc := .start, glz := .start, links := .start, msp := .start,
    sts := .start, irqStat := 0, holdPcie := [], holdMsp := [] }

end Sys2Proof.Machine
end

