-- ==== Sys2Proof/Machine/Ops.lean ====
section
/-! DEFINITION. The operations every family shares: the sparse tables, octet strings and their integer readings (R12),
saturating counters (R484), bit fields, cyclic redundancy checks, and the free values. -/

namespace Sys2Proof.Machine

/-! ## Sparse tables -/

/-- The value at an index, `d` where nothing is listed. -/
def tabGet {α : Type} (d : α) : Tab α → Nat → α
  | [], _ => d
  | (i, v) :: t, k => if i = k then v else tabGet d t k

/-- The entry listed at an index. -/
def tabFind {α : Type} : Tab α → Nat → Option α
  | [], _ => none
  | (i, v) :: t, k => if i = k then some v else tabFind t k

/-- Lists `v` at an index, keeping the indices rising. -/
def tabPut {α : Type} : Tab α → Nat → α → Tab α
  | [], k, v => [(k, v)]
  | (i, w) :: t, k, v => if k < i then (k, v) :: (i, w) :: t else if k = i then (k, v) :: t else (i, w) :: tabPut t k v

/-- Removes what is listed at an index. -/
def tabDel {α : Type} : Tab α → Nat → Tab α
  | [], _ => []
  | (i, w) :: t, k => if i = k then tabDel t k else (i, w) :: tabDel t k

/-- Makes the value at an index `v`: the default is never listed. -/
def tabSet {α : Type} [DecidableEq α] (d : α) (t : Tab α) (k : Nat) (v : α) : Tab α :=
  if v = d then tabDel t k else tabPut t k v

/-- The canonical form: indices strictly rising, nothing listed that equals the default. -/
def tabWf {α : Type} [DecidableEq α] (d : α) : Tab α → Bool
  | [] => true
  | [(_, v)] => decide (v ≠ d)
  | (i, v) :: (j, w) :: t => decide (v ≠ d) && decide (i < j) && tabWf d ((j, w) :: t)

/-- Changes every listed value. -/
def tabMap {α β : Type} (f : Nat → α → β) (t : Tab α) : Tab β :=
  t.map fun e => (e.1, f e.1 e.2)

/-! ## Fixed arrays -/

/-- Element `i` of a fixed array, `d` outside it. -/
def vecGet {α : Type} {n : Nat} (d : α) (v : Vector α n) (i : Nat) : α := if h : i < n then v[i] else d

/-- Replaces element `i` of a fixed array. -/
def vecSet {α : Type} {n : Nat} (v : Vector α n) (i : Nat) (x : α) : Vector α n := v.setIfInBounds i x

/-! ## Octet strings (R12) -/

/-- The integer whose octets are given, least significant first. -/
def leNat : Bytes → Nat
  | [] => 0
  | b :: bs => b.toNat + 256 * leNat bs

/-- `n` octets of an integer, least significant first. -/
def leBytes : Nat → Nat → Bytes
  | 0, _ => []
  | n + 1, v => BitVec.ofNat 8 v :: leBytes n (v / 256)

/-- The integer whose octets are given, most significant first. -/
def beNat (bs : Bytes) : Nat := leNat bs.reverse

/-- `n` octets of an integer, most significant first. -/
def beBytes (n v : Nat) : Bytes := (leBytes n v).reverse

/-- `len` octets from an offset. -/
def slice (bs : Bytes) (off len : Nat) : Bytes := (bs.drop off).take len

/-- The little-endian integer of `len` octets at an offset. -/
def leAt (bs : Bytes) (off len : Nat) : Nat := leNat (slice bs off len)

/-- The big-endian integer of `len` octets at an offset. -/
def beAt (bs : Bytes) (off len : Nat) : Nat := beNat (slice bs off len)

/-- Whether every octet of a span is 0. -/
def zeroAt (bs : Bytes) (off len : Nat) : Bool := (slice bs off len).all (· == 0)

/-- Writes octets over an octet string from an offset, inside its length. -/
def overlay (bs : Bytes) (off : Nat) (d : Bytes) : Bytes :=
  bs.take off ++ (d.take (bs.length - off)) ++ bs.drop (off + d.length)

/-- The octets padded with zeros, or cut, to a length. -/
def padTo (n : Nat) (bs : Bytes) : Bytes := bs.take n ++ List.replicate (n - bs.length) 0

/-- The bits of an octet string, most significant bit of each octet first. -/
def bitsMsb (bs : Bytes) : List Bool := bs.flatMap fun b => (List.range 8).map fun i => b.getLsbD (7 - i)

/-- The bits of an octet string, least significant bit of each octet first. -/
def bitsLsb (bs : Bytes) : List Bool := bs.flatMap fun b => (List.range 8).map fun i => b.getLsbD i

/-- The integer whose bits are given, most significant first. -/
def natOfBits (bs : List Bool) : Nat := bs.foldl (fun n b => 2 * n + b.toNat) 0

/-- The integer whose bits are given, least significant first. -/
def natOfBitsLsb : List Bool → Nat
  | [] => 0
  | b :: bs => b.toNat + 2 * natOfBitsLsb bs

/-- `n` bits of an integer, least significant first. -/
def bitsOfNat (n v : Nat) : List Bool := (List.range n).map fun i => v.testBit i

/-! ## Words and fields -/

/-- Bits [hi:lo] of a word. -/
def fld (w : Word) (hi lo : Nat) : Nat := (w.toNat >>> lo) % 2 ^ (hi - lo + 1)

/-- A word from fields, each given with its lowest bit. -/
def word (fs : List (Nat × Nat)) : Word := BitVec.ofNat 32 (fs.foldl (fun n f => n + f.2 <<< f.1) 0)

/-- Bit `i` of a word. -/
def bit (w : Word) (i : Nat) : Bool := w.getLsbD i

/-- The low and the high word of a 64-bit value. -/
def lowWord (v : BitVec 64) : Word := v.truncate 32

def highWord (v : BitVec 64) : Word := (v >>> 32).truncate 32

/-- A counter that saturates at all ones (R484). -/
def satAdd (w : Word) (n : Nat) : Word := if w.toNat + n < 2 ^ 32 then w + BitVec.ofNat 32 n else BitVec.allOnes 32

def satInc (w : Word) : Word := satAdd w 1

/-- Sets bit `i` of a bit vector to `b`. -/
def setBit {n : Nat} (v : BitVec n) (i : Nat) (b : Bool) : BitVec n :=
  if b then v ||| BitVec.twoPow n i else v &&& ~~~ BitVec.twoPow n i

/-- The number of ones. -/
def popcount {n : Nat} (v : BitVec n) : Nat := ((List.range n).filter v.getLsbD).length

/-- The indices of the ones, lowest first. -/
def onesOf {n : Nat} (v : BitVec n) : List Nat := (List.range n).filter v.getLsbD

/-! ## Cyclic redundancy checks -/

/-- A CRC of a bit sequence, the first bit entering first. -/
def crcBits {w : Nat} (poly init : BitVec w) (bits : List Bool) : BitVec w :=
  bits.foldl (fun c b => if xor c.msb b then (c <<< 1) ^^^ poly else c <<< 1) init

/-- CRC-32C as R113 states it: polynomial 0x1EDC6F41 reflected, initial value and final XOR all ones. -/
def crc32c (bs : Bytes) : BitVec 32 :=
  ((crcBits 0x1EDC6F41#32 (BitVec.allOnes 32) (bitsLsb bs)).reverse) ^^^ BitVec.allOnes 32

/-! ## Free values -/

/-- A value the spec leaves open: it takes the next free value (assumption log 3). -/
def takeFree (w : Nat) (s : State) : BitVec w × State :=
  (BitVec.ofNat w (Config.freeNat s.free), { s with free := s.free + 1 })

/-! ## Lists -/

/-- The first element of a list that a test holds of, and its index. -/
def findIdx {α : Type} (p : α → Bool) : List α → Nat → Option (Nat × α)
  | [], _ => none
  | a :: l, i => if p a then some (i, a) else findIdx p l (i + 1)

/-- The element of a list with the least key, the first of equals. -/
def minBy {α : Type} (key : α → Nat) : List α → Option α
  | [] => none
  | a :: l =>
    match minBy key l with
    | none => some a
    | some b => if key b < key a then some b else some a

/-- Puts an element into a list sorted by a key, after those of an equal key. -/
def insertBy {α : Type} (key : α → Nat) (a : α) : List α → List α
  | [] => [a]
  | b :: l => if key a < key b then a :: b :: l else b :: insertBy key a l

/-- Sorts by a key, keeping the order of equals. -/
def sortBy {α : Type} (key : α → Nat) (l : List α) : List α := l.foldl (fun r a => insertBy key a r) []

/-- Replaces element `i`. -/
def setNth {α : Type} : List α → Nat → α → List α
  | [], _, _ => []
  | _ :: l, 0, v => v :: l
  | a :: l, i + 1, v => a :: setNth l i v

/-- Adds an element to a list that has none twice. -/
def insertNew {α : Type} [DecidableEq α] (l : List α) (a : α) : List α := if a ∈ l then l else l ++ [a]

/-- Adds an element to a rising list. -/
def insertSorted : List Nat → Nat → List Nat
  | [], k => [k]
  | i :: l, k => if k < i then k :: i :: l else if k = i then i :: l else i :: insertSorted l k

end Sys2Proof.Machine
end

