-- ==== Sys2Proof/Machine/Flags.lean ====
section
/-! DEFINITION. Flag computations: the status codes of R483, the device-condition bits of R486, MSP_ATTN (R473), the
statistics of R484 and the MSI-X vectors of R454. -/

namespace Sys2Proof.Machine

/-- Whether CORECLK runs: a powered mode other than VIGIL, with REFCLK (R40, R509). -/
def State.running (s : State) : Bool :=
  (s.mode == .stage || s.mode == .service || s.mode == .quarantine) && s.refclk

/-- The 16-bit status code (R483). -/
def Status.code : Status → Nat
  | .ok => 0x0000
  | .granted => 0x0001
  | .adoptedHigher => 0x0002
  | .retryLater => 0x0010
  | .cancelled => 0x0011
  | .late => 0x0012
  | .supplyHold => 0x0013
  | .locked => 0x0014
  | .entropyStarved => 0x0015
  | .boundary => 0x0020
  | .badDescriptor => 0x0021
  | .notPermitted => 0x0022
  | .absent => 0x0030
  | .notGenuine => 0x0031
  | .tagError => 0x0032
  | .limitReached => 0x0033
  | .integrity => 0x0040
  | .quarantined => 0x00F0

/-- The status's row in R483, from 0: its STS_STATUS register (R484). -/
def Status.row : Status → Nat
  | .ok => 0
  | .granted => 1
  | .adoptedHigher => 2
  | .retryLater => 3
  | .cancelled => 4
  | .late => 5
  | .supplyHold => 6
  | .locked => 7
  | .entropyStarved => 8
  | .boundary => 9
  | .badDescriptor => 10
  | .notPermitted => 11
  | .absent => 12
  | .notGenuine => 13
  | .tagError => 14
  | .limitReached => 15
  | .integrity => 16
  | .quarantined => 17

/-! ## Device conditions (R486) -/

/-- A bit of GLB_IRQ_STAT. -/
inductive Irq where
  | mode
  | quarantine
  | entropy
  | proofer
  | earlyWarning
  | engine
  | guardFault
  | fabStall
  | integrity
  | counter
  | eventLoss
  | queueError
  | plaitFault
deriving DecidableEq, Repr

def Irq.index : Irq → Nat
  | .mode => 0
  | .quarantine => 1
  | .entropy => 2
  | .proofer => 3
  | .earlyWarning => 4
  | .engine => 5
  | .guardFault => 6
  | .fabStall => 7
  | .integrity => 8
  | .counter => 9
  | .eventLoss => 10
  | .queueError => 11
  | .plaitFault => 12

/-- A Stage step has run on this start, so the blocks it loads are there (R517). -/
def State.stepDone (s : State) (n : Nat) : Bool := s.mod.done.contains n

/-- Sets a device condition, once Stage has loaded the block. The message, if one is due, leaves at the end of the
command (R487). -/
def State.raise (s : State) (i : Irq) : State :=
  if s.stepDone 1 then { s with irqStat := setBit s.irqStat i.index true } else s

/-- Sets MSP_ATTN bits (R473): 0 MODE, 1 MBOX_DONE, 2 EARLY_WARNING, 3 QUARANTINE. -/
def State.attend (s : State) (i : Nat) : State :=
  if s.stepDone 1 then { s with msp := { s.msp with attn := setBit s.msp.attn i true } } else s

/-- MSP_ATTN_N is driven low (R473). -/
def State.attnLow (s : State) : Bool := (s.msp.attn &&& s.kept.attnEn) != 0

/-! ## Statistics (R484) -/

/-- Counts a register write discarded under R17; an MSP write sets WRITE_REJECT too (R470). -/
def State.reject (s : State) (r : Requester) : State :=
  { s with
    sts := { s.sts with rejects := satInc s.sts.rejects }
    msp := match r with
      | .pcie => s.msp
      | .msp => { s.msp with reject := true } }

/-- Counts an event that is discarded or dropped (R376, R486). -/
def State.eventLost (s : State) : State :=
  ({ s with sts := { s.sts with evDrops := satInc s.sts.evDrops } }).raise .eventLoss

/-- Counts a completion entry by its status (R484). -/
def State.countStatus (s : State) (st : Status) : State :=
  { s with sts := { s.sts with
      status := tabSet 0 s.sts.status st.row (satInc (tabGet 0 s.sts.status st.row)) } }

/-- Emits what leaves the block. -/
def State.emit (s : State) (o : Output) : State := { s with out := s.out ++ [o] }

/-! ## MSI-X (R366, R453, R454, R487) -/

/-- The mask bit of a vector's table entry. -/
def State.vectorMasked (s : State) (v : Nat) : Bool :=
  (tabGet 0 s.links.msixTable (16 * v + 12)).getLsbD 0 || s.links.fnMask

/-- Bus Master Enable is set and the function is in D0 (R453). -/
def State.canMaster (s : State) : Bool := s.links.busMaster && !s.links.d3hot

/-- A message leaves on a vector; the device vector counts in STS_DEVICE_MSGS. -/
def State.message (s : State) (v : Nat) : State :=
  let s := ({ s with links := { s.links with pba := setBit s.links.pba v false } }).emit (.msix v)
  if v = 1024 then { s with sts := { s.sts with devMsgs := satInc s.sts.devMsgs } } else s

/-- A message falls due: it leaves, or its vector's pending bit is set (R453, R454). -/
def State.signal (s : State) (v : Nat) : State :=
  if s.vectorMasked v || !s.canMaster then
    { s with links := { s.links with pba := setBit s.links.pba v true } }
  else s.message v

/-- Sends the pending message of a vector that may now leave (R454). -/
def State.release (s : State) (v : Nat) : State :=
  if s.links.pba.getLsbD v && !s.vectorMasked v && s.canMaster then
    s.message v
  else s

end Sys2Proof.Machine
end

