-- ==== Sys2Proof/Machine/Operands.lean ====
section
/-! DEFINITION. The operand formats of the host: descriptors (R367, R368), completion entries (R371), event records
(R377), and the ranges a descriptor's fields must keep (R369 order 2). -/

namespace Sys2Proof.Machine

/-! ## Descriptors -/

/-- A descriptor from its 64 octets (R367). -/
def parseDesc (bs : Bytes) : Desc :=
  { opcode := leAt bs 0 1
    flags := BitVec.ofNat 8 (leAt bs 1 1)
    rsvOk := zeroAt bs 2 2 && zeroAt bs 0x30 16
    target := BitVec.ofNat 32 (leAt bs 4 4)
    cmdTag := BitVec.ofNat 64 (leAt bs 8 8)
    deadline := BitVec.ofNat 64 (leAt bs 0x10 8)
    bufAddr := BitVec.ofNat 64 (leAt bs 0x18 8)
    bufLen := leAt bs 0x20 4
    param0 := BitVec.ofNat 32 (leAt bs 0x24 4)
    param1 := BitVec.ofNat 64 (leAt bs 0x28 8) }

/-- FLAGS bit 0. -/
def Desc.hasDeadline (d : Desc) : Bool := d.flags.getLsbD 0

/-- FLAGS bit 1. -/
def Desc.fresh (d : Desc) : Bool := d.flags.getLsbD 1

/-- A position opcode's PORT. -/
def Desc.port (d : Desc) : Nat := fld d.target 15 8

/-- A position opcode's POSITION. -/
def Desc.position (d : Desc) : Nat := fld d.target 7 0

/-- The class of an opcode (R368, with the codes of R121); none: no opcode of R368. -/
def opcodeClass : Nat → Option Nat
  | 0x01 => some 1
  | 0x10 => some 2
  | 0x11 => some 2
  | 0x20 => some 3
  | 0x30 => some 4
  | 0x31 => some 4
  | 0x40 => some 5
  | 0x41 => some 5
  | 0x42 => some 5
  | 0x43 => some 5
  | 0x44 => some 5
  | 0x45 => some 5
  | 0x46 => some 5
  | 0x47 => some 5
  | 0x50 => some 6
  | _ => none

/-- TARGET names a position: POSITION 1–32, PORT 0–127, bits [31:16] 0 (R367). -/
def Desc.targetPosition (d : Desc) : Bool :=
  decide (1 ≤ d.position) && decide (d.position ≤ 32) && decide (d.port ≤ 127) && fld d.target 31 16 == 0

/-- PARAM0 and PARAM1 are 0: the opcode takes no parameters. -/
def Desc.noParams (d : Desc) : Bool := d.param0 == 0 && d.param1 == 0

/-- The fields of a descriptor lie in the ranges of R368, opcode by opcode. -/
def Desc.fieldsOk (d : Desc) : Bool :=
  match d.opcode with
  | 0x01 => d.targetPosition && d.bufLen == 0 && decide (d.param0.toNat ≤ 1) && d.param1 == 0
  | 0x10 => d.targetPosition && d.bufLen == 0 && d.noParams
  | 0x11 => decide (262144 ≤ d.target.toNat) && decide (d.target.toNat ≤ 263167) && d.bufLen == 0 && d.noParams
  | 0x20 => d.target == 0 && decide (1 ≤ d.bufLen) && decide (d.bufLen ≤ 65536) && d.noParams
  | 0x30 => d.targetPosition && decide (16 ≤ d.bufLen) && decide (d.bufLen ≤ 256) && d.bufLen % 16 == 0
      && d.param0.toNat % 16 == 0 && decide (d.param0.toNat < 65536) && d.param1 == 0
  | 0x31 => d.targetPosition && d.bufLen == 0 && decide (d.param0.toNat < 65536) && d.param0.toNat % 8 == 0
  | 0x40 => d.target == 0 && d.bufLen == 160 && d.noParams
  | 0x41 => d.target == 0 && d.bufLen == 184 && d.noParams
  | 0x42 => d.target == 0 && decide (168 ≤ d.bufLen) && decide (d.bufLen ≤ 936) && (d.bufLen - 168) % 12 == 0 && d.noParams
  | 0x43 => decide (d.target.toNat ≤ 263167) && d.bufLen == 0 && d.param0 == 0 && decide (d.param1.toNat < 2 ^ 48)
  | 0x44 => d.target == 0 && decide (4 ≤ d.bufLen) && decide (d.bufLen ≤ 4096) && d.bufLen % 4 == 0
      && d.param1.toNat % 4 == 0 && decide (d.param1.toNat < 2 ^ 28) && d.param0 == 0
  | 0x45 => decide (d.target.toNat ≤ 262143) && decide (4 ≤ d.bufLen) && decide (d.bufLen ≤ 128)
      && d.bufLen % 4 == 0 && d.param0.toNat % 4 == 0 && d.param1 == 0
  | 0x46 => decide (d.target.toNat ≤ 262143) && d.bufLen == 0 && d.noParams
  | 0x47 => d.target == 0 && d.bufLen == 224 && d.noParams
  | 0x50 => d.target == 0 && d.bufLen == 128 && d.noParams && !d.hasDeadline
  | _ => false

/-- R369 order 2: known opcode, reserved bytes and flags 0, FRESH only on a RANDOM of at most 512 octets, every field in
range, and a buffer that does not wrap the address space. -/
def Desc.wellFormed (d : Desc) : Bool :=
  d.rsvOk && decide (d.flags.toNat < 4) && (!d.fresh || (d.opcode == 0x20 && decide (d.bufLen ≤ 512)))
    && d.fieldsOk && decide (d.bufAddr.toNat + d.bufLen ≤ 2 ^ 64)

/-! ## Completion entries -/

/-- The 32 octets of a completion entry (R371). -/
def completionEntry (d : Desc) (tickDone sqHead : Nat) (status : Nat) (phase : Bool) (result : Bytes) : Bytes :=
  leBytes 8 d.cmdTag.toNat ++ leBytes 4 tickDone ++ leBytes 2 sqHead ++ leBytes 2 status
    ++ leBytes 1 d.opcode ++ leBytes 1 phase.toNat ++ [0, 0] ++ padTo 12 result

/-! ## Event records -/

/-- An event record: the 16-octet header and its body (R377). -/
def eventRecord (kind : Nat) (seq : Nat) (tick : Nat) (body : Bytes) : Bytes :=
  leBytes 1 kind ++ [0] ++ leBytes 2 (16 + body.length) ++ leBytes 4 seq ++ leBytes 8 tick ++ body

end Sys2Proof.Machine
end

