-- ==== Sys2Proof/Machine/Events.lean ====
section
/-! DEFINITION. Completions and their vectors (R365, R366, R371, R453), the fetching of descriptors (R360, R364, R378),
events (R375–R377), and the frame every command runs in: what holds at the end of each command whatever it did. -/

namespace Sys2Proof.Machine

/-! ## Queues -/

/-- A queue pair as every start leaves it (R397, R70). -/
def queueIdle : Queue :=
  { enable := false, irqEn := false, state := 0, err := 0, log2 := 0, sqBase := 0, cqBase := 0, winBase := 0,
    winLimit := 0, fetch := 0, tail := 0, write := 0, head := 0, phase := false, unread := 0, irqCount := 1,
    irqTime := 0, evmask := 0, rttNs := 0, starved := 0, completions := 0, late := 0, bq := 0, buf := [], reading := 0,
    evBufs := [], unsent := 0, oldest := none, moved := 0, rate := [], overrun := 0 }

def State.queue (s : State) (q : Nat) : Queue := tabGet queueIdle s.que q

def State.setQueue (s : State) (q : Nat) (x : Queue) : State := { s with que := tabSet queueIdle s.que q x }

/-- The QUEUES entry of a queue in the recipe that Stage loaded (R121, R136). -/
def State.queueEntry (s : State) (q : Nat) : Option QueueEntry :=
  match s.rcp.recipe with
  | none => none
  | some r => r.queues.find? (·.queue == q)

/-- QUE_STAT.CLASS: 0 when the queue has no entry. -/
def State.queueClass (s : State) (q : Nat) : Nat :=
  match s.queueEntry q with
  | none => 0
  | some e => e.cls

/-- The ring size N = 2^LOG2 (R358). -/
def Queue.size (x : Queue) : Nat := 2 ^ x.log2

/-- Completions of a queue that wait for bus mastering and hold a context. -/
def State.heldFor (s : State) (q : Nat) : Nat := (s.sch.held.filter fun h => h.q == q).length

/-- QUE_STAT.INFLIGHT: descriptors in contexts or held buffers. -/
def State.inflight (s : State) (q : Nat) : Nat :=
  (s.sch.ops.filter fun o => o.q == q).length + (s.sch.held.filter fun h => h.q == q && h.host).length
    + (s.queue q).evBufs.length

/-- A DISABLING queue with nothing in flight is DISABLED (R361). -/
def State.settleQueue (s : State) (q : Nat) : State :=
  let x := s.queue q
  if x.state = 2 ∧ x.buf = [] ∧ s.inflight q = 0 ∧ s.heldFor q = 0 then s.setQueue q { x with state := 0, bq := 0 }
  else s

/-! ## Completions -/

/-- Sends a queue's vector when R366 says so. -/
def State.queueVector (s : State) (q : Nat) : State :=
  let x := s.queue q
  let old := match x.oldest with
    | none => false
    | some t => x.irqTime = 0 || decide (t.toNat + x.irqTime < s.tick.toNat)
  if x.irqEn && (decide (x.irqCount ≤ x.unsent) || old) && decide (x.unsent ≠ 0) then
    (s.setQueue q { x with unsent := 0, oldest := none }).signal q
  else s

/-- Writes a completion entry, the buffer before it (R365, R371). -/
def State.writeEntry (s : State) (q : Nat) (d : Desc) (st : Status) (result : Bytes) (dma : Option Bytes) : State :=
  let x := s.queue q
  let s := match dma with
    | none => s
    | some b => s.emit (.dmaWrite d.bufAddr b)
  let s := s.emit (.completion q x.write
    (completionEntry d (s.tick.toNat % 2 ^ 32) x.fetch st.code x.phase result))
  let wrap : Bool := x.write + 1 == x.size
  let s := s.setQueue q { x with
    write := if wrap then 0 else x.write + 1
    phase := xor x.phase wrap
    unread := x.unread + 1
    completions := satInc x.completions
    late := if st = .late then satInc x.late else x.late
    unsent := x.unsent + 1
    oldest := match x.oldest with | none => some s.tick | some t => some t }
  ((s.countStatus st).queueVector q).settleQueue q

/-- Completes a descriptor, or holds its completion until the Borpin may write (R453). `host`: it holds a context. -/
def State.complete (s : State) (q : Nat) (d : Desc) (st : Status) (result : Bytes) (dma : Option Bytes)
    (host : Bool) : State :=
  if s.canMaster then s.writeEntry q d st result dma
  else
    let s := if (s.queue q).irqEn then { s with links := { s.links with pba := setBit s.links.pba q true } } else s
    { s with sch := { s.sch with held := s.sch.held ++ [⟨q, d, st, result, dma, host, none⟩] } }

/-- The completion held last carries a counter's COUNT, which shows with it (R31). -/
def State.holdCount (s : State) (id count : Nat) : State :=
  { s with sch := { s.sch with held := match s.sch.held.reverse with
      | [] => []
      | h :: hs => ({ h with count := some (id, count) } :: hs).reverse } }

/-- A completion that waits carries a COUNT of the counter. -/
def State.countHeld (s : State) (id : Nat) : Bool :=
  s.sch.held.any fun h => match h.count with
    | none => false
    | some c => c.1 == id

/-! ## Contexts -/

def State.op (s : State) (ctx : Nat) : Option Op := s.sch.ops.find? (·.ctx == ctx)

def State.setOp (s : State) (o : Op) : State :=
  { s with sch := { s.sch with ops := s.sch.ops.map fun x => if x.ctx = o.ctx then o else x } }

/-- A context ends: its pages are unpinned (R343). -/
def State.dropOp (s : State) (ctx : Nat) : State :=
  { s with
    sch := { s.sch with ops := s.sch.ops.filter (·.ctx != ctx) }
    ldr := { s.ldr with frames := s.ldr.frames.map fun f => { f with pins := f.pins.filter (· != ctx) } } }

/-- Completes the operation in a context and frees the context. -/
def State.finishOp (s : State) (ctx : Nat) (st : Status) (result : Bytes) (dma : Option Bytes) : State :=
  match s.op ctx with
  | none => s
  | some o => (s.dropOp ctx).complete o.q o.desc st result dma true

/-! ## Fetching (R360, R364, R375, R378) -/

/-- Descriptors of a queue may be fetched in this mode (R360). -/
def State.mayFetch (s : State) (q : Nat) : Bool :=
  s.mode == .service || (s.mode == .quarantine && s.queueClass q == 5)

/-- How many descriptors the next read of a queue covers: 0 when none is issued. -/
def State.readSize (s : State) (q : Nat) : Nat :=
  let x := s.queue q
  let avail := if x.fetch ≤ x.tail then x.tail - x.fetch else x.size - x.fetch
  let room := x.bq - x.buf.length
  let ring := (x.size - 1) - (x.buf.length + s.inflight q + s.heldFor q + x.unread)
  let ev := match s.queueEntry q with
    | none => 0
    | some e => if e.cls = 6 then e.maxIn - (x.evBufs.length + x.buf.length) else avail
  min (min avail room) (min ring ev)

/-- Issues the read a queue is due: one at a time (R378). -/
def State.pumpQueue (s : State) (q : Nat) : State :=
  let x := s.queue q
  if x.state = 1 ∧ x.reading = 0 ∧ s.mayFetch q = true ∧ s.canMaster = true ∧ s.running = true ∧ s.readSize q ≠ 0 then
    (s.setQueue q { x with reading := s.readSize q }).emit (.descriptorRead q x.fetch (s.readSize q))
  else s

/-- Every queue issues the read it is due. -/
def State.pump (s : State) : State := s.que.foldl (fun s e => s.pumpQueue e.1) s

/-! ## Events (R375–R377) -/

/-- Hands a record to the oldest buffer a queue holds (R376). -/
def State.fillBuffer (s : State) (q : Nat) (rec : Bytes) : State :=
  let x := s.queue q
  match x.evBufs with
  | [] => s
  | d :: bs =>
    (s.setQueue q { x with evBufs := bs }).complete q d .ok
      (leBytes 1 (leAt rec 0 1) ++ leBytes 1 rec.length) (some rec) false

/-- The lowest-numbered RUNNING EVENT queue that selects a kind. -/
def State.eventQueue (s : State) (kind : Nat) : Option Nat :=
  if s.mode = .quarantine then none
  else match s.que.find? fun e => e.2.state == 1 && s.queueClass e.1 == 6 && e.2.evmask.getLsbD (kind - 1) with
    | none => none
    | some e => some e.1

/-- Routes an event; the answer's second part says whether a queue was selected. -/
def State.route (s : State) (kind : Nat) (body : Bytes) : State × Bool :=
  let record := eventRecord kind s.sch.evSeq.toNat s.tick.toNat body
  let s := { s with sch := { s.sch with evSeq := s.sch.evSeq + 1 } }
  match s.eventQueue kind with
  | none => (s, false)
  | some q =>
    if (s.queue q).evBufs ≠ [] then (s.fillBuffer q record, true)
    else if s.sch.store.length < 1024 then
      ({ s with sch := { s.sch with store := s.sch.store ++ [(q, record)] } }, true)
    else (s.eventLost, true)

/-- Reports an event other than a Sprinkle message. -/
def State.report (s : State) (kind : Nat) (body : Bytes) : State :=
  let r := s.route kind body
  if r.2 then r.1 else r.1.eventLost

/-- Gives the events waiting in the store to the buffers of their queue, oldest first. -/
def State.drainStore (s : State) (q : Nat) : State :=
  s.sch.store.foldl (fun s e =>
    if e.1 = q ∧ (s.queue q).evBufs ≠ [] then
      ({ s with sch := { s.sch with store := s.sch.store.erase e } }).fillBuffer q e.2
    else s) s

/-- A queue stops taking events: those waiting for it are lost. -/
def State.dropStore (s : State) (q : Nat) : State :=
  let gone := s.sch.store.filter (·.1 == q)
  gone.foldl (fun s _ => s.eventLost) { s with sch := { s.sch with store := s.sch.store.filter (·.1 != q) } }

/-- Entry of a queue into ERROR (R362): 1 DOORBELL, 2 FETCH. -/
def State.queueError (s : State) (q : Nat) (cause : Nat) : State :=
  (((s.setQueue q { s.queue q with state := 3, err := cause, reading := 0 }).dropStore q).raise .queueError).report 8
    (leBytes 2 q ++ leBytes 1 cause)

/-! ## The frame of a command -/

/-- The guards the mode and the guard-force line allow: safe outside SERVICE, while the line is asserted, and from the
acceptance of a RETIRE (R39, R85, R47). -/
def State.safeGuards (s : State) : State :=
  if s.mode = .service ∧ s.vig.force = false ∧ s.life.retireWait = false then s
  else { s with fab := { s.fab with enabled := 0, carrier := 0, enabledAt := [] } }

/-- The guards in static mode. -/
def Fabric.staticMask (f : Fabric) : BitVec 256 :=
  f.guards.foldl (fun v g => if g.static then setBit v g.guard true else v) 0

/-- CORECLK stops: the live carriers stop with it, and an absent carrier is safe; static guards stay as they are until
the guard-force line acts (R28). -/
def State.carriersStop (s : State) : State :=
  { s with fab := { s.fab with enabled := s.fab.enabled &&& s.fab.staticMask, carrier := 0, enabledAt := [] } }

/-- The device vector's message: one for a command in which an enabled bit rises (R487). -/
def State.deviceVector (s : State) (old : BitVec 13) : State :=
  if s.irqStat &&& ~~~ old &&& s.kept.irqEn = 0 then s else s.signal 1024

/-- What holds at the end of every command: the guards follow the mode, due reads and messages leave, and the queue of
waiting commands is the sender's alone. -/
def settle (old s : State) : State :=
  { (s.safeGuards.pump).deviceVector old.irqStat with pending := old.pending }

/-- A command that acts whatever the clock does. -/
def always (s : State) (f : State → State) : Host.Outcome State Fault Refusal :=
  .next (settle s (f s))

/-- A command of the core: it changes nothing while CORECLK does not run. -/
def onClock (s : State) (f : State → State) : Host.Outcome State Fault Refusal :=
  always s fun s => if s.running then f s else s

end Sys2Proof.Machine
end

