-- ==== Sys2Proof/Machine/Identity.lean ====
section
/-! DEFINITION. The device identity, the key blocks and the keys derived from the device secret seed (R95, R96, R105),
the customer key slots (R518) and the lifecycle state (R98, R99). -/

namespace Sys2Proof.Machine

/-! ## P-256 (FIPS 186) -/

/-- A signature (r ‖ s) of a message verifies under a public key X ‖ Y: the deterministic one of its private key, or one
made with another nonce. -/
def ecdsaVerifies (pub : BitVec 512) (msg sig : Bytes) : Bool :=
  sig == beBytes 64 (Config.ecdsaSign (Config.privateKey pub) msg).toNat || Config.ecdsaOther pub msg sig

/-- The prime of P-256's field, and the coefficient b of y² = x³ − 3x + b. -/
def p256 : Nat := 2 ^ 256 - 2 ^ 224 + 2 ^ 192 + 2 ^ 96 - 1
def p256b : Nat := 0x5AC635D8AA3A93E7B3EBBD55769886BC651D06B0CC53B0F63BCE3C3E27D2604B

/-- X ‖ Y is a point of P-256. -/
def onP256 (pub : BitVec 512) : Bool :=
  let x := pub.toNat / 2 ^ 256
  let y := pub.toNat % 2 ^ 256
  decide (x < p256) && decide (y < p256) && y * y % p256 == (x * x * x + (p256 - 3) * x + p256b) % p256

/-! ## Uses of the device secret seed, numbered for Config.deviceKey -/

def useSnapshot : Nat := 1
def useJournal : Nat := 2
def usePage : Nat := 3
def useTree : Nat := 4
def useCheckpoint : Nat := 5

/-! ## Key blocks -/

/-- The block in use: the second one once an identity has been generated in it (R93, R106). -/
def State.activeBlock (s : State) : Nat := if (vecGet KeyBlock.blank s.otp.blocks 1).used then 1 else 0

def State.keyBlock (s : State) : KeyBlock := vecGet KeyBlock.blank s.otp.blocks s.activeBlock

/-- Device keys can be derived: the inhibit is clear and the active block holds an unzeroized identity (R64, R105). -/
def State.hasKeys (s : State) : Bool := !s.vig.inhibit && s.keyBlock.used && !s.keyBlock.marker

/-- The identity is readable, from the end of step 2 on (R96). -/
def State.identityReadable (s : State) : Bool := s.life.shown && s.hasKeys

/-- X ‖ Y of the identity public key. -/
def State.pubBytes (s : State) : Bytes := beBytes 64 s.keyBlock.pub.toNat

/-- DEVICE_BINDING: the first 16 octets of SHA-256 over X ‖ Y (R96); 16 octets of 0 with no identity (R64). -/
def State.binding (s : State) : BitVec 128 :=
  if s.identityReadable then BitVec.ofNat 128 ((Config.sha256 s.pubBytes).toNat / 2 ^ 128) else 0

def State.bindingBytes (s : State) : Bytes := beBytes 16 s.binding.toNat

/-- The 1,024 octets of the GLB_IDCERT window (R96). -/
def State.certWindow (s : State) : Bytes := padTo 1024 (if s.identityReadable then s.keyBlock.cert else [])

/-- A key derived from the device secret seed. -/
def State.key (s : State) (use : Nat) : BitVec 256 := Config.deviceKey s.keyBlock.seed use

/-- VGL_LIFECYCLE.KEYBLOCK (R93). -/
def State.keyBlockField (s : State) : Nat :=
  if s.activeBlock = 0 then 0 else if s.keyBlock.marker then 2 else 1

/-! ## Customer key slots (R518) -/

def State.slot (s : State) (i : Nat) : KeySlot := vecGet KeySlot.blank s.otp.slots i

/-- Fused once any fuse of its hash field or active group is blown. -/
def KeySlot.fused (k : KeySlot) : Bool := k.hashAny || decide (k.active ≠ 0)

/-- Active while its active group is complete and its revoke group is not. -/
def KeySlot.isActive (k : KeySlot) : Bool := k.active == 3 && k.revoke != 3

/-- Revoked once its revoke group is complete. -/
def KeySlot.isRevoked (k : KeySlot) : Bool := k.revoke == 3

/-- One bit per slot. -/
def State.slotMask (s : State) (p : KeySlot → Bool) : Nat :=
  (List.range 4).foldl (fun n i => n + (p (s.slot i)).toNat * 2 ^ i) 0

def State.slotActive (s : State) : Nat := s.slotMask KeySlot.isActive

def State.slotRevoked (s : State) : Nat := s.slotMask KeySlot.isRevoked

/-- KEY_EPOCH: complete active groups of slots 1–3 plus complete revoke groups. -/
def State.keyEpoch (s : State) : Nat :=
  ((List.range 4).filter fun i => decide (1 ≤ i) && (s.slot i).active == 3).length
    + ((List.range 4).filter fun i => (s.slot i).revoke == 3).length

/-! ## Lifecycle state -/

/-- The lifecycle state the complete fuse groups mark (R98): 0 BLANK … 4 RETIRED. -/
def Otp.stateOf (o : Otp) : Nat :=
  if vecGet 0 o.groups 3 = 3 then 4 else if vecGet 0 o.groups 2 = 3 then 3
  else if vecGet 0 o.groups 1 = 3 then 2 else if vecGet 0 o.groups 0 = 3 then 1 else 0

end Sys2Proof.Machine
end

