-- ==== Sys2Proof/Machine/PageTree.lean ====
section
/-! DEFINITION. Larder pages as octets, their encryption and the counter tree over their versions (R333, R339, R341),
and the record-flash image's blocks and header (R345). -/

namespace Sys2Proof.Machine

/-! ## Records and issuer entries as they are stored (R333, R339) -/

/-- A record never bound: FREE. -/
def recordFree : Record :=
  { state := 0, classId := 0, caps := 0, issuer := 0, epoch := 0, authCount := 0, tagId := 0, vendor := 0, tagPub := 0,
    label := 0, user := 0 }

def State.record (s : State) (n : Nat) : Record := tabGet recordFree s.ldr.records n

/-- The 256 octets of a record, with the live octets 0x20–0x31. -/
def Record.octets (r : Record) (live : Bytes) : Bytes :=
  leBytes 1 r.state ++ leBytes 1 r.classId ++ leBytes 1 r.caps.toNat ++ [0] ++ leBytes 2 r.issuer ++ [0, 0]
    ++ leBytes 4 r.epoch.toNat ++ leBytes 4 r.authCount.toNat ++ beBytes 16 r.tagId.toNat
    ++ live ++ List.replicate 6 0 ++ beBytes 8 r.vendor.toNat ++ beBytes 64 r.tagPub.toNat
    ++ beBytes 32 r.label.toNat ++ beBytes 96 r.user.toNat

def issuerEmpty : Issuer := { id := 0, state := 0, gen := 0, key := 0 }

/-- One entry of the issuer table (R339). -/
def Issuer.bytes (x : Issuer) : Bytes :=
  leBytes 2 x.id ++ leBytes 1 x.state ++ [0] ++ leBytes 4 x.gen ++ beBytes 64 x.key.toNat ++ List.replicate 184 0

/-! ## Pages (R334, R341) -/

/-- The index page of a TAG_ID: among system pages 16,384–16,895. -/
def indexPageOf (tagId : BitVec 128) : Nat := 16384 + Config.indexPage tagId % 512

/-- The 4,096 octets of a page as they are encrypted. The live fields of a record are not stored. -/
def State.pageOctets (s : State) (page : Nat) : Bytes :=
  if page < 16384 then (List.range 16).flatMap fun k => (s.record (16 * page + k)).octets (List.replicate 18 0)
  else if page < 16896 then padTo 4096 (Config.indexOctets s.ldr.index (page - 16384))
  else (List.range 16).flatMap fun k => (tabGet issuerEmpty s.ldr.issuers (16 * (page - 16896) + k)).bytes

/-- The 96-bit IV of a page at a version. -/
def pageIv (page version : Nat) : Bytes := leBytes 4 page ++ leBytes 7 version ++ [1]

/-- Ciphertext and tag of a page at its version. -/
def State.sealedPage (s : State) (page : Nat) : Bytes :=
  Config.gcmSeal256 (s.key usePage) (pageIv page (tabGet 0 s.ldr.versions page)) [] (s.pageOctets page)

/-! ## The tree (R341) -/

/-- Nodes are numbered here over the four off-chip levels: 4,096, 512, 64 and 8 of them, the leaf nodes first. -/
def levelBase (level : Nat) : Nat := if level ≤ 1 then 0 else if level = 2 then 4096 else if level = 3 then 4608 else 4672

/-- The node of a level on the path of a page. -/
def nodeOf (level page : Nat) : Nat := levelBase level + page / 8 ^ level

/-- The level of a node. -/
def levelOf (node : Nat) : Nat := if node < 4096 then 1 else if node < 4608 then 2 else if node < 4672 then 3 else 4

/-- The nodes between a page and the root. -/
def pathOf (page : Nat) : List Nat := [1, 2, 3, 4].map fun l => nodeOf l page

/-- A page lies below a node. -/
def below (node page : Nat) : Bool := nodeOf (levelOf node) page == node

/-- The eight counters in a node: of its pages' versions, or of the nodes below it. -/
def nodeCounters (versions tree : Tab Nat) (node : Nat) : List Nat :=
  let l := levelOf node
  let i := node - levelBase l
  (List.range 8).map fun k =>
    if l = 1 then tabGet 0 versions (8 * i + k) else tabGet 0 tree (levelBase (l - 1) + 8 * i + k)

/-- The 64 octets of a node: its counters, and its MAC under the counter that its parent holds for it. -/
def State.nodeOctets (s : State) (node : Nat) : Bytes :=
  let l := levelOf node
  let c := (nodeCounters s.ldr.versions s.ldr.tree node).flatMap (leBytes 7)
  let mac := Config.cmac256 (s.key useTree)
    (leBytes 4 (Config.nodeNumber l (node - levelBase l)).toNat ++ c ++ leBytes 7 (tabGet 0 s.ldr.tree node))
  c ++ (beBytes 16 mac.toNat).take 8

/-- The root: the eight counters of the top node, on chip. -/
def rootOf (tree : Tab Nat) : List Nat := (List.range 8).map fun k => tabGet 0 tree (4672 + k)

/-- A 56-bit counter's next value. -/
def next56 (n : Nat) : Nat := (n + 1) % 2 ^ 56

/-- Writing a page increments its version and the counters on its path to the root. -/
def treeWrite (tree : Tab Nat) (page : Nat) : Tab Nat :=
  (pathOf page).foldl (fun t n => tabSet 0 t n (next56 (tabGet 0 t n))) tree

/-! ## The image's blocks and header (R345) -/

/-- The Larder's area: the first 136 MiB of DDR4 (R342). -/
def ddrArea : Nat := 136 * 2 ^ 20

/-- The blocks that a page's program reaches: the page, the block of 256 tags that holds its tag, and the blocks of 64
nodes on its path, in one numbering of the model's own. -/
def blocksOf (page : Nat) : List Nat := page :: (32768 + page / 256) :: (pathOf page).map fun n => 40000 + n / 64

/-- Every block that a list of pages reaches. -/
def blocksOfAll (pages : List Nat) : List Nat :=
  pages.foldl (fun l p => (blocksOf p).foldl insertSorted l) []

/-- Octets 0x00–0xEF of a header block. -/
def Header.octets (h : Header) : Bytes :=
  leBytes 4 0x524C4342 ++ leBytes 2 1 ++ leBytes 2 256 ++ leBytes 8 h.round ++ leBytes 4 h.capacity ++ leBytes 4 h.issuerGen
    ++ beBytes 16 h.binding.toNat ++ h.root.flatMap (leBytes 7) ++ leBytes 64 h.copyMap.toNat ++ List.replicate 80 0

def State.headerMac (s : State) (h : Header) : BitVec 128 := Config.cmac256 (s.key useTree) h.octets

/-- The header of the current image; none before the first round of a fresh one. -/
def State.imageHeader (s : State) : Option Header :=
  if s.ldr.round = 0 then none else if s.ldr.header = 0 then s.flash.hdr0 else s.flash.hdr1

/-- The blocks whose second copy is current. -/
def State.copies (s : State) : List Nat := match s.imageHeader with | none => [] | some h => h.copies

/-- The copies after a round: each block it programs goes into the copy that is not current (R346). -/
def copiesAfter (old blocks : List Nat) : List Nat :=
  old.filter (fun b => !blocks.contains b) ++ blocks.filter fun b => !old.contains b

end Sys2Proof.Machine
end

