-- ==== Sys2Proof/Machine/FlashBus.lean ====
section
/-! DEFINITION. The flash bus (R463): its requests in the order of their priority, and the work that one of them
suspends. -/

namespace Sys2Proof.Machine

/-- The requests of the bus, first in priority first. -/
inductive FlashReq where
  | journal                        -- journal program and read-back
  | fault                          -- record-flash read for a page fault
  | stageRead                      -- Stage reads, recipe verification
  | round                          -- write-back round
  | compaction                     -- checkpoint and compaction
  | snapshot                       -- snapshot write
  | slot                           -- recipe slot write
deriving DecidableEq, Repr

/-- The request is for record flash; the others are for boot flash. -/
def FlashReq.onRecord : FlashReq → Bool
  | .fault => true
  | .round => true
  | _ => false

/-- The priority of a request, 1 first. The erase of superseded copies, the last, ends with its round (R346). -/
def FlashReq.priority : FlashReq → Nat
  | .journal => 1
  | .fault => 2
  | .stageRead => 3
  | .round => 4
  | .compaction => 5
  | .snapshot => 6
  | .slot => 6

/-- A journal program is under way (R297). -/
def State.journalRuns (s : State) : Bool := match s.cnt.drain with | .programming _ => true | _ => false

/-- A page fault reads record flash (R344). -/
def State.faultReads (s : State) : Bool :=
  s.ldr.faults.any fun p => (tabFind s.ldr.ddr p).isNone && tabGet 0 s.ldr.versions p != 0

/-- Something of a request is to be done. -/
def State.flashWants (s : State) : FlashReq → Bool
  | .journal => s.journalRuns
  | .fault => s.faultReads
  | .stageRead => (s.mode == .stage && !s.mod.stageDone) || (match s.rcp.busy with
      | some (.verifying _) => true
      | some .activateVerify => true
      | some (.closing _) => true
      | _ => false)
  | .round => s.ldr.running.isSome
  | .compaction => s.cnt.compaction != .none
  | .snapshot => s.mod.snapWrite.isSome
  | .slot => match s.rcp.busy with
      | some (.erase _) => true
      | some (.program _ _) => true
      | _ => false

/-- The requests of one flash that the bus has to serve, in its order; a program or an erase of the other flash does not
hold the bus. -/
def State.flashQueue (s : State) (record : Bool) : List FlashReq :=
  [FlashReq.journal, .fault, .stageRead, .round, .compaction, .snapshot, .slot].filter fun r =>
    r.onRecord == record && s.flashWants r

/-- A boot-flash erase stands suspended: a journal program runs. -/
def State.bootSuspended (s : State) : Bool := s.journalRuns

/-- A record-flash erase or program stands suspended: a page fault reads. -/
def State.recordSuspended (s : State) : Bool := s.faultReads

end Sys2Proof.Machine
end

