-- ==== Sys2Proof/Machine/Tear.lean ====
section
/-! DEFINITION. What an interrupted write leaves behind. The spec orders each write so that an interruption is harmless
(R66, R98, R133, R297, R300, R346); what the interrupted flash or fuse operation itself leaves is open, and is a free
choice here (assumption logs 7 and 14). -/

namespace Sys2Proof.Machine

/-- A free choice of four. -/
def choose4 (s : State) : Nat × State :=
  let v := takeFree 2 s
  (v.1.toNat, v.2)

/-- What an interrupted erase or program makes of a thing: what stood before, nothing, all of the new, or something
else. -/
def tornChoice {α : Type} (old new other : Option α) (k : Nat) : Option α :=
  match k with
  | 0 => old
  | 1 => none
  | 2 => new
  | _ => other

/-! ## Recipe slots (R133, R134) -/

/-- The programmed octets of a slot. -/
def State.slotBytes (s : State) (k : Nat) : Bytes := if k = 0 then s.flash.slotA else s.flash.slotB

def State.setSlotBytes (s : State) (k : Nat) (bs : Bytes) : State :=
  if k = 0 then { s with flash := { s.flash with slotA := bs } } else { s with flash := { s.flash with slotB := bs } }

/-- `n` octets the spec leaves open. -/
def freeBytes (n : Nat) (s : State) : Bytes × State :=
  let v := takeFree (8 * n) s
  (beBytes n v.1.toNat, v.2)

/-- What a failed or interrupted erase or program leaves of a slot: its octets from `off` on, `n` of them, are open. -/
def State.spoilSlot (s : State) (k off n : Nat) : State :=
  let v := freeBytes n s
  v.2.setSlotBytes k ((s.slotBytes k).take off ++ v.1)

/-- An RCP_CMD operation stops. -/
def State.tearRcp (s : State) : State :=
  match s.rcp.busy with
  | some (.erase k) => s.spoilSlot k 0 (s.slotBytes k).length
  | some (.program k d) =>
    s.spoilSlot k (match s.rcp.session with | none => (s.slotBytes k).length | some x => x.offset) d.length
  | some .floor =>
    let v := takeFree 1 s
    { v.2 with otp := { v.2.otp with rollback := v.2.otp.rollback + v.1.toNat } }
  | some (.closing _) => s
  | some (.verifying _) => s
  | some .activateVerify => s
  | some .activateApply => s
  | none => s

/-! ## Lifecycle fuses (R98, R518) -/

/-- The fuses a stop leaves blown of a lifecycle write under way: how far it came is open. `n` is the number of fuses of
the write that were blown, its hash field counting as two. -/
def Otp.partly (o : Otp) (r : PendingRec) (n : Nat) : Otp :=
  match r with
  | .group g => { o with groups := vecSet o.groups (g - 1) (min 3 n) }
  | .own h =>
    { o with
      slots := vecSet o.slots 0 { vecGet KeySlot.blank o.slots 0 with
        hashAny := decide (1 ≤ n), hash := if 2 ≤ n then h else 0, active := min 3 (n - 2) }
      groups := vecSet o.groups 1 (min 3 (n - 5)) }
  | .addKey i h =>
    { o with slots := vecSet o.slots i { vecGet KeySlot.blank o.slots i with
        hashAny := decide (1 ≤ n), hash := if 2 ≤ n then h else 0, active := min 3 (n - 2) } }
  | .revoke i => { o with slots := vecSet o.slots i { vecGet KeySlot.blank o.slots i with revoke := min 3 n } }

/-- A lifecycle write under way stops. -/
def State.tearBlow (s : State) : State :=
  match s.life.blowing, s.vig.record with
  | some _, some r =>
    let v := takeFree 4 s
    { v.2 with otp := v.2.otp.partly r (v.1.toNat % 9) }
  | _, _ => s

/-! ## Snapshots (R66) -/

/-- The write of a snapshot stops or fails: its slot is open, the anchor as it was. -/
def State.tearSnap (s : State) (w : SnapWrite) : State :=
  let c := choose4 s
  let b := takeFree 128 c.2
  let other : Snapshot := { w.image with formatOk := false, binding := b.1 }
  { b.2 with flash := { b.2.flash with
      snaps := match tornChoice (tabFind s.flash.snaps w.slot) (some w.image) (some other) c.1 with
        | none => tabDel s.flash.snaps w.slot
        | some x => tabPut s.flash.snaps w.slot x } }

def State.tearSnapWrite (s : State) : State :=
  match s.mod.snapWrite with
  | none => s
  | some w => s.tearSnap w

/-! ## The journal (R297, R300) -/

/-- An entry whose every field is open. -/
def freeEntry (s : State) : Entry × State :=
  let v := takeFree 256 s
  let n := v.1.toNat
  ({ typ := n % 256, cause := n / 2 ^ 8 % 256, seq := n / 2 ^ 16 % 2 ^ 48, id := n / 2 ^ 64 % 2 ^ 32,
     value := n / 2 ^ 96 % 2 ^ 48, serial := BitVec.ofNat 32 (n / 2 ^ 144), mac := BitVec.ofNat 64 (n / 2 ^ 192) }, v.2)

/-- One ring slot after an interrupted program or erase. -/
def State.tearRingSlot (s : State) (i : Nat) (new : Option RingSlot) : State :=
  let c := choose4 s
  let e := freeEntry c.2
  { e.2 with flash := { e.2.flash with
      ring := match tornChoice (tabFind s.flash.ring i) new (some (RingSlot.entry e.1)) c.1 with
        | none => tabDel s.flash.ring i
        | some x => tabPut s.flash.ring i x } }

/-- The slots of an interrupted drain program. -/
def State.tearProgram (s : State) (i : Nat) : List Entry → State
  | [] => s
  | e :: es => (s.tearRingSlot i (some (.entry e))).tearProgram (i + 1) es

def State.tearDrain (s : State) : State :=
  match s.cnt.drain with
  | .programming n => s.tearProgram s.cnt.ringNext (s.vig.buffer.take n)
  | .idle => s
  | .paused _ => s

def State.setCkpt (s : State) (slot : Nat) (k : Option Checkpoint) : State :=
  if slot = 0 then { s with flash := { s.flash with ckpt0 := k } } else { s with flash := { s.flash with ckpt1 := k } }

def State.ckptAt (s : State) (slot : Nat) : Option Checkpoint := if slot = 0 then s.flash.ckpt0 else s.flash.ckpt1

/-- The slot the current checkpoint does not use. Under the implicit checkpoint of epoch 0 it is slot 1. -/
def State.otherSlot (s : State) : Nat := 1 - s.cnt.ckptSlot

/-- The other checkpoint slot after an interrupted program or erase. -/
def State.tearCkpt (s : State) (new : Option Checkpoint) (image : Checkpoint) : State :=
  let c := choose4 s
  let m := takeFree 128 c.2
  m.2.setCkpt s.otherSlot (tornChoice (s.ckptAt s.otherSlot) new (some { image with mac := m.1 }) c.1)

/-- Whether every entry of an erase block has a SEQ at or below S. -/
def blockOld (ring : Tab RingSlot) (S b : Nat) : Bool :=
  ring.all fun e => e.1 / 2048 != b || (match e.2 with | .pad => true | .entry x => decide (x.seq ≤ S))

/-- Erases every ring block whose entries all have SEQ ≤ S (R290, R300). -/
def eraseOld (ring : Tab RingSlot) (S : Nat) : Tab RingSlot := ring.filter fun e => !blockOld ring S (e.1 / 2048)

/-- A compaction stops at its step. -/
def State.tearCompaction (s : State) : State :=
  match s.cnt.compaction with
  | .none => s
  | .program _ false => s
  | .program k true => s.tearCkpt (some k) k
  | .blow _ false => s
  | .blow _ true =>
    let v := takeFree 1 s
    { v.2 with otp := { v.2.otp with ratchet := v.2.otp.ratchet + v.1.toNat } }
  | .erase =>
    let old := s.flash.ring.filter fun e => blockOld s.flash.ring s.cnt.ckptSeq (e.1 / 2048)
    let s := old.foldl (fun s e => s.tearRingSlot e.1 none) s
    match s.ckptAt s.otherSlot with
    | none => s
    | some k => s.tearCkpt none k

/-! ## The record image (R346) -/

/-- The pages a round programs. -/
def Round.pageList (r : Round) : List Nat := r.pages.map (·.1)

/-- The header a round programs. -/
def State.roundHeader (s : State) (r : Round) : Header :=
  let copies := copiesAfter s.copies (blocksOfAll r.pageList)
  let h : Header :=
    { magicOk := true, formatOk := true, round := s.ldr.round + 1, capacity := s.ldr.capacity, issuerGen := r.gen,
      binding := s.binding, root := rootOf r.tree, copyMap := Config.copyMap copies, mac := 0, copies := copies,
      tree := r.tree, records := r.records, index := r.index, issuers := r.issuers, versions := r.versions }
  { h with mac := s.headerMac h }

def State.setHeader (s : State) (i : Nat) (h : Option Header) : State :=
  if i = 0 then { s with flash := { s.flash with hdr0 := h } } else { s with flash := { s.flash with hdr1 := h } }

def State.headerAt (s : State) (i : Nat) : Option Header := if i = 0 then s.flash.hdr0 else s.flash.hdr1

/-- A round's program stops or fails: the header block it writes is open, the current one untouched. -/
def State.tearHeader (s : State) (r : Round) : State :=
  let c := choose4 s
  let m := takeFree 128 c.2
  let other := 1 - s.ldr.header
  let h := s.roundHeader r
  m.2.setHeader other (tornChoice (s.headerAt other) (some h) (some { h with mac := m.1 }) c.1)

def State.tearRound (s : State) : State :=
  match s.ldr.running with
  | none => s
  | some r => s.tearHeader r

/-! ## A stop of everything -/

/-- Every flash and fuse operation under way stops where it is. -/
def State.tear (s : State) : State := s.tearBlow.tearRcp.tearDrain.tearCompaction.tearRound.tearSnapWrite

end Sys2Proof.Machine
end

