-- ==== Sys2Proof/Machine/Modes.lean ====
section
/-! DEFINITION. Modes and starts: recording a quarantine cause and entering QUARANTINE (R53–R57), zeroization (R104),
the starts (R47–R51, R62, R70), the holding of Stage (R59, R63), and settings snapshots (R65–R69). -/

namespace Sys2Proof.Machine

/-! ## Modes -/

/-- A change of MOD_STATE.MODE sets GLB_IRQ_STAT.MODE and MSP_ATTN.MODE (R486, R473). -/
def State.setMode (s : State) (m : Mode) : State := (({ s with mode := m }).raise .mode).attend 0

/-- MOD_START_CAUSE.LAST_MODE's code of a mode. -/
def Mode.lastCode : Mode → Nat
  | .stage => 1
  | .service => 2
  | .quarantine => 3
  | .vigil => 0
  | .unpowered => 0

/-- The mode the run now ending was in goes to the Retained Store (R78). -/
def State.recordLastMode (s : State) : State := { s with vig := { s.vig with lastMode := s.mode.lastCode } }

/-! ## Quarantine causes (R53–R55) -/

/-- The cause's place in the order of R55, which is also MOD_QUAR_CAUSE.CAUSE. -/
def QuarCause.code : QuarCause → Nat
  | .tamper => 1
  | .lifecycle => 2
  | .journalChain => 3
  | .anchorLost => 4
  | .entropyExhausted => 5
  | .hostRequest => 6
  | .mspRequest => 7

/-- Whether the cause zeroizes device secrets (R53). -/
def QuarCause.zeroizes : QuarCause → Bool
  | .tamper => true
  | .lifecycle => true
  | .journalChain => true
  | .anchorLost => false
  | .entropyExhausted => false
  | .hostRequest => false
  | .mspRequest => false

/-- The recorded cause that stands first in the order of R55. -/
def State.firstCause (s : State) : Option QuarCause := minBy QuarCause.code s.vig.causes

/-! ## Zeroization (R104) -/

/-- The anchor, the commit buffer and the snapshot pointer are cleared; a drain under way stops. -/
def State.clearAnchor (s : State) : State :=
  let s := s.tearDrain
  { s with
    cnt := { s.cnt with drain := .idle }
    vig := { s.vig with
      headSeq := 0, chain := 0, anchorOk := false, buffer := [], snapSlot := 0, snapGen := 0, snapOk := false } }

/-- The fuses of a key block after its zeroize marker is blown: it is never read again (R105). -/
def KeyBlock.marked (k : KeyBlock) : KeyBlock := { k with marker := true }

/-- Every unblown fuse of a key block blown; the certificate is kept (R104). -/
def KeyBlock.finished (k : KeyBlock) : KeyBlock :=
  { k with priv := BitVec.allOnes 256, pub := BitVec.allOnes 512, seed := BitVec.allOnes 256, unblown := false }

/-- The number of beat shadows pending. -/
def State.beatShadows (s : State) : Nat :=
  (s.ports.flatMap fun p => p.2.pos.filter fun x => x.2.shadow.isSome).length

/-- The number of nonces that beat shadows hold. -/
def State.shadowNonces (s : State) : Nat :=
  (s.ports.flatMap fun p => p.2.pos.filter fun x => match x.2.shadow with
    | none => false
    | some b => b.nonce.isSome).length

/-- Every Proofer shadow pending. -/
def State.prfShadows (s : State) : Nat := (s.prf.toList.filter fun x => x.shadow.isSome).length

/-- Every shadow pending is squashed: the unit it would run on stops (R277, R412, R413). -/
def State.countShadows (s : State) : State :=
  { s with spc := { s.spc with
      squashed := satAdd s.spc.squashed s.beatShadows, sqUnit := satAdd s.spc.sqUnit s.beatShadows
      nonces := satAdd s.spc.nonces s.shadowNonces, prfSquashed := satAdd s.spc.prfSquashed s.prfShadows } }

/-- Positions lose their session keys. -/
def Pos.forget (x : Pos) : Pos := { x with session := none, auth := none, shadow := none }

/-- On-chip keys, the plaintext cache, Proofer and Churn state and engine registers overwritten with 0 (R104). With its
keys gone the Larder is closed and the counters are not ready, as in a Stage without keys (assumption log 6). -/
def State.wipeCore (s : State) : State :=
  let s := s.countShadows
  { s with
    ports := tabMap (fun _ p => { p with pos := tabMap (fun _ x => x.forget) p.pos }) s.ports
    prf := Vector.replicate 4 { Prf.start with state := 0 }
    ent := { s.ent with a := { s.ent.a with pool := [], taken := [] }, b := { s.ent.b with pool := [], taken := [] } }
    glz := { s.glz with hand := none, session := none, stalled := none }
    ldr := { s.ldr with
      isOpen := false, frames := [], specFrames := [], running := none, needs := [], faults := [], parked := [], stalled := [],
      locked := [], lockOld := [] }
    cnt := { s.cnt with ready := false, drain := .idle, compaction := .none, queue := [], arrivals := [], busy := none } }

/-- Zeroization begins: the inhibit is set, the anchor cleared, on-chip secrets overwritten while the core is powered,
and the active block's marker fuse blown (R104). It completes with ZEROIZE_DONE or at step 2. -/
def State.zeroizeBegin (s : State) : State :=
  let s := s.clearAnchor.tearCompaction.tearRound
  let s := { s with
    vig := { s.vig with inhibit := true, zeroPending := true }
    mod := { s.mod with zeroized := true }
    otp := { s.otp with blocks := vecSet s.otp.blocks s.activeBlock s.keyBlock.marked } }
  s.wipeCore

/-- Every key block whose marker is blown is finished (R105). -/
def State.zeroizeFinish (s : State) : State :=
  { s with
    vig := { s.vig with zeroPending := false }
    otp := { s.otp with blocks := s.otp.blocks.map fun k => if k.marker && k.unblown then k.finished else k } }

/-! ## Entering QUARANTINE (R47, R52, R53) -/

/-- In-flight host operations end (R52): CANCELLED where an increment is committed, QUARANTINED otherwise. A completion
that must wait takes the count with it (R31, R453). -/
def State.quarantineOps (s : State) : State :=
  s.sch.ops.foldl (fun s o =>
    let s := s.finishOp o.ctx (if o.committed then .cancelled else .quarantined) [] none
    if o.committed && !s.canMaster then s.holdCount o.record o.count else s) s

/-- Fetched descriptors that hold no context complete QUARANTINED, except those of ADMIN queues, which keep being
served (R52, R369, R376). -/
def State.quarantineQueue (s : State) (q : Nat) : State :=
  if s.queueClass q = 5 then s
  else
    let x := s.queue q
    let s := (s.setQueue q { x with buf := [], evBufs := [] }).dropStore q
    (x.evBufs ++ x.buf.map (·.desc)).foldl (fun s d => s.complete q d .quarantined [] none false) s

/-- A port's transaction ends, a strong pull-up interval in progress running to its end, its jobs and series are cleared,
and a speculative preparation is squashed (R52, R202, R393, R412). -/
def Port.quarantined (p : Port) : Port :=
  { p with
    txn := none, check := none, checkq := [], jobs := [], hostq := [], window := .none, spuWait := none,
    spuPlace := p.spuOn, trimSent := false, reenum := false, reenumRuns := false, probeReq := false, uprobe := false, expect := false,
    probeAt := none, collectAt := none
    state := if p.entry.isSome then .stopped else p.state
    pos := tabMap (fun _ x => { x with auth := none, authAt := none, beatAt := none, beatBusy := false,
                                        shadow := none, catchupAt := none, prioAt := none, adoptWait := none }) p.pos }

/-- GLZ_STAT.STATE of a port with no session: IDLE where the recipe enables it, else OFF (R124, R422). -/
def State.glzIdle (s : State) : Nat :=
  match s.rcp.recipe with
  | none => 0
  | some r => if r.glzOn then 1 else 0

/-- The blocks' share of QUARANTINE entry. No pending section of an ACTIVATE applies after it (R141), and a count shows
only with a completion that still waits (R31). -/
def State.quiesceBlocks (s : State) : State :=
  let s := s.countShadows
  { s with
    ports := tabMap (fun _ p => p.quarantined) s.ports
    sch := { s.sch with ops := [], firstBeat := [], warm := [], classesNew := none }
    prf := Vector.replicate 4 Prf.start
    ent := { s.ent with
      forming := false
      a := { s.ent.a with pool := [], taken := [], marked := [] }
      b := { s.ent.b with pool := [], taken := [], marked := [] } }
    glz := { s.glz with state := s.glzIdle, hand := none, session := none, commit := none, stalled := none, close := false,
                        sending := false, waiting := none, rate := 0, nextRate := none }
    ldr := { s.ldr with needs := [], specFrames := [], lockWait := [], faults := [] }
    cnt := { s.cnt with queue := [], arrivals := [], busy := none
                        visible := s.cnt.visible.filter fun e => s.countHeld e.1 }
    rcp := if s.rcp.actBit then
        { s.rcp with activating := none, cmdResult := 12, actBit := false, busy := none }
      else s.rcp }

/-- QUARANTINE is entered with the first recorded cause. The Glaze port is IDLE there (R63, R444). -/
def State.enterQuarantine (s : State) : State :=
  let from_ := if s.mode = .service then 2 else 1
  let s := s.quarantineOps
  let s := s.que.foldl (fun s e => s.quarantineQueue e.1) s
  let s := s.quiesceBlocks
  let s := { s with mod := { s.mod with
    quarCause := s.firstCause, fromMode := from_, readHost := false, readMsp := false, ackDone := false,
    goReq := false } }
  ((s.setMode .quarantine).raise .quarantine).attend 3

/-- Records a cause in the Retained Store (R54). -/
def State.recordCause (s : State) (c : QuarCause) : State :=
  { s with vig := { s.vig with causes := insertNew s.vig.causes c } }

/-- Zeroization begins with a cause that zeroizes, unless the secrets are already gone (R53, R55). -/
def State.zeroizeFor (s : State) (c : QuarCause) : State :=
  if c.zeroizes && !s.keyBlock.marker then s.zeroizeBegin else s

/-- A quarantine cause that arises in QUARANTINE changes CAUSE only when it stands first (R55). -/
def State.recause (s : State) : State :=
  if s.firstCause = s.mod.quarCause then s
  else
    let s := { s with mod := { s.mod with
      quarCause := s.firstCause, readHost := false, readMsp := false, ackDone := false } }
    (s.raise .quarantine).attend 3

/-- A quarantine cause arises (R53–R55, R63, R90). -/
def State.quarantine (s : State) (c : QuarCause) : State :=
  match s.mode with
  | .unpowered => s
  | .vigil => s.recordCause c
  | .stage =>
    let s := (s.recordCause c).zeroizeFor c
    if s.mod.stageDone then s.enterQuarantine else s
  | .service => ((s.recordCause c).zeroizeFor c).enterQuarantine
  | .quarantine => ((s.recordCause c).zeroizeFor c).recause

/-! ## Starts (R47–R51, R62, R70) -/

/-- What a warm start keeps of an entropy channel: DEAD, the retest history, and that it was FAILED (R70, R261). -/
def Chan.restarted (c : Chan) : Chan :=
  { Chan.start with state := if c.state = 4 then 4 else 0, retests := c.retests, wasFailed := c.wasFailed || c.state == 3 }

/-- A port as every start leaves it (R203–R206), without a PLAIT entry. -/
def portOff : Port :=
  { entry := none, newEntry := none, state := .off, fault := 0, spuOn := false, spuWait := none, spuPlace := false,
    chainLen := 0, present := 0, mute := 0, event := 0, reenum := false, reenumRuns := false, probeReq := false, resetDue := false,
    charge := false, uprobe := false, enumPos := 0, enumFirst := 0, expect := false, window := .none,
    trimSent := false, txn := none, check := none, checkq := [], jobs := [], hostq := [], probeAt := none, collectAt := none,
    pos := [], erasures := 0, noanswer := 0, contention := 0, presFall := 0, presWidth := 0, crcerr := 0, retries := 0,
    tstatErr := 0, sprMsgs := 0, sprDrops := 0, authFails := 0, powerLow := 0 }

/-- The ports at a start: after a warm prelude the lines stay driven low (R202). -/
def State.startPorts (s : State) : Tab Port :=
  if s.mod.nextCause.kind = 2 then
    (s.ports.filter fun e => e.2.state == .held).map fun e => (e.1, { portOff with state := .held })
  else []

/-- The counter unit at a start: RECOVERING marks stay until their counters' first adoption or floor (R303; assumption
log 83). -/
def Counters.restarted (c : Counters) : Counters :=
  { Counters.start with recoverAll := c.recoverAll, recovered := c.recovered }

/-- What every device start clears: each register takes its Start value; vigil state, OTP, flash and the pins stay, and
so do DEAD channels and the retest history at a warm start (R70, R259). -/
def State.startBlocks (s : State) : State :=
  { s with
    mode := .stage, kept := .bracket, life := .start, rcp := .start, fab := .start, ports := s.startPorts,
    ent := { Entropy.start with
      a := s.ent.a.restarted
      b := s.ent.b.restarted }
    prf := Vector.replicate 4 Prf.start, rngEmpty := false, cnt := s.cnt.restarted, spw := .start, ldr := .start, que := [],
    sch := .start, spc := .start, glz := .start,
    links := { s.links with straps := 0, trained := false, ddrCe := 0, ddrUe := 0, ddrErrAddr := 0, zqCount := 0,
                            msixTable := [], pba := 0, tap := .bypass }
    msp := .start, sts := .start, irqStat := 0, holdPcie := [], holdMsp := []
    mod := { Mod.start with nextCause := s.mod.nextCause, stageBegin := s.tick }
    vig := { s.vig with forceTamper := false, forceTap := false } }

/-- Stage begins at step 1 with the cause found; a write that still runs stops. -/
def State.beginStage (s : State) (c : StartCause) : State :=
  let s := s.tear
  ({ s with mod := { s.mod with nextCause := c } }).startBlocks

/-- Host operations end with no completion, and queues stop (R52). -/
def State.endHostOps (s : State) : State :=
  { s with
    sch := { s.sch with ops := [], held := [] }
    que := tabMap (fun _ x => { x with buf := [], evBufs := [], reading := 0 }) s.que }

/-- A warm start from SERVICE or QUARANTINE: the guards are safe, host operations end, Glaze closes without commit, and
the warm prelude runs (R50). -/
def State.warmPrelude (s : State) (c : StartCause) : State :=
  let s := s.recordLastMode.endHostOps
  let s := s.quiesceBlocks
  let s := { s with
    ports := tabMap (fun _ (p : Port) => { p with state := if p.entry.isSome then .held else p.state }) s.ports
    mod := { s.mod with
      nextCause := c, preludeOn := true, stageDone := false, goReq := false,
      snapPending := false, snapAsk := false, snapDeferred := false, snapTimer := none } }
  ({ s with glz := { s.glz with state := 0 } }).setMode .stage

/-- The kind and bits of the start that a restart source causes, with the bits of the start it interrupts (R44, R62). -/
def State.restartCause (s : State) (perst host msp quarExit retire : Bool) : StartCause :=
  if s.mode = .stage then
    { s.mod.nextCause with
      stageRestarted := !s.mod.preludeOn || s.mod.nextCause.stageRestarted
      perst := s.mod.nextCause.perst || perst
      hostRestart := s.mod.nextCause.hostRestart || host
      mspRestart := s.mod.nextCause.mspRestart || msp
      retire := s.mod.nextCause.retire || retire }
  else { StartCause.none with
    kind := 2, perst := perst, hostRestart := host, mspRestart := msp, quarExit := quarExit, retire := retire }

/-- A restart cause acts: Stage restarts (R62), or a warm start begins. During the prelude the start it leads to takes
the new source bit too. -/
def State.restart (s : State) (perst host msp retire : Bool) : State :=
  let c := s.restartCause perst host msp (s.mode == .quarantine) retire
  if s.mode = .stage then
    if s.mod.preludeOn then { s with mod := { s.mod with nextCause := c } } else s.beginStage c
  else s.warmPrelude c

/-! ## Entry to VIGIL (R47, R48) -/

/-- The core is off: only the vigil domain, OTP and the flashes keep their state. -/
def State.coreOff (s : State) : State :=
  { s with
    mode := .vigil, kept := .bracket, mod := .start, life := .start, rcp := .start, fab := .start, ports := [],
    ent := .start, prf := Vector.replicate 4 Prf.start, rngEmpty := false, cnt := s.cnt.restarted, spw := .start, ldr := .start,
    que := [], sch := .start, spc := .start, glz := .start, links := { Links.start with perstN := s.links.perstN },
    msp := .start, sts := .start, irqStat := 0, holdPcie := [], holdMsp := [], tick := 0 }

/-- VIGIL is entered from a powered mode (R47). The detector that fired forces the guards safe (R85). -/
def State.enterVigil (s : State) : State :=
  let s := s.recordLastMode.tear.coreOff
  { s with vig := { s.vig with force := true } }

/-- A detector's output latches: it is recorded in the Retained Store, the first one first, and drives the guard-force
line (R84, R85). -/
def State.detected (s : State) (c : Nat) : State :=
  { s with vig := { s.vig with fired := insertNew s.vig.fired c, force := true } }

/-- A detector fires: it takes a powered core to VIGIL. In VIGIL an armed detector is recorded behind the others (R84);
before the first start no row says whether a rail has entered its window and armed it (R83; assumption log 85). -/
def State.detect (s : State) (c : Nat) : State :=
  match s.mode with
  | .unpowered => s
  | .vigil =>
    if s.vig.detArmed then s.detected c
    else
      let v := takeFree 1 s
      if v.1 = 1 then v.2.detected c else v.2
  | .stage => (s.detected c).enterVigil
  | .service => (s.detected c).enterVigil
  | .quarantine => (s.detected c).enterVigil

/-! ## The run of Stage (R58, R59, R63, R64) -/

/-- The order of this Stage's steps (R58, R64). -/
def State.stageOrder (s : State) : List Nat :=
  if s.mod.exitSpare then [1, 2, 3, 4, 5, 6, 9, 7, 8, 10] else [1, 2, 3, 4, 5, 6, 7, 8, 9, 10]

/-- Stage runs: the mode is STAGE, past any prelude and with CORECLK, it is not done, and step 2 has not ended in RETIRED
or without an identity left (R58, R103, R106). -/
def State.stageRuns (s : State) : Bool :=
  s.mode == .stage && !s.mod.preludeOn && !s.mod.stageDone && s.running
    && !(s.stepDone 2 && (s.life.state == 4 || s.life.keyBlock == 2))

/-- The first step of the order that is not complete, unless a fault holds Stage (R58, R59). -/
def State.stageNext (s : State) : Option Nat :=
  if s.stageRuns = false ∨ s.mod.stageFault ≠ 0 then none else s.stageOrder.find? fun n => !s.stepDone n

/-- Step `n` is due. Step 5 runs alongside step 4: each of the two may come first, and a fault of the one leaves the
other to end (R58; assumption log 86). -/
def State.stepDue (s : State) (n : Nat) : Bool :=
  s.stageNext == some n
    || (n == 5 && s.stageRuns && s.stepDone 3 && !s.stepDone 5
        && (s.mod.stageFault == 0 || s.mod.stageFault == 1 || s.mod.stageFault == 5))
    || (n == 4 && s.stageRuns && s.stepDone 3 && !s.stepDone 4 && s.mod.stageFault == 4)

/-- A step completes; after the last one Stage is done, and a recorded cause takes the Borpin to QUARANTINE (R63). -/
def State.endStep (s : State) (n : Nat) : State :=
  let s := { s with mod := { s.mod with done := s.mod.done ++ [n], stageStep := n, inStep9 := false } }
  if s.mod.done.length = 10 then
    let s := ({ s with mod := { s.mod with
      stageDone := true, stageTime := (s.tick - s.mod.stageBegin).toNat % 2 ^ 32 } }).raise .mode
    if s.vig.causes ≠ [] then s.enterQuarantine else s
  else s

/-- A step fails: Stage is held with its fault, the first one where steps 4 and 5 both fail, or, after a quarantine cause, QUARANTINE is entered (R59, R63). -/
def State.stageFault (s : State) (code : Nat) : State :=
  let s := { s with mod := { s.mod with
    stageFault := if s.mod.stageFault = 0 then code else s.mod.stageFault, inStep9 := false } }
  if s.vig.causes ≠ [] then s.enterQuarantine else s

/-! ## Settings snapshots (R65–R69) -/

/-- BAR0 offsets of the registers that hold kept fields, rising. -/
def offIrqEn : Nat := 0x00000014
def offLead : Nat := 0x002A0000
def offAttnEn : Nat := 0x002E0008

/-- The octets of a snapshot up to its MAC (R68). -/
def Snapshot.bytes (x : Snapshot) : Bytes :=
  leBytes 4 0x50534E42 ++ leBytes 2 1 ++ leBytes 2 64 ++ leBytes 4 x.generation ++ leBytes 4 x.recipeGen
    ++ leBytes 8 x.captureTick.toNat ++ leBytes 4 3 ++ leBytes 4 24 ++ beBytes 16 x.binding.toNat
    ++ leBytes 16 0
    ++ leBytes 4 offIrqEn ++ leBytes 4 x.irqEn.toNat ++ leBytes 4 offLead ++ leBytes 4 x.lead.toNat
    ++ leBytes 4 offAttnEn ++ leBytes 4 x.attnEn.toNat

/-- The MAC of a snapshot under this device's snapshot key. -/
def State.snapMac (s : State) (x : Snapshot) : BitVec 128 := Config.cmac256 (s.key useSnapshot) x.bytes

/-- The snapshot of this cycle: every kept register, the next generation (R65, R68). -/
def State.snapImage (s : State) : Snapshot :=
  let x : Snapshot :=
    { formatOk := true, generation := s.vig.snapGen + 1, recipeGen := s.rcp.gen, captureTick := s.tick,
      binding := s.binding, irqEn := s.kept.irqEn.zeroExtend 32, attnEn := s.kept.attnEn.zeroExtend 32,
      lead := BitVec.ofNat 32 s.kept.lead, mac := 0 }
  { x with mac := s.snapMac x }

/-- MOD_SNAP_STAT.BUSY. -/
def State.snapBusy (s : State) : Bool := s.mod.snapWrite.isSome

/-- MOD_SNAP_STAT.EXHAUSTED. -/
def State.snapExhausted (s : State) : Bool := s.vig.snapGen == 0xFFFFFFFF

/-- A snapshot is due: it is captured and its write begins, unless EARLY_WARNING defers it (R67), generations are
exhausted (R68), or there are no device keys to make its MAC. -/
def State.snapDue (s : State) : State :=
  if s.snapExhausted || !s.hasKeys then { s with mod := { s.mod with snapReq := false } }
  else if s.spw.early then { s with mod := { s.mod with snapResult := 2, snapDeferred := true, snapReq := false } }
  else { s with mod := { s.mod with
    snapWrite := some { image := s.snapImage, slot := (s.vig.snapSlot + 1) % 16, second := false } } }

/-- A snapshot is requested (R65), by MOD_CTRL.SNAP where `ask`: one further snapshot follows the one being written. -/
def State.snapRequest (s : State) (ask : Bool) : State :=
  let s := { s with mod := { s.mod with snapReq := s.mod.snapReq || ask } }
  if s.snapBusy then { s with mod := { s.mod with snapPending := true, snapAsk := s.mod.snapAsk || ask } } else s.snapDue

/-- A write changed the value of a kept field: the 1 s interval starts (R65). -/
def State.keptChanged (s : State) : State := { s with mod := { s.mod with snapTimer := some s.tick } }

/-- The deferred snapshot is taken when EARLY_WARNING falls (R67). -/
def State.snapResume (s : State) : State :=
  if s.mod.snapDeferred then ({ s with mod := { s.mod with snapDeferred := false } }).snapRequest false else s

/-- The pristine value of a register's kept fields: the recipe's, else the bracketed Start value (R20, R125). -/
def State.pristine (s : State) (off : Nat) (bracket : Word) : Word :=
  match s.rcp.recipe with
  | none => bracket
  | some r =>
    match r.settings.find? (·.off == off) with
    | none => bracket
    | some e => (bracket &&& ~~~ e.mask) ||| (e.value &&& e.mask)

/-- Every kept field at its pristine value. -/
def State.pristineKept (s : State) : Kept :=
  { irqEn := (s.pristine offIrqEn 0x1FFF).truncate 13
    attnEn := (s.pristine offAttnEn 0xF).truncate 4
    lead := (s.pristine offLead 16).toNat % 32 }

/-- The outcome of step 7's checks of the anchored snapshot (R69). -/
inductive SnapCheck where
  | accepted (x : Snapshot)
  /-- A check failed: one other than that of RECIPE_GEN, that of RECIPE_GEN, or both. -/
  | refused (invalid mismatch : Bool)
  | absent
deriving DecidableEq, Repr

/-- Every check is made; the RECIPE_GEN of an erased slot reads all ones (assumption log 87). -/
def State.snapCheck (s : State) : SnapCheck :=
  if !s.vig.snapOk then .absent
  else match tabFind s.flash.snaps s.vig.snapSlot with
    | none => .refused true (s.rcp.gen != 0xFFFFFFFF)
    | some x =>
      let invalid := !x.formatOk || x.generation != s.vig.snapGen || x.binding != s.binding || x.mac != s.snapMac x
      let mismatch := x.recipeGen != s.rcp.gen
      if invalid || mismatch then .refused invalid mismatch else .accepted x

/-- Boot flash holds a snapshot bound to another device (R107). -/
def State.foreignSnap (s : State) : Bool := s.flash.snaps.any fun e => e.2.binding != s.binding

/-- Step 7: the settings restore (R69). -/
def State.restoreSettings (s : State) : State :=
  let c := s.mod.cause
  if !s.hasKeys then
    { s with kept := s.pristineKept, mod := { s.mod with cause := { c with pristine := true } } }
  else match s.snapCheck with
    | .absent =>
      { s with kept := s.pristineKept
               mod := { s.mod with cause := { c with pristine := true, snapInvalid := s.foreignSnap } } }
    | .refused invalid mismatch =>
      { s with kept := s.pristineKept
               mod := { s.mod with cause :=
                 { c with pristine := true, snapInvalid := invalid, snapMismatch := mismatch } } }
    | .accepted x =>
      let leadBad : Bool := decide (16 < x.lead.toNat % 32)
      { s with
        kept := { irqEn := x.irqEn.truncate 13, attnEn := x.attnEn.truncate 4
                  lead := if leadBad then s.pristineKept.lead else x.lead.toNat % 32 }
        mod := { s.mod with cause := { c with snapReject := leadBad } } }

end Sys2Proof.Machine
end

