-- ==== Sys2Proof/Machine/Access.lean ====
section
/-! DEFINITION. Access to the parts of the state: ports, positions, records, counters, classes and units, and what the
spec says of each that several families read. -/

namespace Sys2Proof.Machine

/-! ## Ports and positions -/

/-- A position no tag has been enumerated at (R236, R238). -/
def posEmpty : Pos :=
  { verdict := 0, session := none, catchupDue := false, reason := 0, misses := 0, lastCrumb := 0, brisk := false,
    counter := false, classId := 0, nvHold := 0, parity := false, tagId := none, record := none, sprinkle := [], auth := none,
    authAt := none, beatAt := none, beatBusy := false, shadow := none, catchupAt := none, prioAt := none,
    adoptWait := none }

def State.port (s : State) (p : Nat) : Port := tabGet portOff s.ports p

def State.setPort (s : State) (p : Nat) (x : Port) : State := { s with ports := tabSet portOff s.ports p x }

def Port.at (x : Port) (i : Nat) : Pos := tabGet posEmpty x.pos i

def Port.setPos (x : Port) (i : Nat) (v : Pos) : Port := { x with pos := tabSet posEmpty x.pos i v }

def State.pos (s : State) (p i : Nat) : Pos := (s.port p).at i

def State.setPos (s : State) (p i : Nat) (v : Pos) : State := s.setPort p ((s.port p).setPos i v)

/-- A tag is enumerated at the position (R188); positions count from 1. -/
def Port.isPresent (x : Port) (i : Nat) : Bool := x.present.getLsbD (i - 1)

/-! ## Classes (R120), as the last scheduler epoch put them in force (R138) -/

def State.accClass (s : State) (id : Nat) : Option AccClass := s.sch.acc.find? (·.id == id)

def State.ctrClass (s : State) (id : Nat) : Option CtrClass := s.sch.ctr.find? (·.id == id)

/-- COUNTER_CLASS of an accessory class; 0 when it has none. -/
def State.counterClass (s : State) (id : Nat) : Nat :=
  match s.accClass id with
  | none => 0
  | some c => c.counterClass

/-! ## Counters (R285, R286) -/

/-- The largest 48-bit value. -/
def max48 : Nat := 2 ^ 48 - 1

/-- The first device-global counter. -/
def globalBase : Nat := 262144

/-- COUNT and LIMIT of a counter in the tables of the two kinds (R288). -/
def pairOf (rec glob : Tab (Nat × Nat)) (id : Nat) : Nat × Nat :=
  if id < globalBase then tabGet (0, 0) rec id else tabGet (0, max48) glob (id - globalBase)

/-- COUNT of the counter cache. -/
def State.count (s : State) (id : Nat) : Nat := (pairOf s.cnt.cache s.cnt.gcache id).1

def State.limit (s : State) (id : Nat) : Nat := (pairOf s.cnt.cache s.cnt.gcache id).2

/-- COUNT as readers see it: a CONSUME's or INCREMENT's new count shows with its completion (R31, R296). -/
def State.visibleCount (s : State) (id : Nat) : Nat :=
  match tabFind s.cnt.visible id with
  | none => s.count id
  | some c => c

/-- The limit flag: COUNT ≥ LIMIT (R285). -/
def State.limitFlag (s : State) (id : Nat) : Bool := decide (s.limit id ≤ s.visibleCount id)

/-- A counter exists (R285). -/
def State.counterExists (s : State) (id : Nat) : Bool :=
  if id < globalBase then decide (id < s.ldr.capacity) && s.counterClass (s.record id).classId != 0
  else decide (id < globalBase + 1024)

/-- A counter is RECOVERING (R303). -/
def State.recovering (s : State) (id : Nat) : Bool := s.cnt.ready && s.cnt.recoverAll && !s.cnt.recovered.contains id

/-- The commit window (R293): open while EARLY_WARNING is 0, or while the prediction is above 200 µs. -/
def State.commitOpen (s : State) : Bool :=
  !s.spw.early || (match s.spw.pred with | none => false | some p => decide (200 < p.1))

/-- The free entries of the commit buffer (R78). -/
def State.bufferRoom (s : State) : Nat := 64 - s.vig.buffer.length

/-! ## Units (R114, R142) -/

def unitActive : UnitSt := { st := .active, drainFor := .restart, drainEnd := 0, passed := false }

def State.unit (s : State) (u : Nat) : UnitSt := tabGet unitActive s.rcp.units u

def State.setUnit (s : State) (u : Nat) (x : UnitSt) : State :=
  { s with rcp := { s.rcp with units := tabSet unitActive s.rcp.units u x } }

def State.unitIs (s : State) (u : Nat) (t : UnitState) : Bool := (s.unit u).st == t

/-- The unit numbers of the kinds of R114. -/
def eccUnits : List Nat := (List.range 8).map (128 + ·)
def aesUnits : List Nat := (List.range 32).map (136 + ·)
def shaUnits : List Nat := (List.range 8).map (168 + ·)
def prfUnits : List Nat := (List.range 4).map (176 + ·)

/-- The units of the kind a unit belongs to. -/
def unitKind (u : Nat) : List Nat :=
  if u < 128 then List.range 128 else if u < 136 then eccUnits else if u < 168 then aesUnits
  else if u < 176 then shaUnits else prfUnits

/-- A service state's code in RCP_UNIT_STATE (R132). -/
def UnitState.code : UnitState → Nat
  | .active => 0
  | .draining => 1
  | .quiesced => 2
  | .rejoining => 3
  | .off => 4

/-- ENGINE_DEGRADED (R151, R388). -/
def State.engineDegraded (s : State) : Bool :=
  (eccUnits ++ aesUnits ++ shaUnits ++ prfUnits).any fun u => !s.unitIs u .active

/-- A change of an engine's or Proofer instance's service state: an ENGINE event, and GLB_IRQ_STAT.ENGINE when the unit
enters or leaves ACTIVE (R388, R486). -/
def State.moveUnit (s : State) (u : Nat) (x : UnitSt) : State :=
  let old := (s.unit u).st
  let s := s.setUnit u x
  if u < 128 ∨ old = x.st then s
  else
    let s := if old = .active ∨ x.st = .active then s.raise .engine else s
    s.report 7 [BitVec.ofNat 8 u, BitVec.ofNat 8 x.st.code]

/-- An engine of a queue's affinity set (R121): bits [7:0] select ECC engines, [11:8] AES groups of 8 lanes, [15:12]
SHA-256 lane pairs; a group of bits that is all 0 selects every engine of the kind. -/
def inAffinity (a : BitVec 16) (u : Nat) : Bool :=
  if u < 136 then a.toNat % 256 == 0 || a.getLsbD (u - 128)
  else if u < 168 then a.toNat / 256 % 16 == 0 || a.getLsbD (8 + (u - 136) / 8)
  else a.toNat / 4096 == 0 || a.getLsbD (12 + (u - 168) / 2)

/-- The authentications in progress. -/
def State.auths (s : State) : List (Nat × Nat × Auth) :=
  s.ports.flatMap fun p => p.2.pos.filterMap fun x => match x.2.auth with
    | none => none
    | some a => some (p.1, x.1, a)

/-- The lowest-numbered idle ACTIVE ECC engine of a set (R387). -/
def State.idleEcc (s : State) (aff : BitVec 16) : Option Nat :=
  eccUnits.find? fun u => inAffinity aff u && s.unitIs u .active && !(s.auths.any fun e => e.2.2.unit == some u)

/-- Some engine of a kind in the affinity set is ACTIVE (R387). -/
def State.engineActive (s : State) (kind : List Nat) (a : BitVec 16) : Bool :=
  kind.any fun u => inAffinity a u && s.unitIs u .active

/-- Some engine of a kind in the affinity set is on its way back to ACTIVE (R387). -/
def State.engineReturning (s : State) (kind : List Nat) (a : BitVec 16) : Bool :=
  kind.any fun u => inAffinity a u &&
    (s.unitIs u .rejoining || ((s.unitIs u .draining || s.unitIs u .quiesced) && (s.unit u).drainFor != .off))

end Sys2Proof.Machine
end

