-- ==== Sys2Proof/Machine/Entropy.lean ====
section
/-! DEFINITION. The entropy channels (R241–R265): their states, the events of the continuous tests, which blocks an
event discards and a closing window confirms, startup, failure and retests. -/

namespace Sys2Proof.Machine

/-! ## Channels -/

def State.chan (s : State) (ch : Channel) : Chan :=
  match ch with
  | .a => s.ent.a
  | .b => s.ent.b

def State.setChan (s : State) (ch : Channel) (c : Chan) : State :=
  match ch with
  | .a => { s with ent := { s.ent with a := c } }
  | .b => { s with ent := { s.ent with b := c } }

/-- ENTROPY event CHANNEL and PRF_SINCE.LAST_CH: 1 A, 2 B. -/
def chanCode : Channel → Nat
  | .a => 1
  | .b => 2

/-- CHANNEL of a Churn message (R252). -/
def chanOctet : Channel → Byte
  | .a => 0x41
  | .b => 0x42

/-- The channel is enabled by the recipe (R122). -/
def State.chanOn (s : State) (ch : Channel) : Bool :=
  match s.rcp.recipe with
  | none => false
  | some r => match ch with
    | .a => r.chanA
    | .b => r.chanB

/-- A_ACTIVE: active latches of channel A. -/
def State.activeLatches (s : State) : Nat := 64 - popcount s.ent.masked

/-- Streams of a channel. -/
def State.streams (s : State) (ch : Channel) : Nat :=
  match ch with
  | .a => s.activeLatches
  | .b => 1

/-- A startup or a retest runs. -/
def Chan.inRun (c : Chan) : Bool := c.state == 1 || c.retesting

/-- Samples are tested: not in acquisition, not OFF or DEAD (R242, R246). -/
def Chan.testing (c : Chan) : Bool := c.state == 2 || (c.state == 3 && !c.retesting) || (c.inRun && c.acquired)

/-- Bits feed blocks: the run's startup test has passed (R252). -/
def Chan.operational (c : Chan) : Bool := c.tested && (c.state == 2 || c.inRun)

/-- A change of a channel's state sets GLB_IRQ_STAT.ENTROPY and makes an ENTROPY event (R246, R377, R486). -/
def State.moveChan (s : State) (ch : Channel) (st : Nat) : State :=
  let c := s.chan ch
  if c.state = st then s
  else ((s.setChan ch { c with state := st }).raise .entropy).report 6
    [BitVec.ofNat 8 (chanCode ch), BitVec.ofNat 8 st, BitVec.ofNat 8 c.cause]

/-! ## Blocks: confirmation and discard (R252–R257) -/

/-- The Proofer shadows made from blocks a test holds of are squashed (R256, R277). -/
def State.squashPrf (s : State) (p : Nat → Bool) : State :=
  let hit (x : Prf) : Bool := match x.shadow with
    | none => false
    | some h => p h.seq
  let n := (s.prf.toList.filter hit).length
  { s with
    prf := s.prf.map fun x => if hit x then { x with shadow := none } else x
    spc := { s.spc with prfSquashed := satAdd s.spc.prfSquashed n } }

/-- Discards the unconfirmed blocks of a channel that a test holds of, with the shadows made from them. -/
def State.discardBlocks (s : State) (ch : Channel) (p : Block → Bool) : State :=
  let c := s.chan ch
  let gone (b : Block) : Bool := !b.confirmed && p b
  let lost := c.taken.filter p
  let n := (c.pool.filter gone).length + lost.length
  let s := s.setChan ch { c with
    pool := c.pool.filter fun b => !gone b, taken := c.taken.filter fun b => !p b, ndisc := satAdd c.ndisc n }
  match ch with
  | .a => s.squashPrf fun q => lost.any (·.seq == q)
  | .b => s

/-- Marks blocks by number: formed ones are discarded, later ones when they form (R256). -/
def State.markBlocks (s : State) (ch : Channel) (idxs : List Nat) : State :=
  let s := s.discardBlocks ch fun b => idxs.contains b.idx
  let c := s.chan ch
  s.setChan ch { c with
    marked := (idxs.filter fun i => decide (c.blk ≤ i)).foldl (fun l i => insertNew l i) c.marked }

/-- Every bit of a block lies in closed windows. -/
def Chan.closed (c : Chan) (b : Block) : Bool := decide ((b.idx + 1) * 2048 ≤ c.bitsClosed)

/-- Samples of the startup test (R250). -/
def startupSamples : Nat := 4096

/-- Active latches below a latch under a mask. -/
def latchPos (mask : BitVec 64) (latch : Nat) : Nat := ((List.range latch).filter fun i => !mask.getLsbD i).length

/-- The number, among the run's operational bits, of the bit that a stream gave at a sample; none: it fed no block, or
it lies before the last closed window, whose blocks are settled. -/
def State.bitIndex (s : State) (ch : Channel) (latch sample : Nat) : Option Nat :=
  if sample < startupSamples then none
  else
    let i := sample - startupSamples
    match ch with
    | .b => some i
    | .a =>
      let c := s.ent.a
      let start := 1024 * c.windows
      if start ≤ i then some (c.bitsClosed + (i - start) * s.activeLatches + latchPos s.ent.masked latch)
      else if start - i ≤ 1024 then
        some (c.bitsClosed + latchPos s.ent.prevMasked latch - (start - i) * (64 - popcount s.ent.prevMasked))
      else none

/-- The blocks that a repetition run of `run` samples ending at `sample` feeds. -/
def State.runBlocks (s : State) (ch : Channel) (latch sample run : Nat) : List Nat :=
  ((List.range (min run (sample + 1))).filterMap fun k => s.bitIndex ch latch (sample - k)).map (· / 2048)

/-- The blocks that the current window feeds. -/
def State.windowBlocks (s : State) (ch : Channel) : List Nat :=
  let c := s.chan ch
  let first := c.bitsClosed / 2048
  let last := (c.bitsClosed + 1024 * s.streams ch - 1) / 2048
  (List.range (last + 1 - first)).map (first + ·)

/-! ## Failure (R258–R260) -/

/-- One hour of TICK_NOW. -/
def hourUs : Nat := 3600000000

/-- Retests of a channel that began within the hour before now (R259). -/
def State.recentRetests (s : State) (c : Chan) : List (BitVec 64) :=
  c.retests.filter fun t => decide (s.tick.toNat < t.toNat + hourUs)

/-- A failed run that counts as a retest makes the channel DEAD when 2 other retests began in the hour before it. -/
def Chan.dies (c : Chan) : Bool :=
  (c.retesting || c.counted) && (match c.retests with
    | [] => false
    | t :: others => decide (2 ≤ (others.filter fun u => decide (t.toNat ≤ u.toNat + hourUs)).length))

/-- The channel fails: a HEALTHY one, or the startup or retest it runs. -/
def State.failChan (s : State) (ch : Channel) (cause : Nat) : State :=
  let dead := (s.chan ch).dies
  let s := s.discardBlocks ch fun _ => true
  let c := s.chan ch
  let s := s.setChan ch { c with
    tested := false, acquired := false, marked := [], retesting := false, retestBit := false, counted := false,
    cause := cause }
  s.moveChan ch (if dead then 4 else 3)

/-- The first block of a run has confirmed: HEALTHY (R246, R259). A retest that passes lets a Stage held by NO_ENTROPY
go on at step 9 (R59). -/
def State.healChan (s : State) (ch : Channel) : State :=
  let c := s.chan ch
  let s := (s.setChan ch { c with retesting := false, retestBit := false, counted := false, wasFailed := false }).moveChan ch 2
  if s.mode = .stage ∧ s.mod.stageFault = 3 then
    { s with mod := { s.mod with stageFault := 0, inStep9 := true } }
  else s

/-- A startup or retest begins (R250, R259): channel A's masks are lifted. -/
def State.beginRun (s : State) (ch : Channel) : State :=
  let c := s.chan ch
  let s := s.setChan ch { c with
    acquired := false, tested := false, blk := 0, marked := [], windows := 0, bitsClosed := 0, recent := [],
    startEvents := 0, lastKind := 0 }
  match ch with
  | .a => { s with ent := { s.ent with masked := 0, prevMasked := 0, atEnd := List.replicate 64 0 } }
  | .b => s

/-- A retest request is accepted (R259). -/
def State.retestOk (s : State) (ch : Channel) : Bool :=
  let c := s.chan ch
  c.state == 3 && !c.retesting && decide ((s.recentRetests c).length < 3)
    && (s.mode == .service || (s.mode == .stage && s.mod.stageFault == 3))

/-- A retest begins. -/
def State.beginRetest (s : State) (ch : Channel) : State :=
  let c := s.chan ch
  (s.setChan ch { c with retesting := true, retestBit := true, retests := s.tick :: c.retests }).beginRun ch

/-- Step 9 starts a channel (R250, R261). -/
def State.startChan (s : State) (ch : Channel) : State :=
  let c := s.chan ch
  let s := s.setChan ch { c with
    rct := match s.rcp.recipe with | none => 0 | some r => match ch with | .a => r.rctA | .b => r.rctB
    apt := match s.rcp.recipe with | none => 0 | some r => match ch with | .a => r.aptA | .b => r.aptB }
  let c := s.chan ch
  if !s.chanOn ch || c.state == 4 then s
  else if !c.wasFailed then (s.moveChan ch 1).beginRun ch
  else if (s.recentRetests c).length < 3 then
    ((s.setChan ch { c with wasFailed := false, counted := true, retests := s.tick :: c.retests }).moveChan ch 1).beginRun ch
  else s.moveChan ch 3

/-! ## Events (R247–R249) -/

/-- The latch or stream of an event is one that is tested. -/
def State.streamOk (s : State) (ch : Channel) (latch : Nat) : Bool :=
  match ch with
  | .a => decide (latch < 64) && !s.ent.masked.getLsbD latch
  | .b => true

/-- An event of a test, with the blocks it marks. A HEALTHY channel with more than 16 events in 65,536 samples fails. -/
def State.chanEvent (s : State) (ch : Channel) (kind latch sample : Nat) (blocks : List Nat) : State :=
  let c := s.chan ch
  if !c.testing || !s.streamOk ch latch then s
  else
    let recent := sample :: c.recent.filter fun i => decide (sample < i + 65536)
    let s := s.setChan ch { c with
      events := satInc c.events, lastKind := kind, recent := recent
      startEvents := if c.inRun && !c.tested then c.startEvents + 1 else c.startEvents }
    let s := match ch with
      | .a => { s with ent := { s.ent with lastLatch := latch } }
      | .b => s
    let s := if c.operational then s.markBlocks ch blocks else s
    if c.state = 2 ∧ 16 < recent.length then s.failChan ch kind else s

/-! ## Trim and windows (R242, R248, R255) -/

/-- The mask after acquisition: latches at code 0 or 63. -/
def endMask (codes : List Nat) : BitVec 64 :=
  (List.range 64).foldl (fun m i =>
    let k := codes.getD i 32
    if k = 0 ∨ k = 63 then setBit m i true else m) 0

/-- Acquisition of channel A ends. -/
def State.acquired (s : State) (codes : List Nat) : State :=
  let c := s.ent.a
  if c.inRun && !c.acquired then
    let codes := (List.range 64).map fun i => codes.getD i 32
    { s with ent := { s.ent with
        a := { c with acquired := true }, trim := codes, masked := endMask codes, prevMasked := endMask codes
        atEnd := List.replicate 64 0 } }
  else s

/-- One latch's code after a window (R242). -/
def trimStep (code ones : Nat) : Nat :=
  if 544 < ones then code - 1 else if ones < 480 then min 63 (code + 1) else code

/-- The trim loop at the end of a window: latches that stood at an end code for 4 windows are masked at this boundary,
and active latches track. -/
def State.trackTrim (s : State) (ones : List Nat) : State :=
  let e := s.ent
  let mask := (List.range 64).foldl (fun m i => if 4 ≤ e.atEnd.getD i 0 then setBit m i true else m) e.masked
  let codes := (List.range 64).map fun i =>
    let k := e.trim.getD i 32
    if mask.getLsbD i then k else trimStep k (ones.getD i 512)
  let atEnd := (List.range 64).map fun i =>
    let k := codes.getD i 32
    if k = 0 ∨ k = 63 then e.atEnd.getD i 0 + 1 else 0
  { s with ent := { e with trim := codes, masked := mask, prevMasked := e.masked, atEnd := atEnd } }

/-- Confirms the blocks whose windows have all closed; the answer's second part lists the shadows' blocks. -/
def State.confirmBlocks (s : State) (ch : Channel) : State × List Nat :=
  let c := s.chan ch
  let now (b : Block) : Bool := !b.confirmed && c.closed b
  let shadows := c.taken.filter c.closed
  let n := (c.pool.filter now).length + shadows.length
  let s := s.setChan ch { c with
    pool := c.pool.map fun b => if now b then { b with confirmed := true } else b
    taken := c.taken.filter fun b => !c.closed b
    nconf := satAdd c.nconf n }
  (if n ≠ 0 ∧ c.inRun = true then s.healChan ch else s, shadows.map (·.seq))

/-- A window of a channel closes. A channel A that this leaves with fewer than 48 active latches fails, and what would
have confirmed is discarded (R257, R258); one that the close itself makes HEALTHY fails after it (assumption log 99). -/
def State.closeWindow (s : State) (ch : Channel) (ones : List Nat) : State × List Nat :=
  let c := s.chan ch
  if !c.testing then (s, [])
  else
    let n := s.streams ch
    let s := match ch with
      | .a => s.trackTrim ones
      | .b => s
    let r :=
      if ch = .a ∧ c.state = 2 ∧ s.activeLatches < 48 then (s, [])
      else if c.operational then
        (s.setChan ch { s.chan ch with windows := c.windows + 1, bitsClosed := c.bitsClosed + 1024 * n }).confirmBlocks ch
      else (s, [])
    if ch = .a ∧ r.1.ent.a.state = 2 ∧ r.1.activeLatches < 48 then (r.1.failChan .a 3, r.2) else r

/-! ## The Churn (R252–R254) -/

/-- Some SHA-256 lane is ACTIVE. -/
def State.churnLane (s : State) : Bool := shaUnits.any fun u => s.unitIs u .active

/-- A block's worth of bits is complete: the block is formed, unless no lane is ACTIVE (R258) or the Churn forms none
(R262). A block that holds a marked bit is discarded, and one that finds the pool full is dropped. -/
def State.formBlock (s : State) (ch : Channel) (raw : BitVec 2048) : State :=
  let c := s.chan ch
  if !c.operational || !s.ent.forming then s
  else
    let c1 := { c with blk := c.blk + 1, marked := c.marked.filter (· != c.blk) }
    if !s.churnLane then s.setChan ch c1
    else if c.marked.contains c.blk then s.setChan ch { c1 with nextSeq := c.nextSeq + 1, ndisc := satInc c.ndisc }
    else if 64 ≤ c.pool.length then s.setChan ch { c1 with nextSeq := c.nextSeq + 1, ndrop := satInc c.ndrop }
    else
      let digest := Config.sha256 (chanOctet ch :: (beBytes 7 c.nextSeq ++ beBytes 256 raw.toNat))
      let b : Block := { seq := c.nextSeq, idx := c.blk, digest := digest, confirmed := false }
      (s.setChan ch { c1 with nextSeq := c.nextSeq + 1, pool := c.pool ++ [b] }).confirmBlocks ch |>.1

/-- Every SHA-256 lane is OFF after failed tests (assumption log 99): each HEALTHY channel fails (R258). -/
def State.shaLost (s : State) : State :=
  if (shaUnits.all fun u => s.unitIs u .off) && shaUnits.any fun u => s.rcp.testOff.contains u then
    let s := if s.ent.a.state = 2 then s.failChan .a 5 else s
    if s.ent.b.state = 2 then s.failChan .b 5 else s
  else s

/-! ## Startup test, frequencies, estimates (R243, R250, R263) -/

/-- The startup test of a run ends. -/
def State.startupTest (s : State) (ch : Channel) : State :=
  let c := s.chan ch
  if c.inRun && c.acquired && !c.tested then
    if 4 < c.startEvents then s.failChan ch c.lastKind
    else if ch = .a ∧ s.activeLatches < 48 then s.failChan ch 3
    else s.setChan ch { c with tested := true, windows := 0, bitsClosed := 0 }
  else s

/-- Both ring frequencies are in range. -/
def freqOk (fastMhz slowKhz : Nat) : Bool :=
  decide (800 ≤ fastMhz) && decide (fastMhz ≤ 1400) && decide (3200 ≤ slowKhz) && decide (slowKhz ≤ 4800)

/-- The frequency check at the start of a run of channel B. -/
def State.freqCheck (s : State) (fastMhz slowKhz : Nat) : State :=
  let c := s.ent.b
  if c.inRun && !c.acquired then
    let s := { s with ent := { s.ent with fastMhz := fastMhz, slowKhz := slowKhz } }
    if freqOk fastMhz slowKhz then s.setChan .b { c with acquired := true } else s.failChan .b 4
  else s

/-- Estimate windows run: the source is sampled, and no trim acquisition pauses them (R263). A startup's first window
begins with its first sample. -/
def Chan.estimated (c : Chan) (ch : Channel) : Bool := c.testing || (ch == .b && c.retesting)

/-- An estimate window ends; over it channel B's frequencies are measured. Its BITS and PAIRS are fixed. -/
def State.estimate (s : State) (ch : Channel) (bits ones pairs agree fastMhz slowKhz : Nat) : State :=
  let c := s.chan ch
  if !c.estimated ch then s
  else
    let s := s.setChan ch { c with
      estSeq := c.estSeq + 1, estBits := if ch = .b then 65536 else bits, estOnes := ones
      estPairs := if ch = .b then 65535 else pairs, estAgree := agree }
    match ch with
    | .a => s
    | .b =>
      let s := { s with ent := { s.ent with fastMhz := fastMhz, slowKhz := slowKhz } }
      if freqOk fastMhz slowKhz || (c.state == 3 && !c.retesting) then s else s.failChan .b 4

end Sys2Proof.Machine
end

