-- ==== Sys2Proof/Machine/Contexts.lean ====
section
/-! DEFINITION. Operation contexts (R382–R384), the checks of a descriptor (R369), and the mailbox's completion (R472):
how a host operation begins and how it ends. -/

namespace Sys2Proof.Machine

/-! ## Contexts in use -/

/-- SCH_CTX.HOST_USED. -/
def State.hostUsed (s : State) : Nat := s.sch.ops.length + (s.sch.held.filter (·.host)).length

/-- SCH_CTX.BEAT_USED: the contexts of released jobs (R382, R401). -/
def State.beatUsed (s : State) : Nat := (s.ports.flatMap fun p => p.2.jobs.filter (·.ctx)).length

/-- SCH_CTX_PEAK follows the contexts in use. -/
def State.peaks (s : State) : State :=
  { s with sch := { s.sch with hostPeak := max s.sch.hostPeak s.hostUsed, beatPeak := max s.sch.beatPeak s.beatUsed } }

/-- Contexts a queue's descriptors hold. -/
def State.queueCtxs (s : State) (q : Nat) : Nat :=
  (s.sch.ops.filter fun o => o.q == q).length + (s.sch.held.filter fun h => h.q == q && h.host).length

/-- MAX_INFLIGHT of a queue. -/
def State.maxIn (s : State) (q : Nat) : Nat :=
  match s.queueEntry q with
  | none => 0
  | some e => e.maxIn

/-- AFFINITY of a queue. -/
def State.affinity (s : State) (q : Nat) : BitVec 16 :=
  match s.queueEntry q with
  | none => 0
  | some e => e.affinity

/-- The lowest free host context. -/
def State.freeCtx (s : State) : Nat :=
  match (List.range 3584).find? fun i => (s.op (512 + i)).isNone with
  | none => 4096
  | some i => 512 + i

/-! ## Deadlines (R372, R374) -/

/-- A descriptor's deadline has passed. -/
def State.isLate (s : State) (d : Desc) : Bool := d.hasDeadline && decide (d.deadline < s.tick)

/-- The effective deadline of a fetched descriptor. -/
def Fetched.eff (f : Fetched) : Nat := if f.desc.hasDeadline then f.desc.deadline.toNat else f.fetched.toNat + 10000

/-! ## The checks of R369 -/

/-- Order 4: every byte of the buffer lies in the queue's window. -/
def Queue.inWindow (x : Queue) (d : Desc) : Bool :=
  d.bufLen == 0
    || (decide (x.winBase.toNat ≤ d.bufAddr.toNat) && decide (d.bufAddr.toNat + d.bufLen - 1 ≤ x.winLimit.toNat))

/-- The engines an opcode's steps use (R369 order 6; DEDUCED, assumption log 11): ECC engines for key agreements and
signatures, AES lanes for the MACs of Plait exchanges. -/
def Desc.engines (d : Desc) : List (List Nat) :=
  match d.opcode with
  | 0x01 => if d.param0 = 0 then [eccUnits, aesUnits] else [aesUnits]
  | 0x10 => [aesUnits]
  | 0x31 => [aesUnits]
  | 0x40 => [eccUnits]
  | 0x41 => [eccUnits]
  | 0x42 => [eccUnits]
  | 0x47 => [eccUnits]
  | _ => []

/-- The opcode's TARGET names a position. -/
def Desc.onPort (d : Desc) : Bool :=
  d.opcode == 0x01 || d.opcode == 0x10 || d.opcode == 0x30 || d.opcode == 0x31

/-- Orders 1–4. -/
def State.formRefusal (s : State) (q : Nat) (d : Desc) : Option Status :=
  if s.mode = .quarantine ∧ d.opcode ≠ 0x40 ∧ d.opcode ≠ 0x42 ∧ d.opcode ≠ 0x44 then some .quarantined
  else if !d.wellFormed then some .badDescriptor
  else if opcodeClass d.opcode ≠ some (s.queueClass q) then some .notPermitted
  else if !(s.queue q).inWindow d then some .boundary
  else none

/-- Order 6. -/
def State.unitRefusal (s : State) (q : Nat) (d : Desc) : Option Status :=
  if (d.onPort && !s.unitIs d.port .active) || d.engines.any (fun k => !s.engineActive k (s.affinity q)) then
    some .retryLater
  else none

/-- The first check of R369 that a descriptor fails. -/
def State.refusal (s : State) (q : Nat) (d : Desc) : Option Status :=
  match s.formRefusal q d with
  | some st => some st
  | none => if s.isLate d then some .late else s.unitRefusal q d

/-! ## Allocation (R383, R384) -/

/-- Queues whose first descriptor waits for a host context. -/
def State.waiting (s : State) : List (Nat × Nat) :=
  s.que.filterMap fun e =>
    match e.2.buf with
    | [] => none
    | f :: _ =>
      if s.queueClass e.1 ≠ 6 ∧ s.queueCtxs e.1 < s.maxIn e.1 ∧ s.mayFetch e.1 = true then some (e.1, f.eff) else none

/-- The queue that a free host context goes to: the earliest effective deadline, ties round-robin after the queue served
last. -/
def State.winner (s : State) : Option Nat :=
  match minBy (fun e : Nat × Nat => e.2 * 1024 + (e.1 + 1023 - s.sch.lastServed) % 1024) s.waiting with
  | none => none
  | some e => some e.1

/-- Takes the first descriptor from a queue's buffer; a buffer that runs empty while the tail is ahead counts (R381). -/
def State.popHead (s : State) (q : Nat) : State :=
  let x := s.queue q
  let rest := x.buf.drop 1
  s.setQueue q { x with buf := rest, starved := if rest = [] ∧ x.fetch ≠ x.tail then satInc x.starved else x.starved }

/-- Completes the descriptors at the front of a queue's buffer whose opcode is none of R368: no row of the opcode table
carries them out (R369 orders 1 and 2; assumption log 12). -/
def State.rejectUnknown (s : State) (q : Nat) : State :=
  (s.queue q).buf.foldl (fun s f =>
    if (s.queue q).buf.head? = some f ∧ opcodeClass f.desc.opcode = none then
      (s.popHead q).complete q f.desc (if s.mode = .quarantine then .quarantined else .badDescriptor) [] none false
    else s) s

/-- The first descriptor of a queue takes a context, if its opcode is this one, the context goes to this queue, and it
passes the checks of R369; `f` begins the operation in the context. A descriptor that fails a check completes without
taking one. -/
def State.dispatch (s : State) (q code : Nat) (f : Op → State → State) : State :=
  match (s.queue q).buf with
  | [] => s
  | h :: _ =>
    if h.desc.opcode ≠ code ∨ (s.queueClass q ≠ 6 ∧ (s.winner ≠ some q ∨ 3584 ≤ s.hostUsed)) then s
    else
      let refusal := s.refusal q h.desc
      let s := s.popHead q
      let s := { s with sch := { s.sch with lastServed := q } }
      let s := match refusal with
        | some st => s.complete q h.desc st [] none false
        | none =>
          let o : Op :=
            { ctx := s.freeCtx, q := q, desc := h.desc, eff := h.eff, phase := .engine, pastPoint := false,
              committed := false, count := 0, record := 0, offset := 0, data := [] }
          let s := s.setQueue q { s.queue q with moved := (s.queue q).moved + 1 }
          f o { s with sch := { s.sch with ops := s.sch.ops ++ [o] } }.peaks
      s.rejectUnknown q

/-- Work for an ECC engine: it is done where one of its queue's set is idle, and else waits for its turn (R386, R387). The
time that one check or signature takes is left out (assumption log 110). -/
def State.onEcc (s : State) (o : Op) (k : State → State) : State :=
  if (s.idleEcc (s.affinity o.q)).isSome then k s else s.setOp { o with phase := .ecc }

/-! ## The mailbox (R472) -/

/-- Writes octets to MSP_MBOX_DATA from byte 0. -/
def mboxWrite (t : Tab Byte) (bs : Bytes) : Tab Byte :=
  (bs.foldl (fun (r : Nat × Tab Byte) b => (r.1 + 1, tabSet 0 r.2 r.1 b)) (0, t)).2

/-- The first octets of MSP_MBOX_DATA. -/
def State.mboxRead (s : State) (n : Nat) : Bytes := (List.range n).map fun i => tabGet 0 s.msp.mboxData i

/-- The mailbox operation ends: status, result, and MSP_ATTN.MBOX_DONE. -/
def State.mboxDone (s : State) (st : Status) (result : Bytes) : State :=
  ({ s with msp := { s.msp with
      mbox := none, mboxStat := st.code, mboxData := mboxWrite s.msp.mboxData result } }).attend 1

end Sys2Proof.Machine
end

