-- ==== Sys2Proof/Machine/Vigil.lean ====
section
/-! DEFINITION. The vigil domain's commands: its supply (R75, R77), VBAT (R74, R81, R82), tamper (R87–R90), the end of a
zeroization (R104), IDENTIFY (R97), and lifecycle requests (R98–R102, R518). -/

namespace Sys2Proof.Machine

/-! ## Supply of the domain (R75, R77) -/

/-- The vigil rail reaches its window: VIGIL, with the vigil state empty. -/
def State.vigilWindow (s : State) (src : VigilSource) : State :=
  if s.mode = .unpowered then
    { s with
      mode := .vigil
      vig := { Vigil.empty with source := src, vbatPresent := src == .vbat, wrongA := s.vig.wrongA, wrongB := s.vig.wrongB,
                                wrongLong := s.vig.wrongLong } }
  else s

/-- The switch changes over; no state is lost. -/
def State.vigilSwitch (s : State) (dst : VigilSource) : State :=
  if s.mode = .unpowered then s else { s with vig := { s.vig with source := dst } }

/-! ## Tamper (R87–R90) -/

/-- The armed pairs whose latch a loop fault sets: one of 1 µs or more always does, one of less than 0.5 µs never; in
between it is open (R88). -/
def State.tamperSets (s : State) (wrong : BitVec 8) (durNs : Nat) : BitVec 8 × State :=
  let hit := wrong &&& s.vig.armed &&& ~~~ s.vig.latched
  if durNs < 500 then (0, s)
  else if durNs < 1000 then
    let v := takeFree 8 s
    (hit &&& v.1, v.2)
  else (hit, s)

/-- The lowest set bit. -/
def lowestBit {n : Nat} (v : BitVec n) : Nat :=
  match onesOf v with
  | [] => 0
  | i :: _ => i

/-- The balls' levels, which LOOP_INTACT shows at once (R151), until the next loop state. -/
def State.loopLevels (s : State) (aWrong bWrong : BitVec 8) (durNs : Nat) : State :=
  { s with vig := { s.vig with
      wrongA := aWrong, wrongB := bWrong, wrongLong := if durNs < 1000 then 0 else aWrong ||| bWrong } }

/-- The latches of some pairs set: what the domain does at the latch, in every mode (R85, R90, R92). -/
def State.latchTamper (s : State) (hit aWrong bWrong : BitVec 8) : State :=
  let i := lowestBit hit
  let kind : Nat := (aWrong.getLsbD i).toNat + 2 * (bWrong.getLsbD i).toNat
  let v : Vigil := if s.vig.latched = 0 then
      { s.vig with firstPair := i, firstKind := kind, inVigil := s.mode == Mode.vigil } else s.vig
  let s : State := { s with vig := { v with
    latched := v.latched ||| hit, inhibit := true, force := true
    forceTamper := v.forceTamper || s.mode != Mode.vigil } }
  s.clearAnchor.quarantine .tamper

/-- The armed pairs that are faulty now set their latches: after an arming, and after the latches were cleared (R87,
R90). A fault that ends within 1 µs does not. -/
def State.watchLoops (s : State) : State :=
  let hit := (s.vig.wrongA ||| s.vig.wrongB) &&& s.vig.armed &&& s.vig.wrongLong &&& ~~~ s.vig.latched
  if hit = 0 then s else s.latchTamper hit s.vig.wrongA s.vig.wrongB

/-- A loop state that lasts `durNs`. -/
def State.tamper (s : State) (aWrong bWrong : BitVec 8) (durNs : Nat) : State :=
  let s := s.loopLevels aWrong bWrong durNs
  if s.mode = .unpowered then s
  else
    let wrong := aWrong ||| bWrong
    let r := s.tamperSets wrong durNs
    if r.1 = 0 then r.2 else r.2.latchTamper r.1 aWrong bWrong

/-! ## IDENTIFY (R97) -/

/-- MOD_START_CAUSE (R44). -/
def StartCause.asWord (c : StartCause) : Word :=
  word [(0, c.kind), (2, c.firstPower.toNat), (3, c.perst.toNat), (4, c.hostRestart.toNat), (5, c.mspRestart.toNat),
    (6, c.quarExit.toNat), (7, c.pristine.toNat), (8, c.anchorLost.toNat), (9, c.snapInvalid.toNat),
    (10, c.snapMismatch.toNat), (11, c.snapReject.toNat), (12, c.slotB.toNat), (13, c.stageRestarted.toNat),
    (14, c.retire.toNat), (16, c.vigilCause), (20, c.lastMode)]

/-- HEAD_SEQ as VGL_ANCHOR_SEQ shows it (R94). -/
def State.anchorSeq (s : State) : BitVec 64 := if s.vig.anchorOk then s.vig.headSeq else 0

/-- The ASCII text BORPIN-ATTEST-01. -/
def attestDomain : Bytes :=
  [0x42, 0x4F, 0x52, 0x50, 0x49, 0x4E, 0x2D, 0x41, 0x54, 0x54, 0x45, 0x53, 0x54, 0x2D, 0x30, 0x31]

/-- The 96 octets that IDENTIFY signs. -/
def State.attestMessage (s : State) (challenge : Bytes) : Bytes :=
  attestDomain ++ padTo 32 challenge ++ s.bindingBytes
    ++ [BitVec.ofNat 8 s.life.state, BitVec.ofNat 8 s.keyEpoch, BitVec.ofNat 8 s.slotActive,
        BitVec.ofNat 8 s.keyBlockField]
    ++ leBytes 4 s.mod.cause.asWord.toNat ++ leBytes 8 s.anchorSeq.toNat ++ leBytes 4 s.vig.snapGen
    ++ leBytes 4 s.rcp.gen ++ leBytes 8 s.tick.toNat

/-- The message and its signature under the identity key; none: no identity exists. -/
def State.attest (s : State) (challenge : Bytes) : Option Bytes :=
  if s.identityReadable then
    let m := s.attestMessage challenge
    some (m ++ beBytes 64 (Config.ecdsaSign s.keyBlock.priv m).toNat)
  else none

/-- IDENTIFY on an ECC engine, its challenge read. -/
def State.identifyRun (s : State) (o : Op) : State :=
  match s.attest o.data with
  | none => s.finishOp o.ctx .notPermitted [] none
  | some r => s.finishOp o.ctx .ok (leBytes 4 160) (some r)

/-- IDENTIFY in its context: `buf` is the in-buffer read. -/
def State.identifyOp (s : State) (o : Op) (buf : Option Bytes) : State :=
  match buf with
  | none => s.finishOp o.ctx .badDescriptor [] none
  | some b =>
    let o := { o with data := b }
    s.onEcc o fun s => s.identifyRun o

/-- IDENTIFY from the mailbox, in STAGE after step 3, SERVICE or QUARANTINE (R472). -/
def State.mboxIdentify (s : State) : State :=
  if s.msp.mbox = some 1 then
    if s.mode = .stage && !s.stepDone 3 then s.mboxDone .notPermitted []
    else match s.attest (s.mboxRead 32) with
      | none => s.mboxDone .notPermitted []
      | some r => s.mboxDone .ok r
  else s

/-! ## Lifecycle requests (R98–R102, R518) -/

/-- The fields of a lifecycle request (R100). -/
def reqOp (r : Bytes) : Nat := leAt r 4 1
def reqSigner (r : Bytes) : Nat := leAt r 5 1
def reqTarget (r : Bytes) : Nat := leAt r 6 1
def reqHash (r : Bytes) : BitVec 256 := BitVec.ofNat 256 (beAt r 0x18 32)
def reqKeyHash (r : Bytes) : BitVec 256 := Config.sha256 (slice r 0x38 64)

/-- The slots that are active. -/
def State.activeSlots (s : State) : List Nat := (List.range 4).filter fun i => (s.slot i).isActive

/-- The signer's rule for OP, and the rules of each OP (R101). -/
def State.requestRule (s : State) (r : Bytes) : Bool :=
  let signed := decide (reqSigner r ≤ 3) && (s.slot (reqSigner r)).isActive && reqKeyHash r == (s.slot (reqSigner r)).hash
  match reqOp r with
  | 1 => s.life.state == 1 && reqKeyHash r == reqHash r && reqTarget r == 0
  | 2 => signed && decide (reqTarget r ≤ 3) && !(s.slot (reqTarget r)).fused
  | 3 => signed && decide (reqTarget r ≤ 3) && (s.slot (reqTarget r)).isActive && decide (1 < s.activeSlots.length)
  | 4 => signed && s.life.state == 2
  | 5 => signed && s.life.state == 3
  | _ => false

/-- The signature over octets 0x00–0x77 verifies under PUBLIC_KEY (R100). -/
def reqSigned (r : Bytes) : Bool := ecdsaVerifies (BitVec.ofNat 512 (beAt r 0x38 64)) (r.take 0x78) (slice r 0x78 64)

/-- R101. -/
def State.requestOk (s : State) (r : Bytes) : Bool :=
  leAt r 0 4 == 0x514C4342 && s.identityReadable && beAt r 8 16 == s.binding.toNat && leAt r 7 1 == s.keyEpoch
    && reqSigned r && s.requestRule r

/-- The pending-transition record of an accepted request (R98, R518). -/
def requestRecord (r : Bytes) : PendingRec :=
  match reqOp r with
  | 1 => .own (reqHash r)
  | 2 => .addKey (reqTarget r) (reqHash r)
  | 3 => .revoke (reqTarget r)
  | 4 => .group 3
  | _ => .group 4

/-- A request ends: the completion of its context, or the mailbox's. -/
def State.requestEnd (s : State) (ctx : Option Nat) (st : Status) : State :=
  let result : Bytes := if st = .ok then [BitVec.ofNat 8 s.life.state] else []
  match ctx with
  | none => s.mboxDone st result
  | some c => s.finishOp c st result none

/-- A request is judged (R102); an accepted one begins to blow its fuses, under the record. -/
def State.judgeRequest (s : State) (ctx : Option Nat) (r : Bytes) : State :=
  if !s.requestOk r then s.requestEnd ctx .notPermitted
  else if s.spw.early then s.requestEnd ctx .supplyHold
  else
    let s := { s with
      vig := { s.vig with record := some (requestRecord r) }
      life := { s.life with blowing := some (ctx, reqOp r), retireWait := s.life.retireWait || reqOp r == 5 } }
    match ctx with
    | none => s
    | some c => match s.op c with
      | none => s
      | some o => s.setOp { o with phase := .blow, pastPoint := true }

/-- The request is one this row carries out: its OP, or no OP of R100. -/
def opMatches (r : Bytes) (op : Nat) : Bool := reqOp r == op || decide (5 < reqOp r) || reqOp r == 0

/-- LIFECYCLE on an ECC engine, its block read. -/
def State.lifecycleRun (s : State) (o : Op) : State := s.judgeRequest (some o.ctx) o.data

/-- One lifecycle request of OP `op`, from an ADMIN queue in SERVICE or from the mailbox in STAGE or SERVICE. One
request is carried out at a time. -/
def State.lifecycle (s : State) (op : Nat) (src : LcSource) (_ : EngineResult) : State :=
  if s.life.blowing.isSome || s.life.retireWait then s
  else match src with
    | .queue q buf =>
      match buf with
      | none => s.dispatch q 0x41 fun o s => s.finishOp o.ctx .badDescriptor [] none
      | some b => if opMatches b op then s.dispatch q 0x41 fun o s =>
          let o := { o with data := b }
          s.onEcc o fun s => s.lifecycleRun o
        else s
    | .mailbox =>
      if s.msp.mbox = some 2 ∧ opMatches (s.mboxRead 184) op = true then
        if s.mode = .quarantine then s.mboxDone .notPermitted []
        else s.judgeRequest none (s.mboxRead 184)
      else s

/-- The fuses of a record, all blown. -/
def Otp.blow (o : Otp) : PendingRec → Otp
  | .group g => { o with groups := vecSet o.groups (g - 1) 3 }
  | .own h =>
    { o with
      slots := vecSet o.slots 0 { vecGet KeySlot.blank o.slots 0 with hashAny := true, hash := h, active := 3 }
      groups := vecSet o.groups 1 3 }
  | .addKey i h =>
    { o with slots := vecSet o.slots i { vecGet KeySlot.blank o.slots i with
        hashAny := true, hash := h, active := 3 } }
  | .revoke i => { o with slots := vecSet o.slots i { vecGet KeySlot.blank o.slots i with revoke := 3 } }

/-- The last fuse of a request is blown (R102): the record is cleared and the shadow and the registers follow. After
RETIRED, zeroization runs at once, and the request ends with it (R99). -/
def State.blowDone (s : State) : State :=
  match s.life.blowing, s.vig.record with
  | some (ctx, op), some r =>
    let o := s.otp.blow r
    let s := { s with
      otp := o
      vig := { s.vig with record := none, shadow := some o.stateOf }
      life := { s.life with state := o.stateOf, blowing := if op = 5 then some (ctx, op) else none } }
    if op = 5 then s.zeroizeBegin else s.requestEnd ctx .ok
  | _, _ => s

/-- Zeroization completes (R104). After an accepted RETIRE the request ends and the warm start begins (R47, R99). -/
def State.zeroizeEnd (s : State) : State :=
  if s.vig.zeroPending then
    let s := s.zeroizeFinish
    if s.life.retireWait = true ∧ (s.mode = .stage ∨ s.mode = .service) ∧ s.life.state = 4 then
      match s.life.blowing with
      | none => s.restart false false false true
      | some (ctx, _) =>
        (({ s with life := { s.life with blowing := none } }).requestEnd ctx .ok).restart false false false true
    else s
  else s

/-! ## The commands -/

/-- VIGIL_WINDOW_REACHED (R75). -/
def execVigilWindowReached (src : VigilSource) (s : State) : Host.Outcome State Fault Refusal :=
  always s fun s => s.vigilWindow src

/-- VIGIL_SUPPLY_SWITCH (R75). -/
def execVigilSupplySwitch (dst : VigilSource) (s : State) : Host.Outcome State Fault Refusal :=
  always s fun s => s.vigilSwitch dst

/-- VBAT_LOW_DETECT (R81). -/
def execVbatLowDetect (s : State) : Host.Outcome State Fault Refusal :=
  always s fun s => if s.mode = .unpowered then s else { s with vig := { s.vig with vbatLow := true } }

/-- VBAT_LOW_CLEAR (R82). -/
def execVbatLowClear (s : State) : Host.Outcome State Fault Refusal :=
  always s fun s => if s.mode = .unpowered then s else { s with vig := { s.vig with vbatLow := false } }

/-- VBAT_PRESENT_CHANGE (R74, R91): VBAT crosses 2.5 V while the domain holds its state, fed by VIO18 or by a VBAT that
is still above its retention level. -/
def execVbatPresentChange (present : Bool) (s : State) : Host.Outcome State Fault Refusal :=
  always s fun s => if s.mode = .unpowered then s else { s with vig := { s.vig with vbatPresent := present } }

/-- TAMPER_LATCH (R87–R90). -/
def execTamperLatch (aWrong bWrong : BitVec 8) (durNs : Nat) (s : State) : Host.Outcome State Fault Refusal :=
  always s fun s => s.tamper aWrong bWrong durNs

/-- ZEROIZE_DONE (R104). -/
def execZeroizeDone (s : State) : Host.Outcome State Fault Refusal := onClock s State.zeroizeEnd

/-- IDENTIFY (R97). -/
def execIdentify (q : Nat) (buf : Option Bytes) (s : State) : Host.Outcome State Fault Refusal :=
  onClock s fun s => s.dispatch q 0x40 fun o s => s.identifyOp o buf

/-- MBOX_IDENTIFY (R472). -/
def execMboxIdentify (s : State) : Host.Outcome State Fault Refusal := onClock s State.mboxIdentify

/-- LIFECYCLE_OWN (R101). -/
def execLifecycleOwn (src : LcSource) (res : EngineResult) (s : State) : Host.Outcome State Fault Refusal :=
  onClock s fun s => s.lifecycle 1 src res

/-- LIFECYCLE_ADD_KEY (R101). -/
def execLifecycleAddKey (src : LcSource) (res : EngineResult) (s : State) : Host.Outcome State Fault Refusal :=
  onClock s fun s => s.lifecycle 2 src res

/-- LIFECYCLE_REVOKE_KEY (R101). -/
def execLifecycleRevokeKey (src : LcSource) (res : EngineResult) (s : State) : Host.Outcome State Fault Refusal :=
  onClock s fun s => s.lifecycle 3 src res

/-- LIFECYCLE_DEPLOY (R101). -/
def execLifecycleDeploy (src : LcSource) (res : EngineResult) (s : State) : Host.Outcome State Fault Refusal :=
  onClock s fun s => s.lifecycle 4 src res

/-- LIFECYCLE_RETIRE (R101). -/
def execLifecycleRetire (src : LcSource) (res : EngineResult) (s : State) : Host.Outcome State Fault Refusal :=
  onClock s fun s => s.lifecycle 5 src res

/-- LIFECYCLE_BLOW_DONE (R102). -/
def execLifecycleBlowDone (s : State) : Host.Outcome State Fault Refusal := onClock s State.blowDone

end Sys2Proof.Machine
end

