-- ==== Sys2Proof/Machine/Proofer.lean ====
section
/-! DEFINITION. The Proofer (R269–R284): which instance serves a consumer, blocks taken from the pools, committed and
speculative reseeds, instantiation, generate requests, RANDOM descriptors, and the loss of both channels. -/

namespace Sys2Proof.Machine

/-! ## Instances and consumers (R269, R278, R279) -/

def State.inst (s : State) (i : Nat) : Prf := vecGet Prf.start s.prf i

def State.setInst (s : State) (i : Nat) (x : Prf) : State := { s with prf := vecSet s.prf i x }

/-- The unit number of an instance (R114). -/
def prfUnit (i : Nat) : Nat := 176 + i

/-- An instance serves consumers. -/
def State.prfServes (s : State) (i : Nat) : Bool :=
  s.unitIs (prfUnit i) .active && ((s.inst i).state == 1 || (s.inst i).state == 2)

/-- The instances from one on, in ascending order modulo 4. -/
def instFrom (i : Nat) : List Nat := (List.range 4).map fun k => (i + k) % 4

/-- The instance that serves the consumers of instance `i`. -/
def State.server (s : State) (i : Nat) : Option Nat := (instFrom i).find? s.prfServes

/-- Output leaves a buffer in generation order; nothing less than the whole is handed out. -/
def State.drawFrom (s : State) (i n : Nat) : Option (Bytes × State) :=
  let x := s.inst i
  if n ≤ x.buf.length then some (x.buf.take n, s.setInst i { x with buf := x.buf.drop n }) else none

/-- An internal draw: PRF1's consumers (R278). -/
def State.draw (s : State) (n : Nat) : Option (Bytes × State) :=
  match s.server 1 with
  | none => none
  | some i => s.drawFrom i n

/-- Some AES lane is ACTIVE: without one no instance generates (R269). -/
def State.aesLane (s : State) : Bool := aesUnits.any fun u => s.unitIs u .active

/-- RESEED_INTERVAL. -/
def State.reseedInt (s : State) : Nat :=
  match s.rcp.recipe with
  | none => 1024
  | some r => r.reseedInt

/-- Generate requests after which an instance stops. -/
def stopCount : Nat := 1048576

/-! ## Taking blocks (R254, R272) -/

/-- The oldest confirmed block: of channel A, then of channel B. -/
def State.confirmedBlock (s : State) : Option (Channel × Block) :=
  match s.ent.a.pool.find? (·.confirmed) with
  | some b => some (.a, b)
  | none => match s.ent.b.pool.find? (·.confirmed) with
    | some b => some (.b, b)
    | none => none

/-- A block leaves its pool. -/
def State.takeBlock (s : State) (ch : Channel) (b : Block) : State :=
  s.setChan ch { s.chan ch with pool := (s.chan ch).pool.erase b }

/-- The number of confirmed blocks in both pools. -/
def State.confirmedCount (s : State) : Nat :=
  (s.ent.a.pool.filter (·.confirmed)).length + (s.ent.b.pool.filter (·.confirmed)).length

/-! ## Reseeds and instantiation (R270–R277) -/

/-- Entropy input and additional input of a reseed (R271). -/
def State.reseedInput (s : State) (i : Nat) (ch : Channel) (b : Block) : Bytes :=
  beBytes 32 b.digest.toNat ++ [BitVec.ofNat 8 i, chanOctet ch] ++ leBytes 7 b.seq ++ leBytes 8 s.tick.toNat

/-- A committed reseed from a block: a shadow the instance holds has lost its pre-reseed snapshot and is squashed. -/
def State.commitReseed (s : State) (i : Nat) (ch : Channel) (b : Block) : State :=
  let x := s.inst i
  let s := match x.shadow with
    | none => s
    | some h =>
      { s with
        ent := { s.ent with a := { s.ent.a with taken := s.ent.a.taken.filter (·.seq != h.seq) } }
        spc := { s.spc with prfSquashed := satInc s.spc.prfSquashed } }
  (s.takeBlock ch b).setInst i { x with
    state := 1, ws := Config.drbgReseed x.ws (s.reseedInput i ch b), since := 0, lastCh := chanCode ch
    reseeds := satInc x.reseeds, shadow := none }

/-- The personalization string (R270). -/
def State.personalization (s : State) (i : Nat) : Bytes :=
  s.bindingBytes ++ [BitVec.ofNat 8 i] ++ leBytes 4 s.mod.cause.asWord.toNat ++ leBytes 8 s.tick.toNat

/-- Instantiation from two confirmed blocks (R270). -/
def State.instantiate (s : State) (i : Nat) : State :=
  match s.confirmedBlock with
  | none => s
  | some (ch, b) =>
    let t := s.takeBlock ch b
    match t.confirmedBlock with
    | none => s
    | some (ch2, b2) =>
      let x := s.inst i
      (t.takeBlock ch2 b2).setInst i { x with
        state := 1
        ws := Config.drbgInstantiate (beBytes 32 b.digest.toNat) ((beBytes 32 b2.digest.toNat).take 16) (s.personalization i)
        since := 0, lastCh := chanCode ch, reseeds := satInc x.reseeds, buf := [], shadow := none, due := false }

/-- Step 9 has its channels settled: every enabled one is HEALTHY, FAILED or DEAD, and one is HEALTHY (R251). -/
def State.channelsSettled (s : State) : Bool :=
  [Channel.a, Channel.b].all fun ch => !s.chanOn ch || decide (2 ≤ (s.chan ch).state)

def State.someHealthy (s : State) : Bool := s.ent.a.state == 2 || s.ent.b.state == 2

/-- Instantiations may run: outside step 9, or once its channels are settled, on an ACTIVE AES lane (R269). -/
def State.mayInstantiate (s : State) : Bool := (!s.mod.inStep9 || (s.channelsSettled && s.someHealthy)) && s.aesLane

/-- Every instance that waits for its instantiation is instantiated while two confirmed blocks remain. -/
def State.instantiateDue (s : State) : State :=
  if s.mayInstantiate then (List.range 4).foldl (fun s i => if (s.inst i).due then s.instantiate i else s) s else s

/-- A reseed of an instance is due (R272). -/
def State.reseedDue (s : State) (i : Nat) : Bool :=
  decide (1 ≤ (s.inst i).state) && decide (s.reseedInt ≤ (s.inst i).since)

/-- The due instance with the highest count since its last committed reseed, the lower number of equals (R274). -/
def State.neediest (s : State) : Option Nat :=
  minBy (fun i => (2 * stopCount - (s.inst i).since) * 4 + i) ((List.range 4).filter s.reseedDue)

/-- One due reseed from a confirmed block, on an ACTIVE AES lane (R269, R274). An instance that waits for its
instantiation has taken its two blocks before, if there were two. -/
def State.reseedOne (s : State) : State :=
  match s.neediest, s.confirmedBlock with
  | some i, some (ch, b) => if s.aesLane then s.commitReseed i ch b else s
  | _, _ => s

/-- `n` generate requests from a working state: the output and the state after them. -/
def generate (ws : BitVec 384) : Nat → Bytes × BitVec 384
  | 0 => ([], ws)
  | n + 1 =>
    let r := generate ws n
    (r.1 ++ padTo 512 (Config.drbgOutput r.2 512), Config.drbgUpdate r.2 512)

/-- The oldest unconfirmed block of a HEALTHY channel A goes to a speculative reseed of an instance (R272, R275). How many
requests the idle AES cycles allow its shadow is open: 0 to 16, 8 KiB (assumption log 13). -/
def State.speculate (s : State) (i : Nat) : State :=
  let x := s.inst i
  match s.ent.a.pool.find? fun b => !b.confirmed with
  | none => s
  | some b =>
    let s := s.takeBlock .a b
    let s := { s with
      ent := { s.ent with a := { s.ent.a with taken := s.ent.a.taken ++ [b] } }
      spc := { s.spc with prfShadows := satInc s.spc.prfShadows } }
    let v := takeFree 8 s
    let n := v.1.toNat % 17
    let g := generate (Config.drbgReseed x.ws (s.reseedInput i .a b)) n
    v.2.setInst i { x with shadow := some { seq := b.seq, ws := g.2, count := n, out := g.1 } }

/-- The due instance without a shadow that has the highest count makes a speculative reseed (R274). -/
def State.speculateOne (s : State) : State :=
  let l := (List.range 4).filter fun i => s.reseedDue i && (s.inst i).shadow.isNone
  match minBy (fun i => (2 * stopCount - (s.inst i).since) * 4 + i) l with
  | none => s
  | some i => if s.ent.a.state == 2 && s.aesLane then s.speculate i else s

/-- The confirmed output buffer holds 8 KiB (R278): shadow output that finds no room is discarded (assumption log 13). -/
def bufMax : Nat := 8192

/-- The shadows of confirmed blocks become committed states, their output behind the output already there (R276). -/
def State.confirmShadows (s : State) (seqs : List Nat) : State :=
  (List.range 4).foldl (fun s i =>
    let x := s.inst i
    match x.shadow with
    | none => s
    | some h =>
      if seqs.contains h.seq then
        let s := s.setInst i { x with
          state := 1, ws := h.ws, since := h.count, lastCh := 1, reseeds := satInc x.reseeds
          buf := (x.buf ++ h.out).take bufMax, shadow := none }
        { s with spc := { s.spc with prfConfirmed := satInc s.spc.prfConfirmed } }
      else s) s

/-! ## RANDOM descriptors (R281) -/

/-- The instance of a RANDOM queue. -/
def randomInst (q : Nat) : Nat := 2 + q % 2

/-- RANDOM operations that gather, by effective deadline. -/
def State.gathering (s : State) : List Nat :=
  (sortBy (·.eff) (s.sch.ops.filter fun o => o.phase == .gather)).map (·.ctx)

/-- An operation has gathered its whole length: OK, or LATE. -/
def State.gatherEnd (s : State) (o : Op) (data : Bytes) : State :=
  if s.isLate o.desc then s.finishOp o.ctx .late [] none
  else s.finishOp o.ctx .ok (leBytes 4 o.desc.bufLen) (some data)

/-- The instance that serves a FRESH request: the one of R278, or with every instance STOPPED the first of them, whose
committed reseed lifts the stop (R273). -/
def State.freshServer (s : State) (i : Nat) : Option Nat :=
  match s.server i with
  | some k => some k
  | none => (instFrom i).find? fun k => s.unitIs (prfUnit k) .active && decide (1 ≤ (s.inst k).state)

/-- A FRESH request: a committed reseed from a confirmed block taken for it alone, then one generate request. -/
def State.gatherFresh (s : State) (o : Op) : State :=
  if s.isLate o.desc then s.finishOp o.ctx .late [] none
  else
    match s.freshServer (randomInst o.q), s.confirmedBlock with
    | some i, some (ch, b) =>
      if s.aesLane then
        let s := s.commitReseed i ch b
        let x := s.inst i
        let g := generate x.ws 1
        (s.setInst i { x with ws := g.2, since := 1 }).gatherEnd o (g.1.take o.desc.bufLen)
      else s
    | _, none => if s.someHealthy then s else s.finishOp o.ctx .entropyStarved [] none
    | _, _ => s

/-- One RANDOM operation gathers what its instance holds. -/
def State.gatherOne (s : State) (ctx : Nat) : State :=
  match s.op ctx with
  | none => s
  | some o =>
    if o.desc.fresh then s.gatherFresh o
    else if s.isLate o.desc then s.finishOp o.ctx .late [] none
    else match s.server (randomInst o.q) with
      | none => s
      | some i =>
        let x := s.inst i
        let n := min x.buf.length (o.desc.bufLen - o.data.length)
        let s := s.setInst i { x with buf := x.buf.drop n }
        let data := o.data ++ x.buf.take n
        if data.length = o.desc.bufLen then s.gatherEnd o data else s.setOp { o with data := data }

def State.gatherAll (s : State) : State := s.gathering.foldl State.gatherOne s

/-! ## Levels, exhaustion (R269, R273, R282) -/

/-- STRETCHING and STOPPED follow the count (R269); entering STOPPED sets GLB_IRQ_STAT.PROOFER (R486). -/
def State.prfLevel (s : State) (i : Nat) : State :=
  let x := s.inst i
  if x.state = 0 then s
  else
    let st := if stopCount ≤ x.since then 3 else if s.reseedInt ≤ x.since then 2 else 1
    let s := s.setInst i { x with state := st }
    if st = 3 ∧ x.state ≠ 3 then s.raise .proofer else s

/-- Every instance that is not OFF is STOPPED, no channel is HEALTHY and no confirmed block remains (R282). -/
def State.exhausted (s : State) : Bool :=
  ((List.range 4).all fun i => s.unitIs (prfUnit i) .off || (s.inst i).state == 3)
    && !s.someHealthy && s.confirmedCount == 0

/-- R282, in SERVICE and in STAGE after step 9. -/
def State.exhaustCheck (s : State) : State :=
  if s.exhausted && (s.mode == .service || (s.mode == .stage && s.stepDone 9)) then s.quarantine .entropyExhausted else s

/-- What the Proofer does once a block, a count or a request has changed. -/
def State.prfReact (s : State) : State :=
  let s := s.gathering.foldl (fun s c => match s.op c with
    | none => s
    | some o => if o.desc.fresh then s.gatherFresh o else s) s
  let s := s.instantiateDue
  let s := s.reseedOne.reseedOne.reseedOne.reseedOne
  let s := s.speculateOne.speculateOne.speculateOne.speculateOne
  let s := (List.range 4).foldl State.prfLevel s
  s.gatherAll.exhaustCheck

/-- A generate request of an instance (R271), while its buffer has room for its 512 octets. -/
def State.prfGenerate (s : State) (i : Nat) : State :=
  let x := s.inst i
  if s.prfServes i && s.aesLane && decide (x.buf.length + 512 ≤ bufMax) && decide (x.since < stopCount) then
    let g := generate x.ws 1
    (s.setInst i { x with ws := g.2, since := x.since + 1, buf := x.buf ++ g.1 }).prfReact
  else s

/-- A Proofer instance leaves ACTIVE (R283): its shadow is squashed, its output discarded, its state zeroed.
Its registers keep their values until REJOINING (R22). -/
def State.prfLeave (s : State) (i : Nat) : State :=
  let x := s.inst i
  let s := match x.shadow with
    | none => s
    | some h =>
      let s := s.squashPrf (· == h.seq)
      { s with ent := { s.ent with a := { s.ent.a with taken := s.ent.a.taken.filter (·.seq != h.seq) } } }
  s.setInst i { Prf.start with reseeds := x.reseeds, since := x.since, lastCh := x.lastCh }

/-! ## The commands -/

/-- RANDOM (R281). -/
def execRandom (q : Nat) (s : State) : Host.Outcome State Fault Refusal :=
  onClock s fun s => (s.dispatch q 0x20 fun o s => s.setOp { o with phase := .gather }).prfReact

end Sys2Proof.Machine
end

