-- ==== Sys2Proof/Machine/Churn.lean ====
section
/-! DEFINITION. Stage step 9's end (R58, R106, R251, R270) and the commands of the entropy channels (R242–R263). -/

namespace Sys2Proof.Machine

/-- A zeroized Borpin with a spare key block generates its next identity (R95, R106): the private key and the secret seed
are 64 octets of PRF1's output (R278; assumption log 100). None: the draw waits for output (R279). -/
def State.generateIdentity (s : State) : Option State :=
  match s.draw 64 with
  | none => none
  | some (bs, t) =>
    let priv := BitVec.ofNat 256 (beNat (bs.take 32))
    let k : KeyBlock :=
      { used := true, priv := priv, pub := Config.publicKey priv, seed := BitVec.ofNat 256 (beNat (bs.drop 32))
        cert := [], marker := false, unblown := true }
    some { t with
      otp := { t.otp with blocks := vecSet t.otp.blocks 1 k }
      life := { t.life with keyBlock := 1 } }

/-- Step 9 completes when its channels are settled, one of them HEALTHY, and every instance that passed its tests is
instantiated; with no HEALTHY channel, or no instance, it fails with NO_ENTROPY (R251, R270). -/
def State.step9Check (s : State) : State :=
  if s.mod.inStep9 && s.mode == .stage && s.mod.stageFault == 0 && s.channelsSettled then
    if !s.someHealthy then s.stageFault 3
    else if (List.range 4).any fun i => (s.inst i).due then s
    else if (List.range 4).all fun i => (s.inst i).state == 0 then s.stageFault 3
    else if s.mod.exitSpare then (match s.generateIdentity with
      | none => s
      | some t => t.endStep 9)
    else s.endStep 9
  else s

/-- What follows every change of a channel. -/
def State.entropyReact (s : State) : State := s.shaLost.prfReact.step9Check

/-! ## The commands -/

/-- ACQUISITION_END (R242). -/
def execAcquisitionEnd (codes : List Nat) (s : State) : Host.Outcome State Fault Refusal :=
  onClock s fun s => s.acquired codes

/-- STARTUP_TEST_END (R250). -/
def execStartupTestEnd (ch : Channel) (s : State) : Host.Outcome State Fault Refusal :=
  onClock s fun s => (s.startupTest ch).entropyReact

/-- RING_FREQ_CHECK (R243). -/
def execRingFreqCheck (fastMhz slowKhz : Nat) (s : State) : Host.Outcome State Fault Refusal :=
  onClock s fun s => (s.freqCheck fastMhz slowKhz).entropyReact

/-- REPETITION_EVENT (R247): the run has reached the cutoff in force. -/
def execRepetitionEvent (ch : Channel) (latch sample run : Nat) (s : State) : Host.Outcome State Fault Refusal :=
  onClock s fun s =>
    if run = (s.chan ch).rct then
      (s.chanEvent ch 1 latch sample (s.runBlocks ch latch sample run)).entropyReact
    else s

/-- PROPORTION_EVENT (R248): the match count has reached the cutoff in force. -/
def execProportionEvent (ch : Channel) (latch sample count : Nat) (s : State) : Host.Outcome State Fault Refusal :=
  onClock s fun s =>
    if count = (s.chan ch).apt then (s.chanEvent ch 2 latch sample (s.windowBlocks ch)).entropyReact else s

/-- APT_WINDOW_CLOSE (R242, R248, R255). -/
def execAptWindowClose (ch : Channel) (ones : List Nat) (s : State) : Host.Outcome State Fault Refusal :=
  onClock s fun s =>
    let r := s.closeWindow ch ones
    ((match ch with
      | .a => r.1.confirmShadows r.2
      | .b => r.1)).entropyReact

/-- CHURN_BLOCK_FORMED (R252). -/
def execChurnBlockFormed (ch : Channel) (raw : BitVec 2048) (s : State) : Host.Outcome State Fault Refusal :=
  onClock s fun s => (s.formBlock ch raw).entropyReact

/-- A retest request of one channel, the writes of one cycle together (R259). -/
def State.retest (s : State) (w : Writers) (ch : Channel) : State :=
  if s.retestOk ch then s.beginRetest ch
  else
    let s := if w.pcie then s.reject .pcie else s
    if w.msp then s.reject .msp else s

/-- ENT_RETEST_A (R259). -/
def execEntRetestA (w : Writers) (s : State) : Host.Outcome State Fault Refusal := onClock s fun s => s.retest w .a

/-- ENT_RETEST_B (R259). -/
def execEntRetestB (w : Writers) (s : State) : Host.Outcome State Fault Refusal := onClock s fun s => s.retest w .b

/-- PROOFER_GENERATE (R271): a draw of step 9 may have waited for its output. -/
def execProoferGenerate (inst : Nat) (s : State) : Host.Outcome State Fault Refusal :=
  onClock s fun s => (s.prfGenerate inst).step9Check

/-- ESTIMATE_WINDOW_END (R263). -/
def execEstimateWindowEnd (ch : Channel) (bits ones pairs agree fastMhz slowKhz : Nat) (s : State) :
    Host.Outcome State Fault Refusal :=
  onClock s fun s => (s.estimate ch bits ones pairs agree fastMhz slowKhz).entropyReact

/-- The retests still to be known: those of the last hour, and while a counted run goes on those of the hour before it
began, by which R260 judges it. -/
def State.keptRetests (s : State) (c : Chan) : List (BitVec 64) :=
  match c.retests with
  | [] => []
  | t :: _ =>
    if c.retesting || c.counted then c.retests.filter fun u => decide (t.toNat ≤ u.toNat + hourUs)
    else s.recentRetests c

/-- RETEST_BUDGET_EXPIRE (R259): a retest that began an hour ago leaves the history. -/
def execRetestBudgetExpire (ch : Channel) (s : State) : Host.Outcome State Fault Refusal :=
  onClock s fun s => s.setChan ch { s.chan ch with retests := s.keptRetests (s.chan ch) }

end Sys2Proof.Machine
end

