-- ==== Sys2Proof/Machine/Fabric.lean ====
section
/-! DEFINITION. The policy fabric and the guards: the input namespace (R151), the evaluation of a tick (R147–R158), the
guards' two-tick rule, the live carrier, readback and stalls (R156–R167), and the permit bits (R160, R161). -/

namespace Sys2Proof.Machine

/-! ## Inputs (R151) -/

/-- Position index i = 32 × port + (position − 1). -/
def State.posAt (s : State) (i : Nat) : Pos := s.pos (i / 32) (i % 32 + 1)

def State.posPresent (s : State) (i : Nat) : Bool := (s.port (i / 32)).isPresent (i % 32 + 1)

/-- LIMIT[i]: the limit flag of the counter of the record bound to the position; 0 if that record has no counter; 1 if
no tag is enumerated, and while an enumerated tag is bound to no record (assumption log 8). -/
def State.posLimit (s : State) (i : Nat) : Bool :=
  !s.posPresent i ||
    match (s.posAt i).record with
    | none => true
    | some r => s.counterExists r && s.limitFlag r

/-- An enabled entropy channel that is neither FAILED nor DEAD; a channel that is not enabled is OFF. -/
def Chan.ok (c : Chan) : Bool := c.state == 1 || c.state == 2

/-- The value of an input other than a CELL input. -/
def State.input (s : State) (sel : Nat) : Bool :=
  if sel = 0 then false
  else if sel = 1 then true
  else if sel = 0x100 then s.ent.a.ok || s.ent.b.ok
  else if sel = 0x101 then s.ent.a.ok
  else if sel = 0x102 then s.ent.b.ok
  else if sel = 0x103 then s.spw.early
  else if sel = 0x104 then s.commitOpen
  else if sel = 0x105 then decide (48 ≤ s.vig.buffer.length)
  else if sel = 0x106 then s.vig.vbatLow
  else if sel = 0x107 then s.mod.cause.anchorLost
  else if sel = 0x108 then s.mod.cause.pristine
  else if sel = 0x109 then s.rcp.snapStale
  else if sel = 0x10A then s.rcp.actBit
  else if sel = 0x10B then s.engineDegraded
  else if sel = 0x10C then s.ldr.integritySeen
  else if sel = 0x10D then s.mod.cause.kind == 2
  else if sel < 0x118 then !(s.vig.wrongA ||| s.vig.wrongB).getLsbD (sel - 0x110)
  else if sel < 0x300 then s.fab.permit.getLsbD (sel - 0x200)
  else if sel < 0x400 then s.fab.enabled.getLsbD (sel - 0x300)
  else if sel < 0x1000 then false
  else if sel < 0x2000 then (s.posAt (sel - 0x1000)).verdict == 2
  else if sel < 0x3000 then s.posPresent (sel - 0x2000)
  else if sel < 0x4000 then s.posLimit (sel - 0x3000)
  else if sel < 0x4400 then s.limitFlag (globalBase + (sel - 0x4000))
  else
    let c := vecGet SpwChan.start s.spw.chans ((sel - 0x4800) / 16)
    let e := (sel - 0x4800) % 16
    c.on && decide (e ≤ 8) && c.events.getLsbD e

/-! ## Cells (R147–R149, R153) -/

/-- What the evaluation of a tick builds, cell by cell. -/
structure Sweep where
  out    : BitVec 1024
  latch  : BitVec 1024
  counts : Tab Nat

/-- The input SELK of cell `k`: an earlier cell's output is this tick's, the cell's own or a later one's the previous
tick's (R153). -/
def cellInput (s : State) (prev : BitVec 1024) (w : Sweep) (k sel : Nat) : Bool :=
  if 0x400 ≤ sel ∧ sel ≤ 0x7FF then
    if sel - 0x400 < k then w.out.getLsbD (sel - 0x400) else prev.getLsbD (sel - 0x400)
  else s.input sel

/-- The table output of cell `k` (R148); a latch cell's in5 is its stored value (R149). -/
def cellTable (s : State) (prev : BitVec 1024) (w : Sweep) (k : Nat) (c : Cell) : Bool :=
  let v (j : Nat) : Nat := (cellInput s prev w k (vecGet 0 c.sel j)).toNat
  let in5 : Nat := if c.latch then (w.latch.getLsbD k).toNat else v 5
  c.lut.getLsbD (v 0 + 2 * v 1 + 4 * v 2 + 8 * v 3 + 16 * v 4 + 32 * in5)

/-- The timer count after a tick: consecutive true ticks (ON_DELAY), or ticks since the last true one (OFF_DELAY), which
starts saturated; both saturate at TIMER_N (R149, R172). The count of OFF_DELAY is held as TIMER_N minus it, so that
every count starts at 0. -/
def timerNext (c : Cell) (n : Nat) (t : Bool) : Nat :=
  if c.timer = 1 then (if t then min c.timerN (n + 1) else 0)
  else (if t then c.timerN else n - 1)

/-- The output of cell `k` on a tick whose table output is `t`, the timer count before it being `n` (R149). -/
def cellOut (c : Cell) (n : Nat) (t : Bool) : Bool :=
  if c.timer = 0 then t
  else if c.timer = 1 then t && decide (c.timerN ≤ n)
  else t || decide (0 < n)

/-- Evaluates cell `k`. -/
def evalCell (s : State) (prev : BitVec 1024) (w : Sweep) (k : Nat) (c : Cell) : Sweep :=
  let t := cellTable s prev w k c
  let n := tabGet 0 w.counts k
  { out := setBit w.out k (cellOut c n t)
    latch := if c.latch then setBit w.latch k t else w.latch
    counts := if c.timer = 0 then w.counts else tabSet 0 w.counts k (timerNext c n t) }

/-- Evaluates the cells from number `k` on, in order. -/
def evalCells (s : State) (prev : BitVec 1024) : List Cell → Nat → Sweep → Sweep
  | [], _, w => w
  | c :: cs, k, w => evalCells s prev cs (k + 1) (evalCell s prev w k c)

/-! ## Guards (R156–R158) -/

/-- A netlist takes over: latches, timers, ticks and the two-tick history are its own (R138, R149). -/
def State.swapNetlist (s : State) : State :=
  match s.fab.newNet with
  | none => s
  | some n =>
    { s with fab := { s.fab with
        cells := n.1, guards := n.2, fresh := true, newNet := none, ticks := 0, out := 0, latch := 0, counts := [],
        prevTrue := 0 } }

/-- Whether a guard is enabled on a tick (R157): its source is true now and was on the previous tick, and its fault bit
is 0. On the first tick of a reloaded netlist an enabled guard stays enabled if its source is true (R158). -/
def guardOn (f : Fabric) (out : BitVec 1024) (g : GuardEntry) : Bool :=
  out.getLsbD g.source && !f.fault.getLsbD g.guard
    && (f.prevTrue.getLsbD g.guard || (f.fresh && f.enabled.getLsbD g.guard))

/-- The enabled guards after a tick. -/
def guardsOn (f : Fabric) (out : BitVec 1024) : BitVec 256 :=
  f.guards.foldl (fun v g => if guardOn f out g then setBit v g.guard true else v) 0

/-- The guards whose source is true on a tick. -/
def sourcesTrue (f : Fabric) (out : BitVec 1024) : BitVec 256 :=
  f.guards.foldl (fun v g => if out.getLsbD g.source then setBit v g.guard true else v) 0

/-- The live guards of a set. -/
def liveOf (f : Fabric) (v : BitVec 256) : BitVec 256 :=
  f.guards.foldl (fun r g => if !g.static && v.getLsbD g.guard then setBit r g.guard true else r) 0

/-- One evaluation of the fabric (R152, R153, R157): inputs are sampled before it, and every guard follows its source.
A live guard with no carrier yet, newly enabled or static before a reload, waits for its first rising instant (R163). -/
def State.evalTick (s : State) : State :=
  let s := s.swapNetlist
  let f := s.fab
  let w := evalCells s (if f.fresh then 0 else f.out) f.cells 0 { out := f.out, latch := f.latch, counts := f.counts }
  let on := if s.vig.force then 0 else guardsOn f w.out
  let live := liveOf f on
  let waiting := f.enabledAt.filter fun e => live.getLsbD e.1
  let begins := live &&& ~~~ f.carrier
  { s with fab := { f with
      fresh := false
      ticks := f.ticks + 1
      out := w.out
      latch := w.latch
      counts := w.counts
      lastIn := BitVec.ofBool
        (if 0x400 ≤ f.peekSel ∧ f.peekSel ≤ 0x7FF then w.out.getLsbD (f.peekSel - 0x400) else s.input f.peekSel)
      enabled := on
      prevTrue := sourcesTrue f w.out
      carrier := f.carrier &&& live
      enabledAt := waiting ++
        (((onesOf begins).filter fun g => (tabFind waiting g).isNone).map fun g => (g, s.tick.toNat))
      stallHold := f.stallHold && sourcesTrue f w.out &&& f.prevTrue == 0 } }

/-- FABRIC_TICK: TICK_NOW increments, and in SERVICE the fabric is evaluated in that cycle (R152). An increment to a
multiple of 10 is a scheduler epoch boundary (R25). A cycle in which a
descriptor waits and no host context is free counts in STS_CTX_FULL_CYCLES: 1,000 CORECLK cycles a tick (R24, R383;
assumption log 9). -/
def State.fabricTick (s : State) : State :=
  let s : State := { s with
    tick := s.tick + 1
    sch := { s.sch with epochDue := s.sch.epochDue || (s.tick + 1).toNat % 10 == 0 } }
  let waiting := s.que.any fun e => decide (e.2.buf ≠ []) && s.queueClass e.1 != 6
  let s : State := if waiting && decide (3584 ≤ s.sch.ops.length + (s.sch.held.filter (·.host)).length) then
      { s with sts := { s.sts with
          ctxFull := if s.sts.ctxFull.toNat + 1000 < 2 ^ 64 then s.sts.ctxFull + 1000 else BitVec.allOnes 64 } }
    else s
  if s.mode = .service then s.evalTick else s

/-- An evaluation stall (R156): every guard is safe and every two-tick count restarts. Cells, latches, timers and
FAB_TICKS stay as the FABRIC_TICK before it left them (assumption log 95). -/
def State.stall (s : State) : State :=
  if s.mode = .service then
    ({ s with
        fab := { s.fab with enabled := 0, carrier := 0, enabledAt := [], prevTrue := 0, stallHold := true }
        sts := { s.sts with stalls := satInc s.sts.stalls } }).raise .fabStall
  else s

/-! ## The guard balls (R162–R169) -/

/-- A guard's phase in the 4 µs carrier period, in ns (R162). -/
def carrierPhase (g : Nat) : Nat := 500 * (g % 8)

/-- The first rising instant of a guard, in ns of TICK_NOW, at least 100 ns after its enabling tick (R163). -/
def firstRise (g tick : Nat) : Nat := carrierPhase g + 4000 * ((1000 * tick + 100 - carrierPhase g + 3999) / 4000)

/-- The carrier of an enabled live guard starts, in the microsecond of its first rising instant (R162, R163). -/
def State.startCarrier (s : State) (g : Nat) : State :=
  match tabFind s.fab.enabledAt g with
  | none => s
  | some t =>
    if firstRise g t / 1000 = s.tick.toNat then
      { s with fab := { s.fab with
          carrier := setBit s.fab.carrier g true, enabledAt := tabDel s.fab.enabledAt g } }
    else s

/-- The ball map has assigned a ball to a guard's function, or the guard has a FABRIC entry (R61). -/
def State.guardAssigned (s : State) (g : Nat) : Bool :=
  decide (g < 256) && (s.fab.guards.any (·.guard == g) || (match s.rcp.recipe with
    | none => false
    | some r => r.balls.any fun b => b.2 == 0x200 + 2 * g || b.2 == 0x201 + 2 * g))

/-- The block drives a guard's balls: they are assigned, the core is powered and the guard-force line, which disables
their drivers, is not asserted (R85, R169). -/
def State.guardDriven (s : State) (g : Nat) : Bool :=
  s.guardAssigned g && !s.vig.force && s.mode != .unpowered && s.mode != .vigil

/-- The levels of balls A and B that the block drives for a guard, `ns` ns into its carrier periods of TICK_NOW: a live
guard's carrier and its complement (R162), a static guard's high and low (R166), both low for a safe guard and until
the carrier starts (R163, R169). -/
def Fabric.levels (f : Fabric) (g ns : Nat) : Bool × Bool :=
  if f.staticMask.getLsbD g then (f.enabled.getLsbD g, false)
  else if f.carrier.getLsbD g then
    let high := decide ((ns + 4000 - carrierPhase g) % 4000 < 2000)
    (high, !high)
  else (false, false)

/-- The levels on a guard's balls: as driven, and low by their weak pull-downs where they are not (R169). -/
def State.guardBalls (s : State) (g ns : Nat) : Bool × Bool :=
  if s.guardDriven g then s.fab.levels g ns else (false, false)

/-- A readback mismatch on two consecutive samples of a driven ball (R167). One with the fault bit already set counts
too. -/
def State.guardFault (s : State) (g : Nat) : State :=
  if s.guardDriven g then
    ({ s with
        fab := { s.fab with
          fault := setBit s.fab.fault g true, enabled := setBit s.fab.enabled g false
          carrier := setBit s.fab.carrier g false, enabledAt := tabDel s.fab.enabledAt g }
        sts := { s.sts with grdFaults := satInc s.sts.grdFaults } }).raise .guardFault
  else s

/-- Word `m` of a vector of 256 bits. -/
def word256 (v : BitVec 256) (m : Nat) : Word := (v >>> (32 * m)).truncate 32

/-- Replaces word `m` of a vector of 256 bits. -/
def setWord256 (v : BitVec 256) (m : Nat) (w : Word) : BitVec 256 :=
  (v &&& ~~~ ((0xFFFFFFFF : BitVec 256) <<< (32 * m))) ||| (w.zeroExtend 256 <<< (32 * m))

/-- A write of GRD_FAULTm clears the bits written 1; the two-tick rule applies again (R167). -/
def State.clearFaults (s : State) (m : Nat) (v : Word) : State :=
  { s with fab := { s.fab with fault := s.fab.fault &&& ~~~ (v.zeroExtend 256 <<< (32 * m)) } }

/-- A write of GRD_PERMITm by one requester, or by both in one cycle (R161). -/
def State.writePermit (s : State) (m : Nat) (pcie msp : Option Word) : State :=
  let old := word256 s.fab.permit m
  match pcie, msp with
  | none, none => s
  | some p, none => { s with fab := { s.fab with permit := setWord256 s.fab.permit m p } }
  | none, some q => { s with fab := { s.fab with permit := setWord256 s.fab.permit m (old &&& q) } }
  | some p, some q => { s with fab := { s.fab with permit := setWord256 s.fab.permit m (p &&& q) } }

/-! ## The commands -/

/-- FABRIC_STALL (R156). -/
def execFabricStall (s : State) : Host.Outcome State Fault Refusal := onClock s State.stall

/-- GUARD_CARRIER_START (R163). -/
def execGuardCarrierStart (g : Nat) (s : State) : Host.Outcome State Fault Refusal := onClock s fun s => s.startCarrier g

/-- GUARD_READBACK_FAULT (R167). -/
def execGuardReadbackFault (g : Nat) (s : State) : Host.Outcome State Fault Refusal := onClock s fun s => s.guardFault g

/-- GRD_FAULT_CLEAR (R167): discarded before Stage has loaded the block (R41), or for a register that is not there. -/
def execGrdFaultClear (m : Nat) (v : Word) (s : State) : Host.Outcome State Fault Refusal :=
  onClock s fun s => if s.stepDone 6 && decide (m < 8) then s.clearFaults m v else s.reject .pcie

/-- GRD_PERMIT_WRITE (R161): permit writes outside SERVICE are discarded, each counted. -/
def execGrdPermitWrite (m : Nat) (pcie msp : Option Word) (s : State) : Host.Outcome State Fault Refusal :=
  onClock s fun s =>
    if s.mode = .service ∧ m < 8 then s.writePermit m pcie msp
    else
      let s := if pcie.isSome then s.reject .pcie else s
      if msp.isSome then s.reject .msp else s

end Sys2Proof.Machine
end

