-- ==== Sys2Proof/Machine/Larder.lean ====
section
/-! DEFINITION. The Larder (R333–R357): records as readers see them, the cache and its eviction, page fetches and
integrity failures, the record window, write-back rounds, and the opening of the image. -/

namespace Sys2Proof.Machine

/-! ## Kinds of AER log (R455, R482) -/

def aerAbort : Nat := 1
def aerPoisoned : Nat := 2
def aerCorrected : Nat := 3
def aerUncorrected : Nat := 4

/-! ## Page numbers (R333, R334, R339) -/

/-- The page of a record. -/
def recordPage (n : Nat) : Nat := n / 16

/-- The page of a slot of the issuer table, and the table's pages. -/
def issuerPage (slot : Nat) : Nat := 16896 + slot / 16
def issuerPages : List Nat := (List.range 4).map (16896 + ·)

/-- CAPACITY for a record flash of 2^log2 bytes, of which at most 256 MiB are used (R334, R460). -/
def capacityOf (log2 : Nat) : Nat :=
  let f := min (2 ^ log2) (2 ^ 28)
  16 * min 16384 (64 * (((f - 4194304) / 8192 - 516) / 64))

/-! ## The position map (R335) -/

/-- The position mapped to a record. -/
def State.mappedAt (s : State) (n : Nat) : Option (Nat × Nat) :=
  match (s.ports.flatMap fun p => p.2.pos.filterMap fun x => if x.2.record = some n then some (p.1, x.1) else none) with
  | [] => none
  | m :: _ => some m

/-- One entry of the position map as the window shows it (R353). -/
def State.mapWord (s : State) (i : Nat) : Word :=
  match (s.pos (i / 32) (i % 32 + 1)).record with
  | none => 0
  | some r => word [(0, r), (31, 1)]

/-! ## Records as octets (R333) -/

/-- Live octets 0x20–0x31 of record n. -/
def State.liveBytes (s : State) (n : Nat) : Bytes :=
  let e := s.counterExists n
  let flags : Nat := if e then (s.limitFlag n).toNat + 2 * (s.recovering n).toNat else 0
  leBytes 6 (if e then s.visibleCount n else 0) ++ [0, 0] ++ leBytes 6 (if e then s.limit n else 0) ++ leBytes 2 flags
    ++ (match s.mappedAt n with
      | none => [0xFF, 0xFF]
      | some m => [BitVec.ofNat 8 m.1, BitVec.ofNat 8 m.2])

/-- A record whose stored fields are `r`. -/
def State.recordBytes (s : State) (n : Nat) (r : Record) : Bytes := r.octets (s.liveBytes n)

/-- The stored fields a reader sees: under a Glaze commit lock, as they stood when the lock began (R352). -/
def State.shownRecord (s : State) (n : Nat) : Record :=
  if s.ldr.locked.contains n then tabGet recordFree s.ldr.lockOld n else s.record n

/-- Octets of the window (R353), every one of them permitted. -/
def State.windowByte (s : State) (a : Nat) : Byte :=
  if a < 0x04000000 then (s.recordBytes (a / 256) (s.shownRecord (a / 256))).getD (a % 256) 0
  else if a < 0x04004000 then
    (tabGet issuerEmpty s.ldr.issuers ((a - 0x04000000) / 256)).bytes.getD ((a - 0x04000000) % 256) 0
  else (leBytes 4 (s.mapWord ((a - 0x04004000) / 4)).toNat).getD (a % 4) 0

/-! ## Changes of records (R333, R346) -/

/-- A page is POISONED. -/
def State.poisoned (s : State) (page : Nat) : Bool := s.ldr.poisoned.contains page

/-- A page is dirty with respect to record flash. -/
def State.dirtyPage (s : State) (page : Nat) : Bool :=
  s.ldr.dirty.any (·.1 == page) || (match s.ldr.running with | none => false | some r => r.pages.any (·.1 == page))

/-- The pages dirty with respect to flash, those of a running round among them (LDR_STAT.DIRTY). -/
def State.dirtyPages (s : State) : Nat :=
  s.ldr.dirty.length + (match s.ldr.running with
    | none => 0
    | some r => (r.pages.filter fun e => !s.ldr.dirty.any (·.1 == e.1)).length)

def State.cached (s : State) (page : Nat) : Bool := s.ldr.frames.any (·.page == page)

/-- Puts a page, encrypted under its version, and the nodes of its path into DDR4 (R342). -/
def State.putDdr (s : State) (page : Nat) : State :=
  { s with ldr := { s.ldr with
      ddr := tabPut s.ldr.ddr page (s.sealedPage page), ddrNodes := (pathOf page).foldl insertSorted s.ldr.ddrNodes } }

/-- Writes a page's next version to DDR4: the counters on its path advance with it (R341). -/
def State.storeDdr (s : State) (page : Nat) : State :=
  ({ s with ldr := { s.ldr with
      versions := tabSet 0 s.ldr.versions page (next56 (tabGet 0 s.ldr.versions page))
      tree := treeWrite s.ldr.tree page } }).putDdr page

/-- A page is in DDR4. -/
def State.inDdr (s : State) (page : Nat) : Bool := (tabFind s.ldr.ddr page).isSome

/-- A page's content changes: it is dirty with respect to flash, and to DDR4 while it is cached. What a POISONED page held
is lost. -/
def State.touchPage (s : State) (page : Nat) : State :=
  if s.poisoned page then s
  else
  let s := if s.ldr.dirty.any (·.1 == page) then s
    else { s with ldr := { s.ldr with dirty := s.ldr.dirty ++ [(page, s.tick)] } }
  if s.cached page then
    { s with ldr := { s.ldr with frames := s.ldr.frames.map fun f =>
        if f.page = page then { f with dirty := true, ref := true } else f } }
  else s.storeDdr page

/-- Changes a record. -/
def State.putRecord (s : State) (n : Nat) (r : Record) : State :=
  ({ s with ldr := { s.ldr with records := tabSet recordFree s.ldr.records n r } }).touchPage (recordPage n)

/-- Makes a record FREE: every stored field 0. -/
def State.freeRecord (s : State) (n : Nat) : State := s.putRecord n recordFree

/-- Removes a TAG_ID's index entry. -/
def State.dropIndex (s : State) (tagId : BitVec 128) : State :=
  ({ s with ldr := { s.ldr with index := s.ldr.index.filter (·.1 != tagId) } }).touchPage (indexPageOf tagId)

/-- The counter of a record is at COUNT 0 and LIMIT 0. -/
def State.counterClear (s : State) (n : Nat) : Bool := s.count n == 0 && s.limit n == 0

/-- A FREE record whose counter is not at 0/0 becomes ORPHAN (R337). -/
def State.orphan (s : State) (n : Nat) : State :=
  if (s.record n).state = 0 ∧ n < s.ldr.capacity ∧ s.counterClear n = false then
    let s := s.putRecord n { recordFree with state := 2 }
    { s with ldr := { s.ldr with cOrphans := satInc s.ldr.cOrphans } }
  else s

/-! ## The cache (R342, R343) -/

/-- A frame of the clock's circle. -/
def frameEmpty : Frame := { page := 0, ref := false, pins := [], dirty := false }

/-- The clock method over the 512 frames: pinned frames are skipped, and the reference bit of each frame passed is
cleared. The victim, if any, and the frames after the sweep. -/
def clockSweep : Nat → List Frame → Nat → List Frame × Option Nat
  | 0, fs, _ => (fs, none)
  | n + 1, fs, i =>
    let f := fs.getD (i % 512) frameEmpty
    if f.pins ≠ [] then clockSweep n fs (i + 1)
    else if f.ref then clockSweep n (setNth fs (i % 512) { f with ref := false }) (i + 1)
    else (fs, some (i % 512))

/-- A frame is to be had: one is unused, or one is not pinned. -/
def State.frameFree (s : State) : Bool :=
  decide (s.ldr.frames.length < 512) || s.ldr.frames.any fun f => f.pins == []

/-- Installs a checked page in the record cache, evicting a page when every frame is in use. A dirty page that is evicted
is written to DDR4 under its next version. Every FREE record of the page is then held against its counter (R337). -/
def State.install (s : State) (page : Nat) : State :=
  let f : Frame := { page := page, ref := true, pins := [], dirty := false }
  let s := if s.cached page then
      { s with ldr := { s.ldr with frames := s.ldr.frames.map fun x => if x.page = page then { x with ref := true } else x } }
    else if s.ldr.frames.length < 512 then { s with ldr := { s.ldr with frames := s.ldr.frames ++ [f] } }
    else
      let r := clockSweep 1025 s.ldr.frames s.ldr.hand
      match r.2 with
      | none => s
      | some i =>
        let old := r.1.getD i frameEmpty
        let s := { s with ldr := { s.ldr with
          frames := setNth r.1 i f, hand := (i + 1) % 512, cEvictions := satInc s.ldr.cEvictions } }
        if old.dirty then s.storeDdr old.page else s
  if page < 16384 then (List.range 16).foldl (fun s k => s.orphan (16 * page + k)) s else s

/-- Pins a cached page for a context. -/
def State.pin (s : State) (page ctx : Nat) : State :=
  { s with ldr := { s.ldr with frames := s.ldr.frames.map fun f =>
      if f.page = page then { f with ref := true, pins := insertNew f.pins ctx } else f } }

/-! ## Fetches and integrity (R344, R350) -/

/-- What a table of records holds of a page, in place of what another holds. -/
def pageRecords (page : Nat) (of into : Tab Record) : Tab Record :=
  (List.range 16).foldl (fun t k => tabSet recordFree t (16 * page + k) (tabGet recordFree of (16 * page + k))) into

/-- A page stands as an image holds it: its records, index entries or issuers, and its version. -/
def Larder.revert (x : Larder) (page : Nat) (records : Tab Record) (index : List (BitVec 128 × Nat))
    (issuers : Tab Issuer) (versions : Tab Nat) : Larder :=
  let x := { x with versions := tabSet 0 x.versions page (tabGet 0 versions page) }
  if page < 16384 then { x with records := pageRecords page records x.records }
  else if page < 16896 then
    { x with index := (x.index.filter fun e => indexPageOf e.1 != page) ++ index.filter fun e => indexPageOf e.1 == page }
  else { x with issuers := (List.range 16).foldl (fun t k =>
      let i := 16 * (page - 16896) + k
      tabSet issuerEmpty t i (tabGet issuerEmpty issuers i)) x.issuers }

/-- The changes of a page since the round of the image in force are lost (R350). -/
def State.revertPage (s : State) (page : Nat) : State :=
  { s with ldr := match s.imageHeader with
      | none => s.ldr.revert page [] [] [] []
      | some h => s.ldr.revert page h.records h.index h.issuers h.versions }

/-- A page becomes POISONED: no tier gives it again, and no later round writes it (assumption log 109). -/
def State.poison (s : State) (page : Nat) : State :=
  ({ s with ldr := { s.ldr with
      poisoned := insertNew s.ldr.poisoned page, poisonPage := page, cIntegrity := satInc s.ldr.cIntegrity
      integritySeen := true, dirty := s.ldr.dirty.filter (·.1 != page)
      frames := s.ldr.frames.filter (·.page != page), ddr := tabDel s.ldr.ddr page } }).raise .integrity

/-- A DDR4 copy is newer than the record-flash image: of a page by its version, of a node by its counter. -/
def State.pageNewer (s : State) (page : Nat) : Bool :=
  tabGet 0 s.ldr.versions page != (match s.imageHeader with | none => 0 | some h => tabGet 0 h.versions page)

def State.nodeNewer (s : State) (node : Nat) : Bool :=
  tabGet 0 s.ldr.tree node != (match s.imageHeader with | none => 0 | some h => tabGet 0 h.tree node)

/-- A page number the Larder uses (R334). -/
def State.pageExists (s : State) (page : Nat) : Bool :=
  decide (16 * page < s.ldr.capacity) || (decide (16384 ≤ page) && decide (page < 16900))

/-- Every page below a node becomes POISONED. -/
def State.poisonBelow (s : State) (node : Nat) : State :=
  let l := levelOf node
  let n := 8 ^ l
  ((List.range n).map fun k => n * (node - levelBase l) + k).foldl (fun s p =>
    if s.pageExists p && !s.poisoned p then s.poison p else s) s

/-- Counts the DDR4 errors that a fetch has shown (R458). -/
def State.ddrErrors (s : State) (ce ue : Nat) (ueAddr : BitVec 64) : State :=
  let s := if ce = 0 then s else
    ({ s with links := { s.links with ddrCe := satAdd s.links.ddrCe ce } }).emit (.aer aerCorrected 0)
  if ue = 0 then s else
    ({ s with links := { s.links with ddrUe := satAdd s.links.ddrUe ue, ddrErrAddr := ueAddr } }).emit
      (.aer aerUncorrected ueAddr.toNat)

/-- The outcome of a page's fetch, with what the engines and the memories show of it; `count` for one that LDR_FAULTS
counts. The answer's second part: the page is checked. -/
def State.fetchPage (s : State) (page : Nat) (chk : PageCheck) (count : Bool) : State × Bool :=
  if s.poisoned page then (s, false)
  else if tabGet 0 s.ldr.versions page = 0 then (s, true)
  else if s.inDdr page then
    let s := s.ddrErrors chk.ddrCe.toNat chk.ddrUe.toNat chk.ueAddr
    let s := if count then { s with ldr := { s.ldr with cFaultsDdr := satInc s.ldr.cFaultsDdr } } else s
    let recovered : State := { s with ldr := { s.ldr with cRecovered := satInc s.ldr.cRecovered } }
    match chk.badNode with
    | some l =>
      if !s.nodeNewer (nodeOf l page) && chk.flashOk then (recovered, true)
      else (s.poisonBelow (nodeOf l page), false)
    | none =>
      if chk.ddrOk && !chk.ddrUe then (s, true)
      else if !s.pageNewer page && chk.flashOk then (recovered, true)
      else (s.poison page, false)
  else
    let s := if count then { s with ldr := { s.ldr with cFaultsFlash := satInc s.ldr.cFaultsFlash } } else s
    if chk.flashOk then (s.putDdr page, true) else (s.poison page, false)

/-- A page is wanted: its fetch begins unless it is under way. -/
def State.wantPage (s : State) (page : Nat) : State :=
  if s.ldr.faults.contains page then s else { s with ldr := { s.ldr with faults := s.ldr.faults ++ [page] } }

/-! ## The record window (R353, R354) -/

/-- A byte of the window may be read. -/
def State.readable (s : State) (a : Nat) : Bool :=
  decide (a < 256 * s.ldr.capacity) || (decide (0x04000000 ≤ a) && decide (a < 0x04008000))

/-- A byte of the window may be written: LABEL and USER of BOUND records. -/
def State.writable (s : State) (a : Nat) : Bool :=
  decide (a < 256 * s.ldr.capacity) && decide (0x80 ≤ a % 256) && (s.record (a / 256)).state == 1

/-- The pages a range of the window lies in. -/
def windowPages (off len : Nat) : List Nat :=
  ((List.range (len / 4096 + 2)).map fun k => off / 4096 + k).filterMap fun p =>
    if 4096 * p < off + len then
      (if p < 16384 then some p else if p < 16388 then some (16896 + (p - 16384)) else none)
    else none

/-- A posted write with poisoned data is reported and dropped whole, whatever it addressed (R455). The table has no row
for one, so no command calls this (assumption log 73). -/
def State.poisonedWrite (s : State) (addr : Nat) : State := s.emit (.aer aerPoisoned addr)

/-- A refused access is logged (R354). -/
def State.refuseWindow (s : State) (off cause : Nat) (write : Bool) : State :=
  let s := s.emit (.aer aerAbort off)
  let l := { s.ldr with cDrops := satInc s.ldr.cDrops }
  { s with ldr := if l.errValid then { l with errMore := true }
    else { l with errAddr := BitVec.ofNat 64 off, errCause := cause, errWrite := write, errValid := true } }

/-- Pages of a range that are not cached are checked through the bypass frames; the answer's second part: all are well. -/
def State.bypass (s : State) (pages : List Nat) (chk : PageCheck) : State × Bool :=
  pages.foldl (fun r p =>
    if r.1.cached p then r
    else
      let f := r.1.fetchPage p chk false
      (f.1, r.2 && f.2)) (s, true)

/-- A read of the window (R353, R354). -/
def State.windowRead (s : State) (off len : Nat) (chk : PageCheck) : State :=
  if !s.ldr.isOpen then s.emit (.windowData (List.replicate len 0))
  else if !s.readable off then (s.refuseWindow off 1 false).emit .completerAbort
  else if (List.range len).any fun i => !s.readable (off + i) then (s.refuseWindow off 2 false).emit .completerAbort
  else
    let r := s.bypass (windowPages off len) chk
    if r.2 then r.1.emit (.windowData ((List.range len).map fun i => r.1.windowByte (off + i)))
    else (r.1.refuseWindow off 5 false).emit .completerAbort

/-- Octets 0x80–0xFF of a record: LABEL and USER. -/
def Record.tail (r : Record) : Bytes := beBytes 32 r.label.toNat ++ beBytes 96 r.user.toNat

def Record.withTail (r : Record) (bs : Bytes) : Record :=
  { r with label := BitVec.ofNat 256 (beNat (bs.take 32)), user := BitVec.ofNat 768 (beNat (bs.drop 32)) }

/-- Writes octets at an offset of 0x80 or more of a record. -/
def State.writeRecord (s : State) (n off : Nat) (data : Bytes) : State :=
  let r := s.record n
  s.putRecord n (r.withTail (overlay r.tail (off - 0x80) data))

/-- A posted write whose page is in the cache: made, or parked behind a lock (R352). -/
def State.postedWrite (s : State) (off : Nat) (data : Bytes) : State :=
  if s.ldr.locked.contains (off / 256) then
    if s.ldr.parked.length < 16 then
      { s with ldr := { s.ldr with parked := s.ldr.parked ++ [{ off := off, data := data }] } }
    else s.refuseWindow off 3 true
  else s.writeRecord (off / 256) (off % 256) data

/-- The page of a posted write is brought into the cache, and the write made. -/
def State.faultedWrite (s : State) (w : Stalled) : State :=
  let page := recordPage (w.off / 256)
  let r := s.fetchPage page w.chk true
  if !r.2 then r.1.refuseWindow w.off 5 true else (r.1.install page).postedWrite w.off w.data

/-- Posted writes that waited for a frame go on, in order, once there is one (R343). -/
def State.serveStalled (s : State) : State :=
  s.ldr.stalled.foldl (fun s w =>
    if !(s.cached (recordPage (w.off / 256)) || s.frameFree) then s
    else
      let s := { s with ldr := { s.ldr with stalled := s.ldr.stalled.drop 1 } }
      if s.mode ≠ .service then s.refuseWindow w.off 4 true
      else if s.cached (recordPage (w.off / 256)) then s.postedWrite w.off w.data else s.faultedWrite w) s

/-- A posted write of the window (R352, R354). One whose page needs a frame while every frame is pinned waits for the next
unpin, and so do those behind it (R343). -/
def State.windowWrite (s : State) (off : Nat) (data : Bytes) (chk : PageCheck) : State :=
  let len := data.length
  if s.mode ≠ .service ∨ s.ldr.isOpen = false then s.refuseWindow off 4 true
  else if !s.writable off then s.refuseWindow off 1 true
  else if (List.range len).any fun i => !s.writable (off + i) then s.refuseWindow off 2 true
  else if !((len == 4 || len == 8) && off % len == 0) then s.refuseWindow off 6 true
  else
    let page := recordPage (off / 256)
    let w : Stalled := { off := off, data := data, chk := chk }
    if s.ldr.stalled ≠ [] ∨ (s.cached page = false ∧ s.poisoned page = false ∧ s.frameFree = false) then
      { s with ldr := { s.ldr with stalled := s.ldr.stalled ++ [w] } }
    else if s.cached page then (s.install page).postedWrite off data
    else s.faultedWrite w

/-! ## Allocation and the index (R335, R337) -/

/-- The record of a TAG_ID. -/
def State.indexFind (s : State) (tagId : BitVec 128) : Option Nat :=
  match s.ldr.index.find? (·.1 == tagId) with
  | none => none
  | some e => some e.2

/-- The record numbers that allocation passes over: not FREE, or with a counter other than at 0/0. -/
def State.takenRecords (s : State) : List Nat :=
  (s.ldr.records.filterMap fun e => if e.2.state ≠ 0 then some e.1 else none)
    ++ (s.cnt.cache.filterMap fun e => if e.2 ≠ (0, 0) then some e.1 else none)

/-- The lowest-numbered FREE record whose counter is at 0/0. -/
def State.allocate (s : State) : Option Nat :=
  let taken := s.takenRecords
  match (List.range (taken.length + 1)).find? fun n => !taken.contains n with
  | none => none
  | some n => if n < s.ldr.capacity then some n else none

/-- The active issuer entry with an ISSUER_ID (R339). -/
def State.issuerKey (s : State) (id : Nat) : Option Issuer :=
  match s.ldr.issuers.find? fun e => e.2.state == 1 && e.2.id == id with
  | none => none
  | some e => some e.2

/-! ## Locks (R351, R352) -/

/-- The lock ends: parked writes are applied, or dropped and logged. -/
def State.unlock (s : State) (committed : Bool) : State :=
  let parked := s.ldr.parked
  let s := { s with ldr := { s.ldr with locked := [], lockOld := [], parked := [] } }
  parked.foldl (fun s w =>
    if committed && s.writable w.off then s.writeRecord (w.off / 256) (w.off % 256) w.data
    else s.refuseWindow w.off 3 true) s

/-- A record of a table with a label. -/
def relabel (t : Tab Record) (n : Nat) (label : BitVec 256) : Tab Record :=
  tabSet recordFree t n { tabGet recordFree t n with label := label }

/-- A lock that ends without a committed round withdraws the commit's staged record changes, the labels, from the records
and from a round that runs. -/
def State.unstage (s : State) : State :=
  s.ldr.lockOld.foldl (fun s e =>
    let r := s.record e.1
    if r.label = e.2.label then s
    else
      let s := s.putRecord e.1 { r with label := e.2.label }
      { s with ldr := { s.ldr with running := s.ldr.running.map fun (x : Round) =>
          { x with records := relabel x.records e.1 e.2.label } } }) s

/-! ## Write-back rounds (R346–R348) -/

/-- Something calls for a round. -/
def State.roundDue (s : State) : Bool :=
  s.ldr.needs != [] || s.ldr.flush || decide (4 ≤ s.ldr.dirty.length)
    || s.ldr.dirty.any fun e => decide (e.2.toNat + 1000000 ≤ s.tick.toNat)

/-- A round may begin now: not in QUARANTINE, not while EARLY_WARNING is 1, not within 100 ms of an abandoned one. The
warm prelude runs one for its dirty pages. -/
def State.roundMay (s : State) : Bool :=
  s.ldr.isOpen && s.ldr.running.isNone && !s.spw.early && s.ldr.holdoff.isNone && s.hasKeys
    && (s.mode == .service || (s.mode == .stage && (s.stepDone 10 || s.mod.preludeOn)))

/-- A round begins: the dirty pages, each under its next version. -/
def State.roundStart (s : State) : State :=
  if s.roundMay && (s.roundDue || (s.mod.preludeOn && decide (s.ldr.dirty ≠ []))) then
    let s := s.ldr.poisoned.foldl State.revertPage s
    let s := s.ldr.dirty.foldl (fun s e => s.storeDdr e.1) s
    let needs := s.ldr.needs ++ (if s.ldr.flush then [Need.flush] else []) ++ (if s.mod.preludeOn then [Need.prelude] else [])
    { s with ldr := { s.ldr with
        running := some { pages := s.ldr.dirty, records := s.ldr.records, index := s.ldr.index, issuers := s.ldr.issuers,
                          versions := s.ldr.versions, tree := s.ldr.tree, gen := s.ldr.issuerGen, needs := needs }
        frames := s.ldr.frames.map fun f => { f with dirty := false }
        dirty := [], needs := [], flushNext := false } }
  else s

/-- The programmed copies of the image's blocks, after a round: those the new header names (R346). -/
def State.copiesKept (s : State) (r : Round) : List (Nat × Bool) :=
  let blocks := blocksOfAll r.pageList
  let copies := copiesAfter s.copies blocks
  (s.flash.copies.filter fun c => !blocks.contains c.1) ++ blocks.map fun b => (b, copies.contains b)

/-- The round commits: its header is current, and the copies it no longer names are erased. -/
def State.roundCommit (s : State) (r : Round) : State :=
  let other := 1 - s.ldr.header
  let kept := s.copiesKept r
  let s := s.setHeader other (some (s.roundHeader r))
  let s := { s with flash := { s.flash with copies := kept } }
  { s with ldr := { s.ldr with
      running := none, header := other, round := s.ldr.round + 1, cRounds := satInc s.ldr.cRounds, roundFail := false
      flush := s.ldr.flush && (!r.needs.contains .flush || s.ldr.flushNext), flushNext := false } }

/-- The round is abandoned (R347): its pages stay dirty, and no round begins for 100 ms. -/
def State.roundAbandon (s : State) (r : Round) : State :=
  let s := s.tearHeader r
  let back := r.pages.filter fun e => !s.ldr.dirty.any (·.1 == e.1) && !s.poisoned e.1
  ({ s with ldr := { s.ldr with
      running := none, dirty := back ++ s.ldr.dirty, holdoff := some (s.tick + 100000), roundFail := true
      cRoundFails := satInc s.ldr.cRoundFails
      flush := s.ldr.flush && (!r.needs.contains .flush || s.ldr.flushNext), flushNext := false } }).raise .integrity

/-! ## Opening (R349) -/

/-- A header of this device that qualifies. -/
def State.headerOk (s : State) (h : Header) : Bool :=
  h.magicOk && h.formatOk && h.binding == s.binding && h.mac == s.headerMac h && h.capacity == capacityOf s.flash.recLog2

/-- The header that step 10 takes among those it could read, with its number. -/
def State.pickHeader (s : State) (reads : HeaderReads) : Option (Nat × Header) :=
  let l := (match s.flash.hdr0 with | none => [] | some h => if reads.first then [(0, h)] else [])
    ++ (match s.flash.hdr1 with | none => [] | some h => if reads.second then [(1, h)] else [])
  minBy (fun e : Nat × Header => 2 ^ 64 - e.2.round) (l.filter fun e => s.headerOk e.2)

/-- Why a fresh image is opened when no header qualifies: FRESH_CAUSE. -/
def State.freshCause (s : State) : Nat :=
  let l := (match s.flash.hdr0 with | none => [] | some h => [h]) ++ (match s.flash.hdr1 with | none => [] | some h => [h])
  if l = [] then 1
  else if l.any fun h => h.magicOk && h.binding == s.binding then 3
  else if l.any fun h => h.magicOk then 2 else 3

/-- A fresh image is opened, for a cause. -/
def State.openFresh (s : State) (cause : Nat) : State :=
  let s := { s with ldr := { s.ldr with
    isOpen := true, fresh := cause, capacity := capacityOf s.flash.recLog2, integritySeen := cause == 3
    header := match s.flash.hdr0, s.flash.hdr1 with
      | some h, some g => if h.round < g.round then 1 else 0
      | some _, none => 0
      | none, _ => 1 } }
  if cause = 3 then s.raise .integrity else s

/-- The Larder opened with a header's image, the top three tree levels read. -/
def Larder.opened (x : Larder) (i : Nat) (h : Header) : Larder :=
  { x with
    isOpen := true, capacity := h.capacity, header := i, round := h.round, issuerGen := h.issuerGen
    records := h.records, index := h.index, issuers := h.issuers, versions := h.versions, tree := h.tree
    ddrNodes := (List.range 584).map (4096 + ·) }

/-- Step 10's opening: which header blocks could be read, and `treeOk`: the top tree levels verify. A fresh image is
opened only where no header qualifies; a block that could not be read then gives READ_FAIL. -/
def State.openLarder (s : State) (reads : HeaderReads) (treeOk : Bool) : State :=
  match s.pickHeader reads with
  | none => s.openFresh (if reads.first && reads.second then s.freshCause else 4)
  | some (i, h) => if !treeOk then s.openFresh 3 else { s with ldr := s.ldr.opened i h }

/-! ## The commands of the window and of DDR4 -/

/-- WINDOW_READ (R353). -/
def execWindowRead (off len : Nat) (chk : PageCheck) (s : State) : Host.Outcome State Fault Refusal :=
  onClock s fun s => s.windowRead off len chk

/-- WINDOW_WRITE (R354). -/
def execWindowWrite (off : Nat) (data : Bytes) (chk : PageCheck) (s : State) : Host.Outcome State Fault Refusal :=
  onClock s fun s => s.windowWrite off data chk

/-- A round that serves a FLUSH runs. -/
def State.flushRuns (s : State) : Bool :=
  match s.ldr.running with
  | none => false
  | some r => r.needs.contains .flush

/-- LDR_FLUSH (R355): from PCIe, or from the maintenance controller in SERVICE (R470). One written while a round serves an
earlier one is served by the next round (R348). -/
def State.requestFlush (s : State) (r : Requester) : State :=
  if (s.mod.begun.contains 10 || s.stepDone 10) = true ∧ (r = .pcie ∨ s.mode = .service) then
    { s with ldr := { s.ldr with flush := true, flushNext := s.ldr.flushNext || s.flushRuns } }
  else s.reject r

def execLdrFlush (r : Requester) (s : State) : Host.Outcome State Fault Refusal := onClock s fun s => s.requestFlush r

/-- ROUND_HOLDOFF_END (R347): the 100 ms after the abandonment have passed. -/
def execRoundHoldoffEnd (s : State) : Host.Outcome State Fault Refusal :=
  onClock s fun s => { s with ldr := { s.ldr with holdoff := none } }

/-- WRITEBACK_ROUND_START (R348). -/
def execWritebackRoundStart (s : State) : Host.Outcome State Fault Refusal := onClock s State.roundStart

/-- DDR_SCRUB (R458): what one scrub finds, after training. -/
def execDdrScrub (ce ue : Nat) (ueAddr : BitVec 64) (s : State) : Host.Outcome State Fault Refusal :=
  onClock s fun s => if s.links.trained then s.ddrErrors ce ue ueAddr else s

/-- DDR_ZQ_CALIBRATION (R458). -/
def execDdrZqCalibration (s : State) : Host.Outcome State Fault Refusal :=
  onClock s fun s => if s.links.trained then { s with links := { s.links with zqCount := s.links.zqCount + 1 } } else s

end Sys2Proof.Machine
end

