-- ==== Sys2Proof/Machine/Frames.lean ====
section
/-! DEFINITION. Plait frames (R207–R214): their bits, their check, the command set, and the checks and fields of a Plait
certificate (R225, R226) and the MACs and keys of a session (R228, R229). -/

namespace Sys2Proof.Machine

/-! ## Opcodes (R212) -/

def opAssign : Nat := 0x01
def opPing : Nat := 0x02
def opTrim : Nat := 0x03
def opCollect : Nat := 0x04
def opReadCert : Nat := 0x10
def opReadMem : Nat := 0x11
def opKeyAgree : Nat := 0x20
def opChallenge : Nat := 0x21
def opConsume : Nat := 0x30
def opCatchup : Nat := 0x31
def opWriteMem : Nat := 0x32
def opFinish : Nat := 0x3F

/-- Payload octets of the answer to a command when TSTAT is OK. -/
def answerOctets : Nat → Nat
  | 0x01 => 2
  | 0x10 => 32
  | 0x11 => 16
  | 0x20 => 14
  | 0x21 => 14
  | 0x30 => 7
  | 0x31 => 7
  | 0x32 => 7
  | _ => 0

/-! ## Frames -/

/-- `n` bits of an integer, most significant first. -/
def bitsMsbOf (n v : Nat) : List Bool := (bitsOfNat n v).reverse

/-- CRC-8 of a bit sequence (R209). -/
def crc8 (bits : List Bool) : BitVec 8 := crcBits (0x2F : BitVec 8) (0xFF : BitVec 8) bits

/-- The body of a Borpin frame (R207). -/
def borpinBody (addr op : Nat) (payload : Bytes) (ack : Bool) : List Bool :=
  let body := bitsMsbOf 6 addr ++ bitsMsbOf 8 op ++ bitsMsb payload ++ [ack] ++ [false, false, false, true]
  body ++ bitsMsbOf 8 (crc8 body).toNat

/-- Groups bits into octets, most significant bit first. -/
def octetsMsb : Nat → List Bool → Bytes
  | 0, _ => []
  | n + 1, bs => BitVec.ofNat 8 (natOfBits (bs.take 8)) :: octetsMsb n (bs.drop 8)

/-- The fields of a tag frame (R208). -/
structure TagFrame where
  tstat    : Nat
  payload  : Bytes
  sprinkle : Bool
  crumb    : BitVec 4
deriving DecidableEq, Repr

/-- A tag frame without erasures, if its length, CRC and Crumb parity are right (R208–R210). -/
def parseTagFrame (pos op : Nat) (bits : List Bool) : Option TagFrame :=
  let tstat := natOfBits (bits.take 6)
  let n := if tstat = 0 then answerOctets op else 0
  let covered := bits.take (11 + 8 * n)
  let crumb := bits.drop (7 + 8 * n) |>.take 4
  if bits.length = 19 + 8 * n ∧ natOfBits (bits.drop (11 + 8 * n)) = (crc8 (bitsMsbOf 6 pos ++ covered)).toNat
      ∧ (crumb.filter id).length % 2 = 1 then
    some { tstat := tstat, payload := octetsMsb n (bits.drop 6), sprinkle := bits.getD (6 + 8 * n) false
           crumb := BitVec.ofNat 4 (natOfBits crumb) }
  else none

/-! ## The Sprinkle receiver (R222, R223) -/

/-- The CRC of a Sprinkle message. -/
def crc16 (bits : List Bool) : BitVec 16 := crcBits (0x1021 : BitVec 16) (0xFFFF : BitVec 16) bits

/-- LEN of a candidate, once it is there. -/
def sprinkleLen (rx : List Bool) : Nat := natOfBits ((rx.drop 4).take 6)

/-- Bits that can open a message: 101, and a LEN of at most 60 once it is there. -/
def sprinkleOpens (rx : List Bool) : Bool :=
  rx.take 3 == [true, false, true].take rx.length && (decide (rx.length < 10) || decide (sprinkleLen rx ≤ 60))

/-- Hunts for the first bit of a candidate. -/
def sprinkleHunt : List Bool → List Bool
  | [] => []
  | b :: rx => if sprinkleOpens (b :: rx) then b :: rx else sprinkleHunt rx

/-- The message in the receiver is whole. -/
def sprinkleWhole (rx : List Bool) : Bool := decide (10 ≤ rx.length) && rx.length == 32 + 8 * sprinkleLen rx

/-! ## Certificates (R225, R226) -/

def certFlags (c : Bytes) : Nat := beAt c 1 1
def certClass (c : Bytes) : Nat := beAt c 2 1
def certKaHold (c : Bytes) : Nat := beAt c 3 1
def certIssuer (c : Bytes) : Nat := beAt c 4 2
def certNvHold (c : Bytes) : Nat := beAt c 6 2
def certTagId (c : Bytes) : BitVec 128 := BitVec.ofNat 128 (beAt c 8 16)
def certTagPub (c : Bytes) : BitVec 512 := BitVec.ofNat 512 (beAt c 0x18 64)
def certVendor (c : Bytes) : BitVec 64 := BitVec.ofNat 64 (beAt c 0x58 8)

/-- Checks 1–3: the reason of the first that fails. `caps` are those of the ASSIGN answer. -/
def State.certEarly (s : State) (caps : Nat) (c : Bytes) : Option Nat :=
  if beAt c 0 1 ≠ 1 ∨ 4 ≤ certFlags c ∨ certKaHold c = 0 ∨ 50 < certKaHold c ∨ certNvHold c = 0 ∨ 5000 < certNvHold c then
    some 1
  else if certFlags c ≠ caps then some 8
  else match s.accClass (certClass c) with
    | none => some 2
    | some k =>
      if certClass c = 0 ∨ (certFlags c).testBit 1 ≠ decide (k.counterClass ≠ 0) then some 2
      else none

/-- SIGNATURE verifies over octets 0x00–0x5F under an issuer key (R225). -/
def certSigned (key : BitVec 512) (c : Bytes) : Bool := ecdsaVerifies key (c.take 0x60) (slice c 0x60 64)

/-- Checks 5–7, under the issuer key; `limitMs` is SPU_LIMIT_MS of the port. -/
def certLate (limitMs : Nat) (key : BitVec 512) (c : Bytes) : Option Nat :=
  if !certSigned key c then some 4
  else if !onP256 (certTagPub c) then some 5
  else if limitMs < certKaHold c ∨ limitMs * 100 < certNvHold c then some 6
  else none

/-! ## Keys and MACs (R228, R229) -/

/-- Octets of an ASCII text. -/
def ascii (t : String) : Bytes := t.toList.map fun c => BitVec.ofNat 8 c.toNat

/-- The session keys' 32 octets: K_bt in the upper half, K_tb in the lower (R228). -/
def State.sessionKeys (s : State) (z : BitVec 256) (tagId : BitVec 128) (epoch : BitVec 32) : BitVec 256 :=
  Config.sha256 (beBytes 4 1 ++ beBytes 32 z.toNat ++ ascii "PLAIT-KDF-01" ++ s.bindingBytes ++ beBytes 16 tagId.toNat
    ++ beBytes 4 epoch.toNat)

/-- A MAC of `n` octets. -/
def mac (key : BitVec 128) (n : Nat) (input : Bytes) : Bytes := (beBytes 16 (Config.cmac128 key input).toNat).take n

/-- KC of a KEY_AGREE answer. -/
def macKc (ktb : BitVec 128) (epoch : BitVec 32) (tagId : BitVec 128) (count : Nat) (epub : BitVec 512) : Bytes :=
  mac ktb 8 (ascii "kc" ++ beBytes 4 epoch.toNat ++ beBytes 16 tagId.toNat ++ beBytes 6 count
    ++ (beBytes 64 epub.toNat).take 32)

/-- MAC of a CHALLENGE answer. -/
def macBeat (ktb : BitVec 128) (epoch : BitVec 32) (nonce : BitVec 64) (count : Nat) (snap : BitVec 32) : Bytes :=
  mac ktb 8 (ascii "bt" ++ beBytes 4 epoch.toNat ++ beBytes 8 nonce.toNat ++ beBytes 6 count ++ beBytes 4 snap.toNat)

/-- CMAC4 of a command, and the MAC of its answer, over a label, MSEQ and what follows. -/
def macSeq (key : BitVec 128) (n : Nat) (label : String) (mseq : Nat) (tail : Bytes) : Bytes :=
  mac key n (ascii label ++ beBytes 4 mseq ++ tail)

end Sys2Proof.Machine
end

