-- ==== Sys2Proof/Machine/Journal.lean ====
section
/-! DEFINITION. The Millefeuille counters: journal entries and their chain (R291, R292), commits (R293–R296), the drain
(R297), checkpoints and the ratchet (R299–R301), and recovery at Stage step 8 (R302, R303). -/

namespace Sys2Proof.Machine

/-! ## Entries and chain -/

/-- Octets 0x00–0x17 of an entry (R291). -/
def Entry.head (e : Entry) : Bytes :=
  leBytes 1 e.typ ++ leBytes 1 e.cause ++ leBytes 6 e.seq ++ leBytes 4 e.id ++ leBytes 6 e.value ++ leBytes 2 0
    ++ leBytes 4 e.serial.toNat

/-- The chain value of an entry after a chain value (R292). -/
def State.chainNext (s : State) (prev : BitVec 128) (e : Entry) : BitVec 128 :=
  Config.cmac256 (s.key useJournal) (beBytes 16 prev.toNat ++ e.head)

/-- The first 8 octets of a chain value. -/
def macOf (c : BitVec 128) : BitVec 64 := (c >>> 64).truncate 64

/-- The chain value before SEQ 1 of epoch 0 (R292). -/
def State.chainZero (s : State) : BitVec 128 := Config.cmac256 (s.key useJournal) s.bindingBytes

/-- The chain value after a list of entries. -/
def State.chainAfter (s : State) (c : BitVec 128) (es : List Entry) : BitVec 128 := es.foldl s.chainNext c

/-! ## Counter tables -/

/-- The two tables of counters (per-record, device-global). -/
structure Counts where
  recs : Tab (Nat × Nat)
  glob : Tab (Nat × Nat)
deriving DecidableEq, Repr

def Counts.get (c : Counts) (id : Nat) : Nat × Nat := pairOf c.recs c.glob id

def Counts.set (c : Counts) (id : Nat) (v : Nat × Nat) : Counts :=
  if id < globalBase then { c with recs := tabSet (0, 0) c.recs id v }
  else { c with glob := tabSet (0, max48) c.glob (id - globalBase) v }

/-- Applies an entry: VALUE is absolute (R292). -/
def Counts.apply (c : Counts) (e : Entry) : Counts :=
  let v := c.get e.id
  if e.typ = 1 then c.set e.id (e.value, v.2) else if e.typ = 2 then c.set e.id (v.1, e.value) else c

def State.counts (s : State) : Counts := { recs := s.cnt.cache, glob := s.cnt.gcache }

def State.setCounts (s : State) (c : Counts) : State := { s with cnt := { s.cnt with cache := c.recs, gcache := c.glob } }

/-! ## Checkpoints (R299) -/

/-- The counters of both arrays, 12 octets each. -/
def countBytes (v : Nat × Nat) : Bytes := leBytes 6 v.1 ++ leBytes 6 v.2

/-- HIGH_ID: one above the highest per-record counter stored. -/
def Checkpoint.highId (k : Checkpoint) : Nat := k.counts.foldl (fun n e => max n (e.1 + 1)) 0

/-- Every octet of a checkpoint before its MAC. -/
def Checkpoint.bytes (k : Checkpoint) : Bytes :=
  leBytes 4 0x4B434342 ++ leBytes 2 1 ++ leBytes 2 64 ++ leBytes 4 k.epoch ++ leBytes 4 k.highId ++ leBytes 8 k.seq
    ++ beBytes 16 k.chain.toNat ++ beBytes 16 k.binding.toNat ++ leBytes 8 0
    ++ (List.range k.highId).flatMap (fun i => countBytes (tabGet (0, 0) k.counts i))
    ++ (List.range 1024).flatMap (fun i => countBytes (tabGet (0, max48) k.gcounts i))

def State.ckptMac (s : State) (k : Checkpoint) : BitVec 128 := Config.cmac256 (s.key useJournal) k.bytes

/-- A checkpoint of this device. -/
def State.makeCkpt (s : State) (epoch seq : Nat) (chain : BitVec 128) (c : Counts) : Checkpoint :=
  let k : Checkpoint :=
    { formatOk := true, epoch := epoch, seq := seq, chain := chain, binding := s.binding, counts := c.recs,
      gcounts := c.glob, mac := 0 }
  { k with mac := s.ckptMac k }

/-- A slot is usable: MAGIC, FORMAT and DEVICE_BINDING are correct and its MAC verifies (R302). -/
def State.ckptUsable (s : State) (k : Checkpoint) : Bool := k.formatOk && k.binding == s.binding && k.mac == s.ckptMac k

/-- The implicit checkpoint of epoch 0 (R288, R302). -/
def State.implicitCkpt (s : State) : Checkpoint :=
  { formatOk := true, epoch := 0, seq := 0, chain := s.chainZero, binding := s.binding, counts := [], gcounts := [],
    mac := 0 }

def State.ckptSlots (s : State) : List (Nat × Checkpoint) :=
  (match s.flash.ckpt0 with | none => [] | some k => [(0, k)])
    ++ (match s.flash.ckpt1 with | none => [] | some k => [(1, k)])

/-- The usable checkpoint of an epoch with the highest SEQ, slot 0 of equals; the implicit one has slot 0. -/
def State.pickCkpt (s : State) (epoch : Nat) (maxSeq : Option Nat) : Option (Nat × Checkpoint) :=
  let l := s.ckptSlots.filter fun e => s.ckptUsable e.2 && e.2.epoch == epoch &&
    (match maxSeq with | none => true | some m => decide (e.2.seq ≤ m))
  match minBy (fun e => 2 ^ 48 - e.2.seq) l with
  | some e => some e
  | none => if epoch = 0 then some (0, s.implicitCkpt) else none

/-! ## The ring (R290) -/

def ringSlots : Nat := 524288

/-- The entry of a slot passes a test. -/
def RingSlot.isEntry (p : Entry → Bool) : RingSlot → Bool
  | .pad => false
  | .entry e => p e

/-- The slot at which the entries after a checkpoint begin: that of the entry which follows it on its chain, else the one
behind the entry of its SEQ, else the first slot behind an erased one (R290, R302). -/
def State.ringStart (s : State) (k : Checkpoint) : Nat :=
  let ring := s.flash.ring
  match ring.find? fun x => x.2.isEntry fun e => e.seq == k.seq + 1 && e.mac == macOf (s.chainNext k.chain e) with
  | some x => x.1
  | none => match ring.find? fun x => x.2.isEntry fun e => e.seq == k.seq with
    | some x => (x.1 + 1) % ringSlots
    | none => match ring.find? fun x => (tabFind ring ((x.1 + ringSlots - 1) % ringSlots)).isNone with
      | some x => x.1
      | none => 0

/-- The non-erased slots in ring order from that slot on, less the old entries, folded into the checkpoint, with which the
round of the ring ends. -/
def State.ringOrder (s : State) (k : Checkpoint) : List (Nat × RingSlot) :=
  let i := s.ringStart k
  let l := (s.flash.ring.filter fun x => decide (i ≤ x.1)) ++ (s.flash.ring.filter fun x => decide (x.1 < i))
  (l.reverse.dropWhile fun x => x.2 == .pad || x.2.isEntry fun e => decide (e.seq ≤ k.seq)).reverse

/-- How far a walk of the ring has come. -/
structure Walk where
  counts  : Counts
  seq     : Nat
  chain   : BitVec 128
  started : Bool
  fail    : Option Nat                -- the failing slot
  far     : Bool                      -- a non-erased, non-PAD slot more than 8 slots past it
  rest    : List (Nat × RingSlot)     -- the slots from where the walk stopped, in ring order

/-- Walks the ring from a checkpoint: entries apply while they follow in SEQ and their MACs verify; PAD slots are passed
over, and the slots up to that of the checkpoint's SEQ skipped; `stop` is the anchor's HEAD_SEQ (R302). -/
def State.walk (s : State) (stop : Option Nat) : List (Nat × RingSlot) → Walk → Walk
  | [], w => w
  | (i, x) :: l, w =>
    match w.fail with
    | some f =>
      let far := x != .pad && decide (8 < (i + ringSlots - f) % ringSlots)
      s.walk stop l { w with far := w.far || far, rest := w.rest ++ [(i, x)] }
    | none =>
      match x with
      | .pad => s.walk stop l w
      | .entry e =>
        if !w.started && decide (e.seq ≤ w.seq) then s.walk stop l { w with started := e.seq == w.seq }
        else if stop = some w.seq then { w with rest := (i, x) :: l }
        else
          let c := s.chainNext w.chain e
          if e.seq = w.seq + 1 ∧ e.mac = macOf c then
            s.walk stop l { w with counts := w.counts.apply e, seq := e.seq, chain := c, started := true }
          else s.walk stop l { w with started := true, fail := some i, rest := [(i, x)] }

/-- The walk from a checkpoint. -/
def State.walkFrom (s : State) (k : Checkpoint) (stop : Option Nat) : Walk :=
  s.walk stop (s.ringOrder k)
    { counts := ⟨k.counts, k.gcounts⟩, seq := k.seq, chain := k.chain, started := false, fail := none, far := false,
      rest := [] }

/-- Programs slots PAD. -/
def padSlots (ring : Tab RingSlot) (l : List (Nat × RingSlot)) : Tab RingSlot :=
  l.foldl (fun r e => tabPut r e.1 .pad) ring

/-- The first erased slot at or behind the last one of the ring order: the next entry goes there. -/
def State.ringEnd (s : State) (k : Checkpoint) : Nat :=
  let i := match (s.ringOrder k).getLast? with
    | none => s.ringStart k
    | some e => (e.1 + 1) % ringSlots
  match (List.range (s.flash.ring.length + 1)).find? fun j => (tabFind s.flash.ring ((i + j) % ringSlots)).isNone with
  | none => i
  | some j => (i + j) % ringSlots

/-! ## Commits (R293–R296) -/

/-- What the counter unit finds of a request at its turn. -/
inductive Judgement where
  | refuse (st : Status) (value : Nat)
  | noEntry
  | begin_ (e : Entry)

/-- How a request ended, for its owner. -/
structure CommitEnd where
  owner : CommitOwner
  result : Option Status             -- none: committed, or no entry was needed
  entry  : Bool                      -- an entry was committed
  value : Nat
deriving DecidableEq, Repr

/-- The ceiling of a counter's LIMIT: MAX_LIMIT of the class for a per-record counter (R306). -/
def State.maxLimit (s : State) (id : Nat) : Nat :=
  if id < globalBase then
    match s.ctrClass (s.counterClass (s.record id).classId) with
    | none => 0
    | some c => c.maxLimit
  else max48

/-- The entry a request makes: the next SEQ, the MAC over the chain (R291, R292, R295). -/
def State.makeEntry (s : State) (c : Commit) (value : Nat) : Entry :=
  let e : Entry :=
    { typ := c.typ, cause := c.cause, seq := s.cnt.headSeq + 1, id := c.id, value := value, serial := c.serial, mac := 0 }
  { e with mac := macOf (s.chainNext s.cnt.headChain e) }

/-- Commits are taken now (R294): step 8 has completed, and the mode is SERVICE, or QUARANTINE for a token. -/
def State.mayCommit (s : State) (c : Commit) : Bool :=
  s.cnt.ready && (s.mode == .service || (s.mode == .quarantine && c.accepted))

/-- The host operation behind a request is past its deadline before its point of no return (R372, R373). -/
def State.commitLate (s : State) (c : Commit) : Bool :=
  match c.owner with
  | .host ctx => match s.op ctx with
    | none => false
    | some o => !o.pastPoint && s.isLate o.desc
  | _ => false

/-- The start of a commit is the point of no return of the operation behind it (R373). -/
def State.commitPoint (s : State) (c : Commit) : State :=
  match c.owner with
  | .host ctx => match s.op ctx with
    | none => s
    | some o => s.setOp { o with pastPoint := true }
  | _ => s

/-- A request has arrived at the counter unit in this cycle. -/
def State.arrive (s : State) (c : Commit) : State := { s with cnt := { s.cnt with arrivals := s.cnt.arrivals ++ [c] } }

/-- The place of a request among those of one cycle (R295). -/
def State.arrivalKey (s : State) (c : Commit) : Nat :=
  if c.typ = 2 then 1
  else if 3 ≤ c.cause then 0
  else match c.owner with
    | .host ctx => 2 + (match s.op ctx with | none => 0 | some o => o.q)
    | _ => 2

/-- The requests of a cycle join the queue in the order of R295. -/
def State.orderArrivals (s : State) : State :=
  if s.cnt.arrivals = [] then s
  else { s with cnt := { s.cnt with
    queue := s.cnt.queue ++ s.cnt.arrivals.foldl (fun l c => insertBy s.arrivalKey c l) []
    arrivals := [] } }

/-- A credit token's TAG_ID is not the one bound to the record now (R287). -/
def State.foreignToken (s : State) (c : Commit) : Bool :=
  match c.tag with
  | none => false
  | some t => (s.record c.id).state != 1 || (s.record c.id).tagId != t

/-- Judges a request at its turn: the deadline, the limit (R294), then the window and the buffer. -/
def State.judge (s : State) (c : Commit) : Judgement :=
  let count := s.count c.id
  let value := if c.plusOne then count + 1 else c.value
  if s.commitLate c then .refuse .late 0 else
  if !s.mayCommit c then .refuse .supplyHold 0
  else if c.plusOne && (decide (s.limit c.id < value) || decide (max48 < value)) then .refuse .limitReached count
  else if c.typ == 1 && !c.plusOne && decide (c.value ≤ count) then .noEntry
  else if c.typ == 2 && c.cause == 1 && (!s.counterExists c.id || decide (c.value < count)
      || decide (s.maxLimit c.id < c.value)) then .refuse .notPermitted 0
  else if c.typ == 2 && c.cause == 2 && (s.foreignToken c || decide (s.limit c.id ≠ c.base) || decide (s.maxLimit c.id < c.value)) then
    .refuse .notPermitted 0
  else if !c.accepted && (!s.commitOpen || s.bufferRoom == 0) then .refuse .supplyHold 0
  else .begin_ (s.makeEntry c value)

/-- Counts a refusal under R294. -/
def State.countHold (s : State) (st : Status) : State :=
  if st = .supplyHold then { s with cnt := { s.cnt with supplyHolds := satInc s.cnt.supplyHolds } } else s

/-- Serves waiting requests until one begins its entry: `n` bounds the requests looked at. -/
def State.serveCommits : Nat → State → State × List CommitEnd
  | 0, s => (s, [])
  | n + 1, s =>
    match s.cnt.busy, s.cnt.queue with
    | some _, _ => (s, [])
    | none, [] => (s, [])
    | none, c :: cs =>
      match s.judge c with
      | .begin_ e => (({ s with cnt := { s.cnt with busy := some e } }).commitPoint c, [])
      | .noEntry =>
        let r := State.serveCommits n { s with cnt := { s.cnt with queue := cs } }
        (r.1, ⟨c.owner, none, false, s.count c.id⟩ :: r.2)
      | .refuse st v =>
        let r := State.serveCommits n (({ s with cnt := { s.cnt with queue := cs } }).countHold st)
        (r.1, ⟨c.owner, some st, false, v⟩ :: r.2)

def State.kickCommits (s : State) : State × List CommitEnd := State.serveCommits s.cnt.queue.length s

/-- A CONSUME or INCREMENT entry shows only with its completion (R31, R296). -/
def Entry.hidden (e : Entry) : Bool := e.typ == 1 && (e.cause == 1 || e.cause == 2)

/-- The valid latch of the entry being written is set (R79): the entry is committed and durable, and the counter cache
takes it (R296). -/
def State.latchEntry (s : State) (e : Entry) : State :=
  let visible :=
    if e.hidden then (match tabFind s.cnt.visible e.id with
      | some _ => s.cnt.visible
      | none => tabPut s.cnt.visible e.id (s.count e.id))
    else if e.typ = 1 then (match tabFind s.cnt.visible e.id with
      | some _ => tabPut s.cnt.visible e.id e.value
      | none => s.cnt.visible)
    else s.cnt.visible
  let adopt := e.typ == 1 && e.cause == 3
  let s := s.setCounts (s.counts.apply e)
  { s with
    vig := { s.vig with buffer := s.vig.buffer ++ [e] }
    cnt := { s.cnt with
      visible := visible, busy := none, headSeq := e.seq, headChain := s.chainNext s.cnt.headChain e
      commits := satInc s.cnt.commits
      adoptions := if adopt then satInc s.cnt.adoptions else s.cnt.adoptions
      recovered := if e.typ == 1 && (e.cause == 3 || e.cause == 4) && s.cnt.recoverAll
        then insertNew s.cnt.recovered e.id else s.cnt.recovered } }

/-- The committed count of an operation becomes visible with its completion, whatever its status (R31, R296). -/
def State.publishCount (s : State) (id count : Nat) : State :=
  match tabFind s.cnt.visible id with
  | none => s
  | some v =>
    let more := (s.sch.ops.any fun o => o.committed && o.record == id) || s.countHeld id
    { s with cnt := { s.cnt with
        visible := if more then tabPut s.cnt.visible id (max v count) else tabDel s.cnt.visible id } }

/-! ## Drain (R297) -/

/-- How many entries the next drain program takes: up to the end of one 256-byte page, while the slots are erased. -/
def State.drainSize (s : State) : Nat :=
  let n := min s.vig.buffer.length (8 - s.cnt.ringNext % 8)
  ((List.range n).takeWhile fun i => (tabFind s.flash.ring (s.cnt.ringNext + i)).isNone).length

/-- A drain program begins. -/
def State.drainStart (s : State) : State :=
  if s.cnt.ready = true ∧ s.cnt.drain = .idle ∧ s.drainSize ≠ 0 then
    { s with cnt := { s.cnt with drain := .programming s.drainSize } }
  else s

/-- Writes entries to the ring from a slot on. -/
def writeRing (ring : Tab RingSlot) (i : Nat) : List Entry → Tab RingSlot
  | [] => ring
  | e :: es => writeRing (tabPut ring i (.entry e)) (i + 1) es

/-- The first `n` buffer entries are verified in flash: the anchor advances and they are released (R80, R297). -/
def State.advanceAnchor (s : State) (n : Nat) : State :=
  let es := s.vig.buffer.take n
  match es.getLast? with
  | none => s
  | some e =>
    { s with vig := { s.vig with
        headSeq := BitVec.ofNat 64 e.seq, chain := s.chainAfter s.vig.chain es, anchorOk := true
        buffer := s.vig.buffer.drop n } }

/-- The read-back of a drain program of `n` entries ends (R297). `slots` says what each slot reads back as; a slot the
list does not name reads back equal. The first slot that does not read back equal decides: the entries before it stand,
and its slot and those after it in the program are programmed PAD, their entries going to the next slots (assumption
log 10). -/
def State.drainEnd (s : State) (n : Nat) (slots : List Readback) : State :=
  let i0 := s.cnt.ringNext
  let k := ((slots.take n).takeWhile (· == .equal)).length
  let bad : Option Readback := (slots.take n)[k]?
  match bad with
  | none =>
    let s := { s with flash := { s.flash with ring := writeRing s.flash.ring i0 (s.vig.buffer.take n) } }
    let s := s.advanceAnchor n
    { s with cnt := { s.cnt with drain := .idle, drainFails := 0, drainFail := false, ringNext := (i0 + n) % ringSlots } }
  | some r =>
    let s := { s with flash := { s.flash with ring := writeRing s.flash.ring i0 (s.vig.buffer.take k) } }
    let s := s.advanceAnchor k
    if r = .otherValid then
      ({ s with cnt := { s.cnt with drain := .idle, ringNext := (i0 + k) % ringSlots } }).quarantine .journalChain
    else
      let pads := n - k
      let fails : Nat := s.cnt.drainFails + 1
      let s := { s with
        flash := { s.flash with
          ring := padSlots s.flash.ring ((List.range pads).map fun j => (i0 + k + j, RingSlot.pad)) }
        cnt := { s.cnt with ringNext := (i0 + n) % ringSlots, drainRetries := satAdd s.cnt.drainRetries pads } }
      if 3 ≤ fails then
        let s := { s with cnt := { s.cnt with
          drainFails := 0, drainFail := true, drain := .paused (s.tick + 100000) } }
        s.raise .counter
      else { s with cnt := { s.cnt with drainFails := fails, drain := .idle } }

/-! ## The ratchet (R301) -/

def ratchetFuses : Nat := 65536

/-- Blows one ratchet fuse; reaching 256 unblown fuses, and blowing the last, set GLB_IRQ_STAT.COUNTER (R486). -/
def State.blowRatchet (s : State) : State :=
  if ratchetFuses ≤ s.otp.ratchet then s
  else
    let s := { s with otp := { s.otp with ratchet := s.otp.ratchet + 1 } }
    if s.otp.ratchet = ratchetFuses - 256 ∨ s.otp.ratchet = ratchetFuses then s.raise .counter else s

/-! ## Compaction (R300) -/

/-- The current checkpoint. -/
def State.currentCkpt (s : State) : Checkpoint :=
  match if s.cnt.ckptSlot = 0 then s.flash.ckpt0 else s.flash.ckpt1 with
  | none => s.implicitCkpt
  | some k => if k.seq = s.cnt.ckptSeq then k else s.implicitCkpt

/-- A compaction is due: 75 % of the ring has been committed since the current checkpoint's SEQ, and a fuse is left. -/
def State.compactionDue (s : State) : Bool :=
  s.cnt.ready && s.cnt.compaction == .none && decide (393216 ≤ s.cnt.headSeq - s.cnt.ckptSeq)
    && decide (s.otp.ratchet < ratchetFuses)

/-- Steps 1 and 2: the counters as they stood after entry S, the anchor's HEAD_SEQ; the program waits while
EARLY_WARNING is 1. -/
def State.startCompaction (s : State) : State :=
  if s.compactionDue then
    let w := s.walkFrom s.currentCkpt (some s.vig.headSeq.toNat)
    let k := s.makeCkpt (s.otp.ratchet + 1) s.vig.headSeq.toNat s.vig.chain w.counts
    let s := { s with cnt := { s.cnt with compaction := .program k (!s.spw.early) } }
    if s.spw.early then s else s.setCkpt s.otherSlot none
  else s

/-- EARLY_WARNING has fallen: a compaction step that waited begins (R300). -/
def State.resumeCompaction (s : State) : State :=
  match s.cnt.compaction with
  | .program k false => ({ s with cnt := { s.cnt with compaction := .program k true } }).setCkpt s.otherSlot none
  | .blow k false => { s with cnt := { s.cnt with compaction := .blow k true } }
  | _ => s

/-- The checkpoint's program ends; one that does not read back is programmed again. -/
def State.checkpointDone (s : State) (ok : Bool) : State :=
  match s.cnt.compaction with
  | .program k true =>
    if ok then
      ({ s with cnt := { s.cnt with compaction := .blow k (!s.spw.early) } }).setCkpt s.otherSlot (some k)
    else { s with cnt := { s.cnt with compaction := .program k (!s.spw.early) } }
  | _ => s

/-- Step 3 has blown its fuse: the new checkpoint is current. -/
def State.fuseDone (s : State) : State :=
  match s.cnt.compaction with
  | .blow k true =>
    ({ s with cnt := { s.cnt with compaction := .erase, ckptSlot := s.otherSlot, ckptSeq := k.seq } }).blowRatchet
  | _ => s

/-- Step 4 has erased the old blocks and the old checkpoint slot; a journal program suspends it (R463). -/
def State.compactionErase (s : State) : State :=
  if s.cnt.compaction = .erase ∧ s.bootSuspended = false then
    let s := { s with flash := { s.flash with ring := eraseOld s.flash.ring s.cnt.ckptSeq } }
    let s := s.setCkpt s.otherSlot none
    { s with cnt := { s.cnt with compaction := .none, compactions := satInc s.cnt.compactions } }
  else s

/-! ## Recovery at Stage step 8 (R302, R303) -/

/-- Installs the counters a recovery has found. -/
def State.installCounts (s : State) (c : Counts) (seq : Nat) (chain : BitVec 128) : State :=
  let s := s.setCounts c
  { s with cnt := { s.cnt with headSeq := seq, headChain := chain, ready := true } }

/-- The next entry goes behind those that the ring holds after a checkpoint. -/
def State.placeNext (s : State) (k : Checkpoint) : State := { s with cnt := { s.cnt with ringNext := s.ringEnd k } }

/-- The anchor takes a HEAD_SEQ and CHAIN. -/
def State.setAnchor (s : State) (seq : Nat) (chain : BitVec 128) : State :=
  { s with vig := { s.vig with headSeq := BitVec.ofNat 64 seq, chain := chain, anchorOk := true } }

/-- The buffer entries chain on from a SEQ and chain value. -/
def State.bufferChains (s : State) : Nat → BitVec 128 → List Entry → Bool
  | _, _, [] => true
  | seq, c, e :: es =>
    let c' := s.chainNext c e
    e.seq == seq + 1 && e.mac == macOf c' && s.bufferChains (seq + 1) c' es

/-- How many of the ring slots after HEAD_SEQ equal the next buffer entries, PAD slots passed over, and the slots that
are then left (R302). -/
def standing : List (Nat × RingSlot) → List Entry → Nat × List (Nat × RingSlot)
  | [], _ => (0, [])
  | (_, .pad) :: l, es => standing l es
  | (i, .entry x) :: l, e :: es =>
    if x = e then ((standing l es).1 + 1, (standing l es).2) else (0, (i, .entry x) :: l)
  | l, [] => (0, l)

/-- The journal holds entries: a ring slot is not erased, or a checkpoint slot is usable (R302). -/
def State.journalHolds (s : State) : Bool := decide (s.flash.ring ≠ []) || s.ckptSlots.any fun e => s.ckptUsable e.2

/-- Records ANCHOR_LOST; the recipe says whether it leads to QUARANTINE (R117). -/
def State.anchorLost (s : State) : State :=
  let s := { s with mod := { s.mod with cause := { s.mod.cause with anchorLost := true } } }
  match s.rcp.recipe with
  | none => s
  | some r => if r.lostQuar then s.quarantine .anchorLost else s

/-- Reinitialization of a rejected journal (R303): ring and slots erased, one fuse blown, a checkpoint of the epoch-0
values written, every counter marked RECOVERING. -/
def State.reinitJournal (s : State) : State :=
  let s := ({ s with flash := { s.flash with ring := [], ckpt0 := none, ckpt1 := none } }).blowRatchet
  let k := s.makeCkpt s.otp.ratchet 0 s.chainZero ⟨[], []⟩
  let s := (s.setCkpt 0 (some k)).installCounts ⟨[], []⟩ 0 s.chainZero
  let s := s.setAnchor 0 s.chainZero
  { s with
    vig := { s.vig with buffer := [] }
    cnt := { s.cnt with
      ckptSeq := 0, ckptSlot := 0, reinitDue := false, recoverAll := true, recovered := [], ringNext := 0 } }

/-- The journal is rejected (R302, R303). -/
def State.rejectJournal (s : State) : State :=
  let s := { s with vig := { s.vig with buffer := [] } }
  let s := (s.installCounts ⟨[], []⟩ 0 0)
  let s := { s with cnt := { s.cnt with rejected := true, reinitDue := true, ckptSeq := 0, ringNext := 0 } }
  let quar := match s.rcp.recipe with | none => false | some r => r.lostQuar
  let s := s.anchorLost
  if quar then s else s.reinitJournal

/-- The anchor-valid row of R302 for a checkpoint whose chain reaches the anchor. -/
def State.acceptJournal (s : State) (slot : Nat) (k : Checkpoint) (w : Walk) : State :=
  let head := s.vig.headSeq.toNat
  let buf := s.vig.buffer.filter fun e => decide (head < e.seq)
  if !s.bufferChains head s.vig.chain buf then s.quarantine .journalChain
  else
    let st := standing w.rest buf
    let s := { s with
      flash := { s.flash with ring := padSlots s.flash.ring (st.2.filter fun e : Nat × RingSlot => e.2 != RingSlot.pad) }
      vig := { s.vig with buffer := buf } }
    let s := s.installCounts (buf.foldl Counts.apply w.counts) (head + buf.length) (s.chainAfter s.vig.chain buf)
    let s := (s.placeNext k).advanceAnchor st.1
    { s with cnt := { s.cnt with ckptSeq := k.seq, ckptSlot := slot } }

/-- The anchor-invalid row of R302 for an accepted journal: the later slots are programmed PAD, ANCHOR_LOST is set, and
one fuse is blown and a compaction run within step 8, while a fuse is left (R301). -/
def State.acceptLost (s : State) (slot : Nat) (k : Checkpoint) (w : Walk) : State :=
  let s := { s with
    flash := { s.flash with ring := padSlots s.flash.ring (w.rest.filter fun e : Nat × RingSlot => e.2 != RingSlot.pad) }
    vig := { s.vig with buffer := [] }
    cnt := { s.cnt with ckptSlot := slot, ckptSeq := k.seq } }
  let s := ((s.installCounts w.counts w.seq w.chain).placeNext k).setAnchor w.seq w.chain
  if ratchetFuses ≤ s.otp.ratchet then s.anchorLost
  else
    let new := 1 - slot
    let s := (s.setCkpt new (some (s.makeCkpt (s.otp.ratchet + 1) w.seq w.chain w.counts))).blowRatchet
    let s := { s with flash := { s.flash with ring := eraseOld s.flash.ring w.seq } }
    let s := s.setCkpt slot none
    ({ s with cnt := { s.cnt with
        ckptSlot := new, ckptSeq := w.seq, compactions := satInc s.cnt.compactions } }).anchorLost

/-- The first start (R302): epoch-0 values, FIRST_POWER and PRISTINE. -/
def State.firstJournal (s : State) : State :=
  let s := (s.installCounts ⟨[], []⟩ 0 s.chainZero).setAnchor 0 s.chainZero
  { s with
    vig := { s.vig with buffer := [] }
    cnt := { s.cnt with ringNext := 0 }
    mod := { s.mod with cause := { s.mod.cause with firstPower := true, pristine := true } } }

/-- The rows of the table of R302. -/
inductive Recovery where
  | broken (blow : Bool)
  | accepted (slot : Nat) (k : Checkpoint) (w : Walk) (blow : Bool)
  | first
  | lost (slot : Nat) (k : Checkpoint) (w : Walk)
  | rejected

/-- Step 8's decision (R302). -/
def State.recovery (s : State) : Recovery :=
  let F := s.otp.ratchet
  if s.vig.anchorOk then
    let head := s.vig.headSeq.toNat
    match (match s.pickCkpt (F + 1) (some head) with | some k => some k | none => s.pickCkpt F none) with
    | none => .broken false
    | some (slot, k) =>
      let w := s.walkFrom k (some head)
      let blow := decide (k.epoch = F + 1)
      if w.seq = head ∧ w.chain = s.vig.chain then .accepted slot k w blow else .broken blow
  else if !s.journalHolds && F == 0 then .first
  else
    match if s.journalHolds then s.pickCkpt F none else none with
    | none => .rejected
    | some (slot, k) =>
      let w := s.walkFrom k none
      if w.far then .rejected else .lost slot k w

/-- Its compaction waits for EARLY_WARNING to fall (R300). -/
def State.recoveryWaits (s : State) : Bool :=
  match s.recovery with
  | .lost _ _ _ => s.spw.early && decide (s.otp.ratchet < ratchetFuses)
  | _ => false

/-- JOURNAL_REPLAY: step 8 carries its decision out. -/
def State.recoverJournal (s : State) : State :=
  match s.recovery with
  | .broken blow => (if blow then s.blowRatchet else s).quarantine .journalChain
  | .accepted slot k w blow => (if blow then s.blowRatchet else s).acceptJournal slot k w
  | .first => s.firstJournal
  | .lost slot k w => s.acceptLost slot k w
  | .rejected => s.rejectJournal

/-! ## The commands of the drain and of a compaction -/

/-- DRAIN_PROGRAM_START (R297). -/
def execDrainProgramStart (s : State) : Host.Outcome State Fault Refusal := onClock s State.drainStart

/-- DRAIN_READBACK_DONE (R297). -/
def execDrainReadbackDone (slots : List Readback) (s : State) : Host.Outcome State Fault Refusal :=
  onClock s fun s => match s.cnt.drain with
    | .programming n => s.drainEnd n slots
    | _ => s

/-- DRAIN_PAUSE_END (R297): the 100 ms after the third failure have passed. -/
def execDrainPauseEnd (s : State) : Host.Outcome State Fault Refusal :=
  onClock s fun s => match s.cnt.drain with
    | .paused _ => { s with cnt := { s.cnt with drain := .idle } }
    | _ => s

/-- COMPACTION_START (R300). -/
def execCompactionStart (s : State) : Host.Outcome State Fault Refusal := onClock s State.startCompaction

/-- CHECKPOINT_PROGRAM_DONE (R300). -/
def execCheckpointProgramDone (ok : Bool) (s : State) : Host.Outcome State Fault Refusal :=
  onClock s fun s => s.checkpointDone ok

/-- RATCHET_FUSE_BLOWN (R300). -/
def execRatchetFuseBlown (s : State) : Host.Outcome State Fault Refusal := onClock s State.fuseDone

/-- COMPACTION_ERASE_DONE (R300). -/
def execCompactionEraseDone (s : State) : Host.Outcome State Fault Refusal := onClock s State.compactionErase

end Sys2Proof.Machine
end

