-- ==== Sys2Proof/Machine/Positions.lean ====
section
/-! DEFINITION. What several families do to positions: squashes of speculative beats (R412, R413), verdict changes
(R236), misses (R396), lost sessions, jobs and their contexts (R382, R385, R416), and the ends of host operations with
the count that shows with them (R31). -/

namespace Sys2Proof.Machine

/-! ## Ends of operations (R31, R453) -/

/-- An operation ends. The count it committed shows in the cycle in which its completion entry becomes visible. -/
def State.endOp (s : State) (ctx : Nat) (st : Status) (result : Bytes) (dma : Option Bytes) : State :=
  match s.op ctx with
  | none => s
  | some o =>
    let s := s.finishOp ctx st result dma
    if !o.committed then s
    else if s.canMaster then s.publishCount o.record o.count
    else s.holdCount o.record o.count

/-- Writes the completions that waited for bus mastering, in order (R453). -/
def State.flushHeld (s : State) : State :=
  if s.canMaster then
    s.sch.held.foldl (fun s h =>
      let s := { s with sch := { s.sch with held := s.sch.held.drop 1 } }
      let s := s.writeEntry h.q h.desc h.status h.result h.dma
      match h.count with
      | none => s
      | some c => s.publishCount c.1 c.2) s
  else s

/-- COUNTER and COUNT of a completion (R368, R371). -/
def countResult (id count : Nat) : Bytes := leBytes 4 id ++ leBytes 6 count

/-- RECORD, VERDICT, REASON and TAG_COUNT of a VERIFY (R368). -/
def State.verifyResult (s : State) (o : Op) : Bytes :=
  let x := s.pos o.desc.port o.desc.position
  leBytes 4 (match x.record with | none => 0xFFFFFFFF | some r => r) ++ leBytes 1 x.verdict ++ leBytes 1 x.reason
    ++ leBytes 6 o.count

/-- RESULT of an operation on a position that ends now. -/
def State.portResult (s : State) (o : Op) : Bytes :=
  match o.desc.opcode with
  | 0x01 => s.verifyResult o
  | 0x10 => if o.committed then countResult o.record o.count else []
  | _ => []

/-- An operation on a position ends without a host buffer write. -/
def State.endPortOp (s : State) (ctx : Nat) (st : Status) : State :=
  match s.op ctx with
  | none => s
  | some o => s.endOp ctx st (s.portResult o) none

/-! ## Speculation (R400, R412, R413) -/

/-- A beat shadow stops using a speculation frame, which is freed with its last use. -/
def State.dropSpecFrame (s : State) (page : Nat) : State :=
  { s with ldr := { s.ldr with specFrames := s.ldr.specFrames.filterMap fun f =>
      if f.page = page then (if f.uses ≤ 1 then none else some { f with uses := f.uses - 1 }) else some f } }

/-- The causes of R412. -/
inductive SquashCause where
  | identity
  | epoch
  | generation
  | unit
  | context
  | engine
deriving DecidableEq, Repr

/-- The SPC_ counters of a squash. -/
def Spec.squash (x : Spec) (c : SquashCause) (nonce : Bool) : Spec :=
  let x := { x with squashed := satInc x.squashed, nonces := satAdd x.nonces nonce.toNat }
  match c with
  | .identity => { x with sqIdentity := satInc x.sqIdentity }
  | .epoch => { x with sqEpoch := satInc x.sqEpoch }
  | .generation => { x with sqGen := satInc x.sqGen }
  | .unit => { x with sqUnit := satInc x.sqUnit }
  | .context => { x with sqContext := satInc x.sqContext }
  | .engine => { x with sqEngine := satInc x.sqEngine }

/-- Squashes the beat shadow of a position, if it holds one. -/
def State.squashBeat (s : State) (p i : Nat) (c : SquashCause) : State :=
  let x := s.pos p i
  match x.shadow with
  | none => s
  | some b =>
    let s := s.setPos p i { x with shadow := none }
    let s := if b.frame then s.dropSpecFrame b.page else s
    { s with spc := s.spc.squash c b.nonce.isSome }

/-- Squashes every beat shadow part of whose work an engine holds that leaves ACTIVE. -/
def State.squashLane (s : State) (u : Nat) : State :=
  s.ports.foldl (fun s e => e.2.pos.foldl (fun s x => match x.2.shadow with
    | none => s
    | some b => if b.lane = some u then s.squashBeat e.1 x.1 .engine else s) s) s

/-- Squashes every beat shadow of a port. -/
def State.squashPort (s : State) (p : Nat) (c : SquashCause) : State :=
  (List.range 32).foldl (fun s k => s.squashBeat p (k + 1) c) s

/-- Squashes every beat shadow. -/
def State.squashAll (s : State) (c : SquashCause) : State := s.ports.foldl (fun s e => s.squashPort e.1 c) s

/-! ## Jobs and beat contexts (R382, R385, R394, R416) -/

/-- The kinds of job, in the order of R394. -/
def jobBeat : Nat := 0
def jobCatchup : Nat := 1
def jobAuth : Nat := 2
def jobProbe : Nat := 3
def jobCollect : Nat := 4
def jobPrio : Nat := 5

/-- The order among the ready jobs of a port. -/
def Job.key (j : Job) : Nat := (j.deadline * 8 + j.kind) * 64 + j.pos

/-- Removes the jobs of a port that a test selects. -/
def State.dropJobs (s : State) (p : Nat) (f : Job → Bool) : State :=
  let x := s.port p
  s.setPort p { x with jobs := x.jobs.filter fun j => !f j }

/-- Two jobs of a series are told apart by their deadlines (R393). -/
def Job.same (j k : Job) : Bool := j.kind == k.kind && j.pos == k.pos && j.deadline == k.deadline

/-- The earliest job of a kind at a position: the one that runs, where one does. -/
def State.jobOf (s : State) (p kind i : Nat) : Option Job :=
  minBy (·.deadline) ((s.port p).jobs.filter fun j => j.kind == kind && j.pos == i)

/-- The earliest job of a kind at a position retires. -/
def State.retireJob (s : State) (p kind i : Nat) : State :=
  match s.jobOf p kind i with
  | none => s
  | some j => s.dropJobs p j.same

def State.hasJob (s : State) (p kind i : Nat) : Bool := (s.port p).jobs.any fun j => j.kind == kind && j.pos == i

/-- Changes a job. -/
def State.setJob (s : State) (p : Nat) (j : Job) : State :=
  let x := s.port p
  s.setPort p { x with jobs := x.jobs.map fun k => if k.same j then j else k }

/-- Jobs that wait for a beat context. -/
def State.ctxWaiters (s : State) : List (Nat × Job) :=
  s.ports.flatMap fun p => (p.2.jobs.filter fun j => !j.ctx).map fun j => (p.1, j)

/-- Contexts that become free go to the waiting jobs, earliest deadline first. -/
def State.giveCtx : Nat → State → State
  | 0, s => s
  | n + 1, s =>
    if 512 ≤ s.beatUsed + s.beatShadows then s
    else match minBy (fun e : Nat × Job => e.2.key * 128 + e.1) s.ctxWaiters with
      | none => s
      | some e => State.giveCtx n (s.setJob e.1 { e.2 with ctx := true }).peaks

/-- The position whose beat shadow has the latest release time. -/
def State.latestShadow (s : State) : Option (Nat × Nat) :=
  let l := s.ports.flatMap fun p => p.2.pos.filterMap fun x =>
    if x.2.shadow.isSome then some (p.1, x.1, match x.2.beatAt with | none => 0 | some t => t) else none
  match minBy (fun e : Nat × Nat × Nat => 2 ^ 64 - e.2.2) l with
  | none => none
  | some e => some (e.1, e.2.1)

/-- A job is released (R393): it takes a beat context, that of the beat shadow with the latest release when none is free,
or waits for one. -/
def State.releaseJob (s : State) (p : Nat) (j : Job) : State :=
  let s := { s with sch := { s.sch with released := satInc s.sch.released } }
  let s := if 512 ≤ s.beatUsed + s.beatShadows then
      (match s.latestShadow with
      | none => s
      | some e => s.squashBeat e.1 e.2 .context) else s
  let free : Bool := decide (s.beatUsed + s.beatShadows < 512)
  let s := if free then s else { s with sch := { s.sch with ctxWaits := satInc s.sch.ctxWaits } }
  let x := s.port p
  (s.setPort p { x with jobs := x.jobs ++ [{ j with ctx := free }] }).peaks

/-! ## Periods and classes (R392) -/

/-- BEAT_PERIOD_MS of the class of a position, in µs; 1 s while no class is known. -/
def State.beatPeriod (s : State) (p i : Nat) : Nat :=
  match s.accClass (s.pos p i).classId with
  | none => 1000000
  | some c => c.beatMs * 1000

/-- The frame pins of a position's authentication stand beside those of the contexts. -/
def posCtx (p i : Nat) : Nat := 4096 + 32 * p + i

/-- Unpins the pages a context pinned. -/
def State.unpin (s : State) (ctx : Nat) : State :=
  { s with ldr := { s.ldr with frames := s.ldr.frames.map fun f => { f with pins := f.pins.filter (· != ctx) } } }

/-! ## Verdicts (R236) -/

/-- The verdict of a position: the beat series begins one period after it becomes VERIFIED and ends when it leaves
VERIFIED, with the jobs that need it; a change is reported (R377). -/
def State.setVerdict (s : State) (p i v reason : Nat) : State :=
  let old := (s.pos p i).verdict
  let s := if v ≠ 2 then s.squashBeat p i .identity else s
  let x := { s.pos p i with verdict := v, reason := reason }
  if v = old then s.setPos p i x
  else
    let x := if v = 2 then { x with beatAt := some (s.tick.toNat + s.beatPeriod p i), beatBusy := false }
      else { x with beatAt := none, beatBusy := false, catchupAt := none }
    let x := if v = 0 ∨ v = 3 then { x with authAt := none } else x
    let x := if v = 0 then { x with prioAt := none } else x
    let s := s.setPos p i x
    let s := if v = 2 then s else s.dropJobs p fun j => j.pos == i && decide (j.kind ≤ jobCatchup)
    let s := if v = 0 ∨ v = 3 then s.dropJobs p fun j => j.pos == i && j.kind == jobAuth else s
    let s := if v = 0 then s.dropJobs p fun j => j.pos == i && j.kind == jobPrio else s
    let s := if v = 3 then s.setPort p { s.port p with authFails := satInc (s.port p).authFails } else s
    s.report 4 [BitVec.ofNat 8 p, BitVec.ofNat 8 i, BitVec.ofNat 8 old, BitVec.ofNat 8 v, BitVec.ofNat 8 reason]

/-- A full authentication is due at a time, or already earlier (R392). -/
def State.authDue (s : State) (p i at_ : Nat) : State :=
  let x := s.pos p i
  s.setPos p i { x with authAt := some (match x.authAt with | none => at_ | some t => min t at_) }

/-- The session of a position is dropped. -/
def State.dropSession (s : State) (p i : Nat) : State :=
  let s := s.squashBeat p i .epoch
  s.setPos p i { s.pos p i with session := none }

/-- The session is lost: UNVERIFIED, and a full authentication due at once (R214, R231, R233, R236). -/
def State.loseSession (s : State) (p i : Nat) : State :=
  let s := s.dropSession p i
  let v := (s.pos p i).verdict
  if v = 1 ∨ v = 2 then (s.setVerdict p i 1 0).authDue p i s.tick.toNat else s

/-- A miss (R396): at MISS_LIMIT the position becomes UNVERIFIED and an authentication is due at `at_`. -/
def State.miss (s : State) (p i at_ : Nat) : State :=
  let x := s.pos p i
  let n := min 15 (x.misses + 1)
  let s := s.setPos p i { x with misses := n }
  let s := { s with sch := { s.sch with misses := satInc s.sch.misses } }
  match s.accClass x.classId with
  | none => s
  | some c =>
    if c.missLimit ≤ n ∧ x.verdict = 2 then
      ((s.squashBeat p i .unit).setVerdict p i 1 0).authDue p i at_
    else s

/-- A position becomes EMPTY: its map entry is cleared (R335). -/
def State.emptyPos (s : State) (p i : Nat) : State :=
  let s := s.setVerdict p i 0 0
  s.setPos p i posEmpty

/-- The record of a position is mapped to it (R335): no other position keeps it. -/
def State.mapRecord (s : State) (p i n : Nat) (tagId : BitVec 128) : State :=
  s.setPos p i { s.pos p i with record := some n, tagId := some tagId }

/-- A TAG_ID is VERIFIED at another position (R232). -/
def State.duplicate (s : State) (p i : Nat) (tagId : BitVec 128) : Bool :=
  s.ports.any fun e => e.2.pos.any fun x => (e.1 != p || x.1 != i) && x.2.verdict == 2 && x.2.tagId == some tagId

/-! ## Port events (R204) -/

/-- Sets a PLT_EVENT bit; one that goes from 0 to 1 is reported (R377). -/
def State.portEvent (s : State) (p b : Nat) : State :=
  let x := s.port p
  if x.event.getLsbD b then s
  else (s.setPort p { x with event := setBit x.event b true }).report 5 [BitVec.ofNat 8 p, BitVec.twoPow 8 b]

def evInserted : Nat := 0
def evRemoved : Nat := 1
def evLineLow : Nat := 2
def evLineHigh : Nat := 3
def evSpuShort : Nat := 4
def evOverflow : Nat := 5
def evEnumMute : Nat := 6
def evUnsolicited : Nat := 7

end Sys2Proof.Machine
end

