-- ==== Sys2Proof/Machine/Wire.lean ====
section
/-! DEFINITION. The wire of a Plait port below its work (R174–R202, R215–R224): one transaction at a time, the places of
the strong pull-up, attempts, what a tag frame does whoever it answers, reset and enumeration, probes, chain checks and
line faults. -/

namespace Sys2Proof.Machine

/-! ## Parameters of the profile (R119) -/

def portEntryNone : PortEntry :=
  { port := 0, brisk := false, pullup := 0, maxPos := 0, retries := 0, spuLimitMs := 0, probeMs := 0, sprinkleMs := 0 }

def Port.profile (x : Port) : PortEntry := x.entry.getD portEntryNone

/-- SPU_LIMIT_MS in µs. -/
def Port.spuLimitUs (x : Port) : Nat := x.profile.spuLimitMs * 1000

/-- PLT_STAT.STATE (R203). -/
def PortState.code : PortState → Nat
  | .off => 0
  | .held => 1
  | .charge => 2
  | .reset => 3
  | .enumerate => 4
  | .running => 5
  | .fault => 6
  | .stopped => 7

/-! ## Transactions (R181, R183) -/

/-- A transaction is in progress: PLT_STAT.IN_TRANSACTION. -/
def Port.busy (x : Port) : Bool :=
  (x.txn.isSome && x.spuWait.isNone) || x.window != .none || x.trimSent
    || (match x.check with | none => false | some c => decide (c.pos + 1 < c.next))

/-- Ports of a cluster that hold a place for the strong pull-up (R195). -/
def State.spuUsed (s : State) (p : Nat) : Nat :=
  (s.ports.filter fun e => e.1 / 16 == p / 16 && e.2.spuPlace).length

/-- A port of the cluster waits for a place. -/
def State.spuQueue (s : State) (p : Nat) : Bool := s.ports.any fun e => e.1 / 16 == p / 16 && e.2.spuWait.isSome

/-- The ACK of a frame (R219). -/
def Txn.ackOf (t : Txn) (x : Port) : Bool := if t.op = opAssign ∨ t.op = opTrim then false else (x.at t.pos).parity

/-- The body of a transaction's frame (R207, R212, R216). -/
def Txn.body (t : Txn) (x : Port) : List Bool :=
  let addr := if t.op = opAssign then 63 else if t.op = opTrim then 0 else t.pos
  if t.finish then borpinBody addr opFinish [] (t.ackOf x) else borpinBody addr t.op t.payload (t.ackOf x)

/-- A host operation is past its point of no return once its lead-in begins (R373). -/
def State.passPoint (s : State) (t : Txn) : State :=
  match t.owner with
  | .host ctx => match s.op ctx with
    | none => s
    | some o => if t.op = opWriteMem ∨ t.op = opChallenge then s.setOp { o with pastPoint := true } else s
  | _ => s

/-- The frame of an attempt is sent; its strong pull-up interval, if it has one, follows. -/
def State.sendTry (s : State) (p : Nat) (t : Txn) : State :=
  let x := s.port p
  let hold : Bool := decide (t.holdUs ≠ 0)
  let t := { t with holding := hold, due := false }
  ((s.setPort p { x with txn := some t, spuOn := hold }).passPoint t).emit (.plaitFrame p (t.body x))

/-- An attempt begins: one with a hold reserves a place in the cluster before its lead-in, or waits for one (R195). -/
def State.launch (s : State) (p : Nat) (t : Txn) : State :=
  let x := s.port p
  if t.holdUs = 0 then s.sendTry p t
  else if s.spuUsed p < 4 ∧ s.spuQueue p = false then (s.setPort p { x with spuPlace := true }).sendTry p t
  else
    { s.setPort p { x with txn := some { t with due := false }, spuWait := some s.sch.spuSeq } with
      sch := { s.sch with spuSeq := s.sch.spuSeq + 1 } }

/-- A command begins. -/
def State.startTxn (s : State) (p : Nat) (owner : Owner) (op pos : Nat) (payload : Bytes) (holdUs : Nat) : State :=
  s.launch p
    { owner := owner, op := op, pos := pos, payload := payload, tries := 0
      holdUs := min holdUs (s.port p).spuLimitUs, holdUsed := 0, holding := false, finish := false, due := false
      silent := true }

/-- The trailing slot: the place is free, the strong pull-up off. -/
def State.trailing (s : State) (p : Nat) : State :=
  let x := s.port p
  s.setPort p { x with txn := none, spuOn := false, spuPlace := false }

/-- How a command ended, for the work it belongs to. -/
inductive CmdKind where
  /-- A valid OK answer with its payload. -/
  | ok (payload : Bytes)
  /-- BAD_MAC, BAD_SEQ or NO_SESSION: the session is lost (R214). -/
  | lost
  /-- A valid answer with any other error TSTAT: the command fails (R214). -/
  | error
  /-- No valid answer. -/
  | failed
  /-- R196. -/
  | short
deriving DecidableEq, Repr

/-- A command that has ended; `snap` is the SNAP its answer was made under. -/
structure CmdEnd where
  txn  : Txn
  kind : CmdKind
  snap : BitVec 32
deriving DecidableEq, Repr

/-- The check of a position begins at the one behind it. -/
def checkNew (pos : Nat) : ChainCheck := { pos := pos, next := pos + 1, answered := [] }

/-- A chain check is due after a position gave no answer on any try (R193), after those that are due already. -/
def State.checkDue (s : State) (p pos : Nat) : State :=
  let x := s.port p
  if x.state == .running && x.isPresent pos then
    match x.check with
    | none => s.setPort p { x with check := some (checkNew pos) }
    | some c => if c.pos = pos then s else s.setPort p { x with checkq := insertNew x.checkq pos }
  else s

/-- A command has no further attempt. -/
def State.cmdFailed (s : State) (p : Nat) (t : Txn) : State × Option CmdEnd :=
  let s := s.trailing p
  let s := if t.silent && t.op != opAssign && t.op != opPing then s.checkDue p t.pos else s
  (s, some { txn := t, kind := .failed, snap := 0 })

/-- A failed attempt is repeated at once, up to RETRIES times, with its hold again: for the limit of R194 it is a command
of its own (R215). -/
def State.tryFailed (s : State) (p : Nat) (t : Txn) : State × Option CmdEnd :=
  let x := s.port p
  if x.profile.retries ≤ t.tries then s.cmdFailed p t
  else
    let s := s.trailing p
    let s := s.setPort p { s.port p with retries := satInc (s.port p).retries }
    (s.launch p { t with tries := t.tries + 1, holdUsed := if t.finish then t.holdUsed - t.holdUs else 0 }, none)

/-! ## Tag frames (R218–R224) -/

/-- One delivered Sprinkle bit (R223). -/
def State.sprinkleBit (s : State) (p i : Nat) (b : Bool) : State :=
  let x := s.pos p i
  let rx := sprinkleHunt (x.sprinkle ++ [b])
  if !sprinkleWhole rx then s.setPos p i { x with sprinkle := rx }
  else
    let s := s.setPos p i { x with sprinkle := [] }
    let drop (s : State) : State := s.setPort p { s.port p with sprDrops := satInc (s.port p).sprDrops }
    let n := sprinkleLen rx
    if natOfBits (rx.drop (16 + 8 * n)) ≠ (crc16 (rx.take (16 + 8 * n))).toNat then drop s
    else
      let prio : Byte := if rx.getD 3 false then 1 else 0
      let r := s.route 1 ([BitVec.ofNat 8 p, BitVec.ofNat 8 i, BitVec.ofNat 8 (natOfBits ((rx.drop 10).take 6)), prio,
        BitVec.ofNat 8 x.verdict, BitVec.ofNat 8 n, 0, 0] ++ octetsMsb n (rx.drop 16))
      if r.2 then r.1.setPort p { r.1.port p with sprMsgs := satInc (r.1.port p).sprMsgs } else drop r.1

/-- A Crumb of a valid frame (R218): ALERT makes a priority collection due, once. -/
def State.crumb (s : State) (p i : Nat) (c : BitVec 4) : State :=
  let x := s.port p
  let v := x.at i
  let prio := if c.getLsbD 1 && v.prioAt.isNone && !(x.jobs.any fun j => j.kind == jobPrio && j.pos == i)
    then some s.tick.toNat else v.prioAt
  let x := { x with powerLow := if c.getLsbD 2 then satInc x.powerLow else x.powerLow, mute := setBit x.mute (i - 1) false }
  s.setPort p (x.setPos i { v with lastCrumb := c, prioAt := prio })

/-- An answer is accepted: parity, HIST and SNAP, and the Sprinkle bit (R219–R221). ASSIGN and KEY_AGREE answers do not
count. -/
def State.accept (s : State) (p : Nat) (t : Txn) (f : TagFrame) : State :=
  if t.op = opAssign ∨ t.op = opKeyAgree then s
  else
    let x := s.pos p t.pos
    let hist (h : TagSession) : TagSession :=
      let n := (h.hist <<< 4) + f.crumb.zeroExtend 32
      { h with hist := n, snap := if t.op = opChallenge then n else h.snap }
    (s.setPos p t.pos { x with parity := !x.parity, session := x.session.map hist }).sprinkleBit p t.pos f.sprinkle

/-- A valid frame (R214–R216). -/
def State.validFrame (s : State) (p : Nat) (t : Txn) (f : TagFrame) : State × Option CmdEnd :=
  let snap := match (s.pos p t.pos).session with | none => 0 | some h => h.snap
  let s := s.crumb p t.pos f.crumb
  let t := { t with silent := false }
  let err : Bool := f.tstat != 0 && f.tstat != 1
  let s := if err then s.setPort p { s.port p with tstatErr := satInc (s.port p).tstatErr } else s
  if f.tstat = 0x15 then s.tryFailed p t
  else
    let s := s.accept p t f
    if f.tstat = 0 then (s.trailing p, some { txn := t, kind := .ok f.payload, snap := snap })
    else if f.tstat = 1 then
      let rest := (s.port p).spuLimitUs - t.holdUsed
      if rest = 0 then s.cmdFailed p t
      else
        let s := s.trailing p
        (s.setPort p { s.port p with
          txn := some { t with finish := true, due := true, holdUs := rest, tries := 0 } }, none)
    else (s.trailing p, some
      { txn := t, kind := if f.tstat = 0x10 ∨ f.tstat = 0x11 ∨ f.tstat = 0x12 then .lost else .error, snap := snap })

/-- The transaction of a port waits for its answer. -/
def State.awaiting (s : State) (p : Nat) : Option Txn :=
  let x := s.port p
  match x.txn with
  | none => none
  | some t => if t.holding || t.due || x.spuWait.isSome || t.op == opTrim then none else some t

/-- A tag frame is received (R179, R210). -/
def State.receive (s : State) (p : Nat) (f : RxFrame) : State × Option CmdEnd :=
  match s.awaiting p with
  | none => (s, none)
  | some t =>
    let x := s.port p
    let s := s.setPort p { x with erasures := satAdd x.erasures f.erasures, contention := satAdd x.contention f.contention }
    let t := { t with silent := false }
    if f.erasures ≠ 0 then s.tryFailed p t
    else match parseTagFrame t.pos t.op f.bits with
      | none => (s.setPort p { s.port p with crcerr := satInc (s.port p).crcerr }).tryFailed p t
      | some g => s.validFrame p t g

/-- No sync slot where the answer is due (R182); slots of the attempt may have been low at the end of a recharge
interval. -/
def State.noAnswer (s : State) (l : LineSlots) : State × Option CmdEnd :=
  match s.awaiting l.port with
  | none => (s, none)
  | some t =>
    let x := s.port l.port
    (s.setPort l.port { x with
      noanswer := satInc x.noanswer, contention := satAdd x.contention l.contention }).tryFailed l.port t

/-- The strong pull-up interval ends at its hold time (R194); on a stopped port it has run to its end (R202). -/
def State.holdEnd (s : State) (p : Nat) : State :=
  let x := s.port p
  match x.txn with
  | some t =>
    if t.holding then s.setPort p { x with
      spuOn := false, txn := some { t with holding := false, holdUsed := t.holdUsed + t.holdUs } }
    else s
  | none => s.setPort p { x with spuOn := false, spuPlace := false }

/-- A waiting port receives its place and its transaction starts (R195): places go in the order of the requests. -/
def State.grantPlace (s : State) (p : Nat) : State :=
  let x := s.port p
  match x.txn, x.spuWait with
  | some t, some n =>
    let first : Bool := s.ports.all fun e => e.1 / 16 != p / 16 || e.1 == p
      || (match e.2.spuWait with | none => true | some m => decide (n < m ∨ (n = m ∧ p < e.1)))
    if s.spuUsed p < 4 ∧ first = true then
      (s.setPort p { x with spuWait := none, spuPlace := true }).sendTry p t
    else s
  | _, _ => s

/-- The line stays below 2.5 V under the strong pull-up (R196). -/
def State.spuShort (s : State) (p : Nat) : State × Option CmdEnd :=
  match (s.port p).txn with
  | none => (s, none)
  | some t =>
    if t.holding then
      ((s.trailing p).portEvent p evSpuShort, some { txn := t, kind := .short, snap := 0 })
    else (s, none)

/-! ## Reset and enumeration (R184–R188) -/

/-- A presence pulse that a reset or a probe accepts. -/
def presAccepted (x : Presence) : Bool :=
  decide (12 ≤ x.fallUs) && decide (x.fallUs ≤ 50) && decide (25 ≤ x.widthUs) && decide (x.widthUs ≤ 100)

/-- A presence pulse that an extension window accepts. -/
def presExtends (x : Presence) : Bool :=
  decide (150 ≤ x.fallUs) && decide (x.fallUs ≤ 1800) && decide (25 ≤ x.widthUs) && decide (x.widthUs ≤ 100)

/-- PLT_PRES_MEAS (R206). -/
def State.measure (s : State) (p : Nat) (x : Presence) : State :=
  s.setPort p { s.port p with presFall := x.fallUs, presWidth := x.widthUs }

/-- A position as a reset sequence leaves it: no session, no record mapped (R236, R335). -/
def Pos.reset (x : Pos) : Pos :=
  { x with session := none, record := none, tagId := none, auth := none, authAt := none, prioAt := none, catchupAt := none
           sprinkle := [] }

/-- A reset sequence begins (R236, R335, R412): every position UNVERIFIED, the port's jobs and series cleared. -/
def State.resetBegins (s : State) (p : Nat) : State :=
  let s := s.squashPort p .identity
  let s := (List.range 32).foldl (fun s k =>
    let s := s.unpin (posCtx p (k + 1))
    let s := s.setPos p (k + 1) (s.pos p (k + 1)).reset
    s.setVerdict p (k + 1) 1 (s.pos p (k + 1)).reason) s
  s.setPort p { s.port p with
    jobs := [], hostq := [], check := none, checkq := [], probeAt := none, collectAt := none, uprobe := false
    probeReq := false, reenumRuns := (s.port p).reenum, txn := none, spuWait := none, spuOn := false, spuPlace := false, trimSent := false, fault := 0 }

/-- The reset low, after a charge period where one is due, and the presence window. -/
def State.driveReset (s : State) (p : Nat) : State :=
  (s.setPort p { s.port p with state := .reset, resetDue := false, charge := false, window := .presence false }).emit
    (.plaitLow p 300)

/-- Enumeration ends with a chain of `n` positions (R188, R236): each is UNVERIFIED with an authentication due, but that
FAILED holds until a reset sequence (assumption log 23); those above are EMPTY. Probes begin one period on; a collection
series that runs goes on (R190, R392). REENUM is done with the enumeration it asked for (R205). -/
def State.enumEnd (s : State) (p n : Nat) : State :=
  let first := (s.port p).enumFirst
  let now := s.tick.toNat
  let s := (List.range 32).foldl (fun s k =>
    let i := k + 1
    if i < first ∧ (s.pos p i).verdict = 3 then s
    else if i ≤ n then (s.setVerdict p i 1 0).authDue p i now
    else s.emptyPos p i) s
  let x := s.port p
  let live : BitVec 32 := BitVec.ofNat 32 (2 ^ n - 1)
  let s := if s.unitIs p .rejoining then s.setUnit p unitActive else s
  s.setPort p { x with
    state := .running, chainLen := n, present := live, mute := x.mute &&& live, expect := false, window := .none
    reenum := x.reenum && !x.reenumRuns, reenumRuns := false
    probeAt := some (now + x.profile.probeMs * 1000)
    collectAt := match x.collectAt with | none => some (now + x.profile.sprinkleMs * 1000) | some t => some t }

/-- Enumeration begins at a position. Meanwhile every position is UNVERIFIED (R188), a FAILED one apart. -/
def State.enumBegin (s : State) (p i : Nat) : State :=
  let s := (List.range (i - 1)).foldl (fun s k =>
    if (s.pos p (k + 1)).verdict = 2 then s.setVerdict p (k + 1) 1 (s.pos p (k + 1)).reason else s) s
  s.setPort p { s.port p with state := .enumerate, enumPos := i, enumFirst := i, expect := true, window := .none }

/-- A probe has found a tag (R189): enumeration begins behind the chain, unless the chain is full: the extra tag is never
assigned (R187; assumption log 101). -/
def State.probeFound (s : State) (p : Nat) (y : Presence) : State :=
  let s := (s.measure p y).portEvent p evInserted
  let x := s.port p
  if x.chainLen < x.profile.maxPos then s.enumBegin p (x.chainLen + 1) else s.portEvent p evOverflow

/-- A port enters FAULT (R200). The answer's second part: the transaction that was ended. -/
def State.lineFault (s : State) (p : Nat) (low : Bool) : State × Option CmdEnd :=
  let x := s.port p
  let t := if x.spuWait.isSome then none else x.txn
  let s := (List.range 32).foldl (fun s k =>
    let y := s.pos p (k + 1)
    (s.unpin (posCtx p (k + 1))).setPos p (k + 1) { y with auth := none, beatBusy := false }) (s.squashPort p .identity)
  let s := s.setPort p { s.port p with
    state := .fault, fault := if low then 1 else 2, txn := none, check := none, checkq := [], jobs := [], hostq := [], window := .none
    spuOn := false, spuWait := none, spuPlace := false, present := 0, mute := 0, chainLen := 0, expect := false
    trimSent := false, reenum := false, reenumRuns := false, probeReq := false, uprobe := false }
  (((s.portEvent p (if low then evLineLow else evLineHigh)).raise .plaitFault),
    match t with | none => none | some t => some { txn := t, kind := .failed, snap := 0 })

/-- The presence window of a reset or a probe closes (R184, R189). -/
def State.presenceClose (s : State) (p : Nat) (pulse : Option Presence) (low : Bool) : State × Option CmdEnd :=
  let x := s.port p
  match x.window with
  | .presence probe =>
    if low then s.lineFault p true
    else
      let found : Option Presence := match pulse with
        | none => none
        | some y => if presAccepted y then some y else none
      if probe then
        let s := s.retireJob p jobProbe 0
        let s := s.setPort p { s.port p with
          window := .none, trimSent := false, uprobe := false, probeReq := false
          probeAt := some (s.tick.toNat + x.profile.probeMs * 1000) }
        match found with
        | none => (s, none)
        | some y => (s.probeFound p y, none)
      else match found with
        | none => ((s.setPort p { x with enumFirst := 1 }).enumEnd p 0, none)
        | some y => ((s.measure p y).enumBegin p 1, none)
  | _ => (s, none)

/-- ASSIGN has ended (R186, R187, R219). -/
def State.assigned (s : State) (p : Nat) (t : Txn) (payload : Option Bytes) : State :=
  match payload with
  | none => (s.portEvent p evEnumMute).enumEnd p (t.pos - 1)
  | some bs =>
    let caps := leAt bs 0 1
    let x := s.pos p t.pos
    let s := s.setPos p t.pos { x with
      parity := false, session := none, sprinkle := [], brisk := caps.testBit 0, counter := caps.testBit 1
      classId := leAt bs 1 1 }
    s.setPort p { s.port p with window := .extension }

/-- A presence pulse in the extension window (R186, R187). -/
def State.extPresence (s : State) (p : Nat) (y : Presence) : State :=
  let x := s.port p
  if x.window = .extension ∧ presExtends y = true then
    let s := s.measure p y
    if x.enumPos < x.profile.maxPos then
      s.setPort p { s.port p with window := .none, enumPos := x.enumPos + 1, expect := true }
    else (s.portEvent p evOverflow).enumEnd p x.enumPos
  else s

/-- The extension window ends without a presence (R186). -/
def State.extExpire (s : State) (p : Nat) : State :=
  let x := s.port p
  if x.window = .extension then s.enumEnd p x.enumPos else s

/-! ## Chain checks (R193) -/

/-- A chain check ends: MUTE and ABSENT positions, CHAIN_LEN, and a probe next; a collection round under way goes on
without them (R224). -/
def State.checkEnd (s : State) (p : Nat) (c : ChainCheck) : State :=
  let x := s.port p
  let h := c.answered.foldl max (c.pos - 1)
  let range (a b : Nat) : List Nat := (List.range (b + 1 - a)).map (a + ·)
  let mute := (range c.pos h).foldl (fun m i => if c.answered.contains i then m else setBit m (i - 1) true) x.mute
  let gone := range (h + 1) x.chainLen
  let s := gone.foldl (fun s i => (s.unpin (posCtx p i)).emptyPos p i) s
  let live : BitVec 32 := BitVec.ofNat 32 (2 ^ h - 1)
  let x := s.port p
  let left (i : Nat) : Bool := decide (i ≤ h) && !mute.getLsbD (i - 1)
  let jobs := x.jobs.map fun j => { j with todo := j.todo.filter left }
  let due := x.checkq.filter fun i => decide (i ≤ h)
  let s := s.setPort p { x with
    check := due.head?.map checkNew, checkq := due.drop 1
    mute := mute &&& live, present := x.present &&& live, chainLen := h
    jobs := jobs.filter fun j => j.kind != jobCollect || j.todo != []
    uprobe := x.uprobe || decide (gone ≠ []) }
  if gone = [] then s else s.portEvent p evRemoved

/-- A PING of a chain check has ended. -/
def State.pinged (s : State) (p : Nat) (t : Txn) (ok : Bool) : State :=
  let x := s.port p
  match x.check with
  | none => s
  | some c =>
    s.setPort p { x with check := some { c with
        next := t.pos + 1, answered := if ok then c.answered ++ [t.pos] else c.answered } }

/-- Chain checks that have no position left to ping end (R193); each end may make the next one due. -/
def State.closeChecks (p : Nat) : Nat → State → State
  | 0, s => s
  | n + 1, s =>
    match (s.port p).check with
    | none => s
    | some c => if (s.port p).chainLen < c.next then State.closeChecks p n (s.checkEnd p c) else s

end Sys2Proof.Machine
end

