-- ==== Sys2Proof/Machine/Auth.lean ====
section
/-! DEFINITION. A full authentication (R226, R227) and the binding of its record (R335, R336): its steps, the ECC engines
that work for it (R386, R387), and how it ends. -/

namespace Sys2Proof.Machine

/-! ## Pages that work needs (R343, R344) -/

/-- What has become of a page that work needs. -/
inductive PageState where
  | ready
  | waiting
  | poisoned
deriving DecidableEq, Repr

/-- A page is needed by a context: a cached one is pinned, one never written is there at once, any other is fetched. -/
def State.needPage (s : State) (page ctx : Nat) : State × PageState :=
  if s.poisoned page then (s, .poisoned)
  else if s.cached page then (s.pin page ctx, .ready)
  else if tabGet 0 s.ldr.versions page = 0 ∧ s.frameFree = true then ((s.install page).pin page ctx, .ready)
  else (s.wantPage page, .waiting)

/-- Every page of a list is needed by a context: the state of the first that is not there. -/
def State.needPages (ctx : Nat) : List Nat → State → State × PageState
  | [], s => (s, .ready)
  | p :: ps, s =>
    let r := s.needPage p ctx
    if r.2 = .ready then State.needPages ctx ps r.1 else r

/-- A request waits for the counter unit (R295). -/
def State.ask (s : State) (owner : CommitOwner) (typ cause id value : Nat) : State :=
  s.arrive
    { owner := owner, typ := typ, cause := cause, id := id, value := value, plusOne := false, base := 0, serial := 0
      accepted := false, tag := none }

/-! ## The authentication of a position -/

def State.auth (s : State) (p i : Nat) : Option Auth := (s.pos p i).auth

def State.setAuth (s : State) (p i : Nat) (a : Option Auth) : State := s.setPos p i { s.pos p i with auth := a }

/-- An authentication as it begins: with chunk 0 of the certificate. -/
def authNew (owner : Owner) : Auth :=
  { owner := owner, stage := .cert 0, cert := [], epub := 0, z := 0, priv := none, key := 0, count := 0, unit := none
    begun := false, binding := 0 }

/-- The authentication waits for a transaction on its port. -/
def AuthStage.onWire : AuthStage → Bool
  | .cert _ => true
  | .agree => true
  | .issuer => false
  | .verify => false
  | .bind => false
  | .bindCommit => false
  | .bindRound => false
  | .keys => false
  | .adopt => false

/-- A host's authentication waits in its port's queue for its next transaction. -/
def State.queueHost (s : State) (p : Nat) (o : Owner) : State :=
  match o with
  | .host ctx =>
    let x := s.port p
    s.setPort p { x with hostq := insertNew x.hostq ctx }
  | _ => s

/-- The authentication goes to its next stage. -/
def State.authTo (s : State) (p i : Nat) (a : Auth) (st : AuthStage) : State :=
  let s := s.setAuth p i (some { a with stage := st, unit := none })
  if st.onWire then s.queueHost p a.owner else s

/-- Takes an operation out of its port's queue. -/
def State.unqueue (s : State) (p ctx : Nat) : State :=
  let x := s.port p
  s.setPort p { x with hostq := x.hostq.filter (· != ctx) }

/-- A host's authentication waits no longer for its port. -/
def State.unqueueOwner (s : State) (p : Nat) (o : Owner) : State :=
  match o with
  | .host ctx => s.unqueue p ctx
  | _ => s

/-- The authentication ends: its pages are unpinned and its job retires. -/
def State.authStop (s : State) (p i : Nat) : State :=
  ((s.unpin (posCtx p i)).setAuth p i none).dropJobs p fun j => j.kind == jobAuth && j.pos == i

/-- The VERIFY that asked for it completes. -/
def State.authReply (s : State) (o : Owner) (st : Status) : State :=
  match o with
  | .host ctx => s.endPortOp ctx st
  | _ => s

/-- It ends VERIFIED (R227 step 5, R309, R333). -/
def State.authVerified (s : State) (p i : Nat) (a : Auth) (adopted : Bool) : State :=
  let s := match (s.pos p i).record with
    | none => s
    | some n =>
      let r := s.record n
      s.putRecord n { r with authCount := satInc r.authCount }
  let s := (s.authStop p i).setVerdict p i 2 0
  let s := s.setPos p i { s.pos p i with authAt := none }
  s.authReply a.owner (if adopted then .adoptedHigher else .ok)

/-- It ends FAILED, with its reason. -/
def State.authFailed (s : State) (p i : Nat) (a : Auth) (reason : Nat) : State :=
  ((s.authStop p i).setVerdict p i 3 reason).authReply a.owner .notGenuine

/-- It ends UNVERIFIED and runs again one beat period later (R232, R308, R336, R350). -/
def State.authAgain (s : State) (p i : Nat) (a : Auth) (reason : Nat) : State :=
  let s := (s.authStop p i).setVerdict p i 1 reason
  (s.authDue p i (s.tick.toNat + s.beatPeriod p i)).authReply a.owner .retryLater

/-- It ends with no valid answer: UNVERIFIED, MISSES + 1, and again one beat period later (R227). -/
def State.authSilent (s : State) (p i : Nat) (a : Auth) : State :=
  let x := s.pos p i
  let s := s.setPos p i { x with misses := min 15 (x.misses + 1) }
  let s := ((s.dropSession p i).authStop p i).setVerdict p i 1 x.reason
  (s.authDue p i (s.tick.toNat + s.beatPeriod p i)).authReply a.owner .tagError

/-- Its command meets a short under the strong pull-up (R196): it ends TAG_ERROR, and neither verdict nor misses change; a
position that still needs it has it again one beat period later (assumption log 102). -/
def State.authShort (s : State) (p i : Nat) (a : Auth) : State :=
  ((s.authStop p i).authDue p i (s.tick.toNat + s.beatPeriod p i)).authReply a.owner .tagError

/-- A host's authentication is given up without an outcome; one the position still needs is due again. -/
def State.authDropped (s : State) (p i : Nat) (a : Auth) (st : Status) : State :=
  let s := s.authStop p i
  let x := s.pos p i
  let s := if x.verdict = 1 ∧ x.authAt = none then s.authDue p i s.tick.toNat else s
  s.authReply a.owner st

/-- A VERIFY past its deadline. -/
def State.ownerLate (s : State) (o : Owner) : Bool :=
  match o with
  | .host ctx => match s.op ctx with
    | none => false
    | some x => !x.pastPoint && s.isLate x.desc
  | _ => false

/-! ## Steps 1 and 2 (R226, R227, R335) -/

/-- Step 2: SESSION_EPOCH is incremented, the point of no return of VERIFY MODE 0. -/
def State.authEpoch (s : State) (p i : Nat) (a : Auth) : State :=
  if s.ownerLate a.owner then s.authDropped p i a .late
  else match (s.pos p i).record with
    | none => s.authAgain p i a (s.pos p i).reason
    | some n =>
      let r := s.record n
      let s := s.squashBeat p i .epoch
      let s := s.putRecord n { r with epoch := r.epoch + 1 }
      let s := match a.owner with
        | .host ctx => match s.op ctx with
          | none => s
          | some o => s.setOp { o with pastPoint := true }
        | _ => s
      s.authTo p i { a with priv := none } .keys

/-- A binding that cannot complete: the record is FREE, or ORPHAN when its counter is not at 0/0 (R336, R337). -/
def State.bindFailed (s : State) (p i n : Nat) (a : Auth) : State :=
  let s := (s.freeRecord n).orphan n
  s.authAgain p i a (s.pos p i).reason

/-- The index entry is inserted and the round of a binding requested (R335). -/
def State.bindRound (s : State) (p i n : Nat) (a : Auth) : State :=
  let tagId := certTagId a.cert
  if s.spw.early || s.poisoned (indexPageOf tagId) || s.poisoned (recordPage n) then s.bindFailed p i n a
  else
    let s := { s with ldr := { s.ldr with
      index := s.ldr.index ++ [(tagId, n)], needs := s.ldr.needs ++ [Need.bind p i n] } }
    (s.touchPage (indexPageOf tagId)).authTo p i a .bindRound

/-- The record of a TAG_ID never seen is allocated and written; a class with a counter has its LIMIT committed. -/
def State.bindNew (s : State) (p i : Nat) (a : Auth) : State :=
  match s.allocate with
  | none => ({ s with ldr := { s.ldr with full := true } }).authAgain p i a (s.pos p i).reason
  | some n =>
    let s := { s with ldr := { s.ldr with full := false } }
    let r := s.needPage (recordPage n) (posCtx p i)
    match r.2 with
    | .poisoned => r.1.authAgain p i a (s.pos p i).reason
    | .waiting => r.1.authTo p i a .bind
    | .ready =>
      let s := r.1
      let c := a.cert
      let s := s.putRecord n { recordFree with
        state := 1, classId := certClass c, caps := BitVec.ofNat 8 (certFlags c), issuer := certIssuer c
        tagId := certTagId c, vendor := certVendor c, tagPub := certTagPub c }
      let limit := match s.accClass (certClass c) with | none => 0 | some k => k.defaultLimit
      if s.counterClass (certClass c) = 0 then s.bindRound p i n a
      else
        (s.ask (.bind p i n) 2 3 n limit).authTo p i { a with binding := n } .bindCommit

/-- The position's record is resolved (R335), as far as the pages that are there allow. -/
def State.authBind (s : State) (p i : Nat) (a : Auth) : State :=
  if !s.ldr.isOpen then s.authAgain p i a (s.pos p i).reason
  else
    let tagId := certTagId a.cert
    let r := s.needPage (indexPageOf tagId) (posCtx p i)
    match r.2 with
    | .poisoned => r.1.authAgain p i a (s.pos p i).reason
    | .waiting => r.1.authTo p i a .bind
    | .ready =>
      match r.1.indexFind tagId with
      | none => r.1.bindNew p i a
      | some n =>
        let q := r.1.needPage (recordPage n) (posCtx p i)
        match q.2 with
        | .poisoned => q.1.authAgain p i a (s.pos p i).reason
        | .waiting => q.1.authTo p i a .bind
        | .ready =>
          if (q.1.record n).classId ≠ certClass a.cert then q.1.authFailed p i a 2
          else (q.1.mapRecord p i n tagId).authEpoch p i a

/-- The commit of a binding's LIMIT entry has ended. Where the authentication was cut meanwhile, the record is FREE, or
ORPHAN (R336, R337). -/
def State.bindCommitted (s : State) (p i n : Nat) (ok : Bool) : State :=
  let cut (s : State) : State := (s.freeRecord n).orphan n
  match s.auth p i with
  | none => cut s
  | some a =>
    if a.stage ≠ .bindCommit ∨ a.binding ≠ n then cut s
    else if ok then s.bindRound p i n a else s.bindFailed p i n a

/-- The round of a binding has ended. -/
def State.bindEnded (s : State) (p i n : Nat) (ok : Bool) : State :=
  let back (s : State) : State := ((s.dropIndex (s.record n).tagId).freeRecord n).orphan n
  match s.auth p i with
  | none => if ok then s else back s
  | some a =>
    if a.stage ≠ .bindRound then (if ok then s else back s)
    else if ok then (s.mapRecord p i n (certTagId a.cert)).authEpoch p i a
    else (back s).authAgain p i a (s.pos p i).reason

/-- Bindings that wait for their round are withdrawn when EARLY_WARNING rises: it cannot begin (R336, R348). -/
def State.withdrawBinds (s : State) : State :=
  let binds := s.ldr.needs.filter fun n => match n with | .bind _ _ _ => true | _ => false
  let s := { s with ldr := { s.ldr with needs := s.ldr.needs.filter fun n => !binds.contains n } }
  binds.foldl (fun s n => match n with | .bind p i r => s.bindEnded p i r false | _ => s) s

/-- Check 4: the issuer, from the pages of the issuer table. A POISONED page leaves the position UNVERIFIED. -/
def State.certIssued (s : State) (p i : Nat) (a : Auth) : State :=
  let r := State.needPages (posCtx p i) issuerPages s
  match r.2 with
  | .poisoned => r.1.authAgain p i a (s.pos p i).reason
  | .waiting => r.1.authTo p i a .issuer
  | .ready => match r.1.issuerKey (certIssuer a.cert) with
    | none => r.1.authFailed p i a 3
    | some e => r.1.authTo p i { a with key := e.key } .verify

/-- The certificate has been read (R226). -/
def State.certRead (s : State) (p i : Nat) (a : Auth) : State :=
  let x := s.pos p i
  match s.certEarly (x.brisk.toNat + 2 * x.counter.toNat) a.cert with
  | some reason => s.authFailed p i a reason
  | none => s.certIssued p i a

/-- An ECC engine has checked the certificate. The duplicate of R232 is judged as soon as TAG_ID is known. -/
def State.certChecked (s : State) (p i : Nat) (a : Auth) : State :=
  match certLate (s.port p).profile.spuLimitMs a.key a.cert with
  | some reason => s.authFailed p i a reason
  | none =>
    if s.duplicate p i (certTagId a.cert) then s.authAgain p i a 10
    else s.authBind p i a

/-! ## Steps 3 to 5 (R227–R229, R307) -/

/-- The count a tag reports at its authentication (R307). -/
def State.authReconcile (s : State) (p i : Nat) (a : Auth) (count : Nat) : State :=
  let x := s.pos p i
  match x.record, s.accClass x.classId with
  | some n, some c =>
    if c.counterClass = 0 ∨ count = s.count n then s.authVerified p i a false
    else if count < s.count n then
      let s := s.authVerified p i a false
      s.setPos p i { s.pos p i with catchupDue := true, catchupAt := some s.tick.toNat }
    else if c.multiHost || s.recovering n then
      (s.ask (.adopt p i) 1 3 n count).authTo p i a .adopt
    else s.authFailed p i a 9
  | _, _ => s.authVerified p i a false

/-- The answer to KEY_AGREE: KC and COUNT. -/
def State.keyAgreed (s : State) (p i : Nat) (a : Auth) (payload : Bytes) : State :=
  let epoch := match (s.pos p i).record with | none => 0 | some n => (s.record n).epoch
  let tagId := certTagId a.cert
  let k := s.sessionKeys a.z tagId epoch
  let ktb : BitVec 128 := k.truncate 128
  let count := beAt payload 0 6
  let a := { a with count := count }
  let s := match a.owner with
    | .host ctx => match s.op ctx with
      | none => s
      | some o => s.setOp { o with count := count }
    | _ => s
  if slice payload 6 8 ≠ macKc ktb epoch tagId count a.epub then s.authFailed p i a 7
  else if s.duplicate p i tagId then s.authAgain p i a 10
  else
    let s := s.setPos p i { s.pos p i with
      session := some { kbt := (k >>> 128).truncate 128, ktb := ktb, epoch := epoch, mseq := 0, hist := 0, snap := 0 }
      misses := 0, classId := certClass a.cert, nvHold := certNvHold a.cert }
    s.authReconcile p i a count

/-- The command of an authentication has ended. -/
def State.authCmd (s : State) (p i : Nat) (kind : CmdKind) : State :=
  match s.auth p i with
  | none => s
  | some a =>
    match kind, a.stage with
    | .ok bs, .cert k =>
      let a := { a with cert := a.cert ++ bs }
      if k < 4 then s.authTo p i a (.cert (k + 1)) else s.certRead p i a
    | .ok bs, .agree => s.keyAgreed p i a bs
    | .lost, _ => ((s.authStop p i).loseSession p i).authReply a.owner .retryLater
    | .short, _ => s.authShort p i a
    | _, _ => s.authSilent p i a

/-- It ends VERIFIED, unless its TAG_ID has become VERIFIED at another position meanwhile (R232). -/
def State.authAccept (s : State) (p i : Nat) (a : Auth) (adopted : Bool) : State :=
  if s.duplicate p i (certTagId a.cert) then (s.dropSession p i).authAgain p i a 10 else s.authVerified p i a adopted

/-- The ADOPT entry of an authentication has ended (R308, R309). -/
def State.authAdopted (s : State) (p i : Nat) (a : Auth) (ok : Bool) : State :=
  if ok then s.authAccept p i a true
  else (s.dropSession p i).authAgain p i a (s.pos p i).reason

/-- The count a tag reports at a beat (R307, R308). -/
def State.beatReconcile (s : State) (p i count : Nat) : State :=
  let x := s.pos p i
  match x.record, s.accClass x.classId with
  | some n, some c =>
    if c.counterClass = 0 ∨ count = s.count n then s
    else if count < s.count n then
      if x.catchupDue then s
      else s.setPos p i { x with catchupDue := true, catchupAt := some s.tick.toNat }
    else if c.multiHost || s.recovering n then
      if x.adoptWait.isSome then s
      else (s.setPos p i { x with adoptWait := some count }).ask (.adopt p i) 1 3 n count
    else match s.auth p i with
      | none => s.setVerdict p i 3 9
      | some a => (s.unqueueOwner p a.owner).authFailed p i a 9
  | _, _ => s

/-! ## ECC engines (R386, R387, R390) -/

/-- The order of an authentication among the work of ECC engines: earliest effective deadline, host before beat work, then
the lower queue or port number. -/
def State.engineKey (s : State) (p i : Nat) (a : Auth) : Nat :=
  match a.owner with
  | .host ctx => match s.op ctx with
    | none => 0
    | some o => (o.eff * 2) * 65536 + o.q
  | _ =>
    let d := match (s.port p).jobs.find? fun j => j.kind == jobAuth && j.pos == i with | none => 0 | some j => j.deadline
    (d * 2 + 1) * 65536 + 32 * p + i

/-- Engines an authentication may use: a host's, of its queue's affinity set. -/
def State.engineSet (s : State) (a : Auth) : BitVec 16 :=
  match a.owner with
  | .host ctx => match s.op ctx with
    | none => 0
    | some o => s.affinity o.q
  | _ => 0

/-- An authentication waits for an engine. -/
def Auth.wantsEngine (a : Auth) : Bool := a.unit.isNone && (a.stage == .verify || (a.stage == .keys && a.priv.isSome))

/-- An ephemeral private key is drawn from Proofer output, where there is enough (R227 step 2, R278). -/
def State.drawKey (s : State) (p i : Nat) (a : Auth) : State :=
  match s.draw 32 with
  | none => s
  | some (bs, t) => t.setAuth p i (some { a with priv := some (BitVec.ofNat 256 (beNat bs)) })

/-- Host work for which no engine of its set is ACTIVE (R387): before the point of no return RETRY_LATER; after it, it
waits while one is on its way back, and else completes CANCELLED. -/
def State.hostEngine (s : State) (p i : Nat) (a : Auth) : State :=
  match a.owner with
  | .host ctx => match s.op ctx with
    | none => s
    | some o =>
      if s.engineActive eccUnits (s.affinity o.q) then s
      else if !o.pastPoint then s.authDropped p i a .retryLater
      else if s.engineReturning eccUnits (s.affinity o.q) then s
      else s.authDropped p i a .cancelled
  | _ => s

/-- An authentication gets its engine. -/
def State.assignAuth (s : State) (p i : Nat) (a : Auth) : State :=
  if s.ownerLate a.owner then s.authDropped p i a .late
  else s.setAuth p i (some { a with unit := s.idleEcc (s.engineSet a) })

/-- An ECC engine delivers its result to the authentication it works for: the certificate's checks, or EPUB and Z of the
ephemeral key (R227 step 2). -/
def State.engineResult (s : State) (u : Nat) (res : EngineResult) : State :=
  match s.auths.find? fun e => e.2.2.unit == some u with
  | none => s
  | some (p, i, a) =>
    match a.stage, a.priv, res with
    | .verify, _, .done => s.certChecked p i { a with unit := none }
    | .keys, some k, .done =>
      s.authTo p i { a with z := Config.ecdh k (certTagPub a.cert), epub := Config.publicKey k } .agree
    | _, _, _ => s

/-- An ECC engine leaves service with work it had not delivered (R390). A beat job's authentication is released again one
class beat period later. -/
def State.engineLost (s : State) (u : Nat) : State :=
  match s.auths.find? fun e => e.2.2.unit == some u with
  | none => s
  | some (p, i, a) =>
    match a.owner with
    | .host ctx => s.authDropped p i a (match s.op ctx with
      | none => .retryLater
      | some o => if o.pastPoint then .cancelled else .retryLater)
    | _ => (s.authStop p i).authDue p i (s.tick.toNat + s.beatPeriod p i)

end Sys2Proof.Machine
end

