-- ==== Sys2Proof/Machine/Glaze.lean ====
section
/-! DEFINITION. The Glaze port (R422–R446): its wire format and LED outputs (R425, R427, R429), what it sends, its handshake (R435), its session and requests (R436–R439),
credit tokens (R440, R441), and the commit as far as the Larder and the counter unit do not answer (R442). -/

namespace Sys2Proof.Machine

/-! ## The port -/

/-- GLZ_STAT.STATE follows what is in progress (R445). -/
def State.glzFix (s : State) : State :=
  { s with glz := { s.glz with
      state := if s.glz.state = 0 then 0 else if s.glz.commit.isSome then 4 else if s.glz.hand.isSome then 2
        else if s.glz.session.isSome then 3 else 1 } }

/-- The receiver hears a frame: the port is on, not blind, and not transmitting (R424, R432). -/
def State.glzHears (s : State) : Bool := s.glz.state != 0 && !s.glz.blind && !s.glz.sending

/-! ## The wire (R425, R427, R429) -/

def sirBof : Byte := 0xC0
def sirEof : Byte := 0xC1
def sirEsc : Byte := 0x7D

/-- The frame check sequence over unescaped content. -/
def sirFcs (content : Bytes) : BitVec 16 :=
  ~~~((crcBits 0x1021#16 (BitVec.allOnes 16) (bitsLsb content)).reverse)

/-- Escapes content and FCS. -/
def sirEscape (bs : Bytes) : Bytes :=
  bs.flatMap fun b => if b = sirBof ∨ b = sirEof ∨ b = sirEsc then [sirEsc, b ^^^ 0x20] else [b]

/-- A frame: one BOF, the escaped content, the FCS low byte first, and EOF. -/
def sirFrame (content : Bytes) : Bytes :=
  sirBof :: (sirEscape (content ++ leBytes 2 (sirFcs content).toNat) ++ [sirEof])

/-- The bytes before EOF without their escapes; none: no EOF, or the abort sequence 0x7D 0xC1. -/
def sirUnescape : Bytes → Option Bytes
  | [] => none
  | [b] => if b = sirEof then some [] else none
  | b :: c :: bs =>
    if b = sirEof then some []
    else if b = sirEsc then
      (if c = sirEof then none else (sirUnescape bs).map ((c ^^^ 0x20) :: ·))
    else (sirUnescape (c :: bs)).map (b :: ·)

/-- The content of a received frame; none: the frame is discarded. 0xFF bytes and repeated BOFs before the content are
ignored. -/
def sirContent (wire : Bytes) : Option Bytes :=
  match sirUnescape (wire.dropWhile fun b => b == sirBof || b == 0xFF) with
  | none => none
  | some bs =>
    let content := bs.take (bs.length - 2)
    if 3 ≤ content.length ∧ content.length ≤ 320 ∧ bs.drop (bs.length - 2) = leBytes 2 (sirFcs content).toNat then
      some content
    else none

/-- The bit cells of a frame: a start bit, eight data bits least significant first and a stop bit for each byte; a 0 bit
is a pulse. -/
def sirCells (wire : Bytes) : List Bool :=
  wire.flatMap fun b => true :: (((List.range 8).map fun i => !b.getLsbD i) ++ [false])

/-- GLZ_LEDREF in mV: 4 mV for each unit of LED_CURRENT while the port is not OFF. -/
def State.glzLedRef (s : State) : Nat :=
  match s.rcp.recipe with
  | none => 0
  | some r => if s.glz.state = 0 then 0 else 4 * r.glzLed

/-- Content is transmitted, with the rate that holds after it; during the hush it waits (R431). -/
def State.glzSend (s : State) (content : Bytes) (next : Option Nat) : State :=
  if s.glz.hushEnd.isSome then { s with glz := { s.glz with waiting := some (content, next) } }
  else (({ s with glz := { s.glz with sending := true, nextRate := next } }).emit (.glzFrame (sirFrame content))).emit
    (.glzLed s.glz.rate (sirCells (sirFrame content)))

/-- The session closes: what is staged is discarded, and the port returns to 9.6 kbit/s, after the response in progress
where there is one (R436, R437). -/
def State.glzEnd (s : State) : State :=
  let g := { s.glz with
    session := none, close := false, stalled := none
    waiting := match s.glz.waiting with | none => none | some w => some (w.1, some 0) }
  ({ s with glz := if g.sending then { g with nextRate := some 0 }
      else if g.waiting.isSome then g else { g with rate := 0 } }).glzFix

/-- A frame is delivered to the session layer. -/
def State.glzDelivered (s : State) : State := { s with glz := { s.glz with framesOk := satInc s.glz.framesOk } }

/-- A handshake that failed its authentication counts (R435). -/
def State.glzAuthFail (s : State) : State := { s with glz := { s.glz with authFails := satInc s.glz.authFails } }

/-! ## Credentials and tokens (R434, R440) -/

/-- KEY_EPOCH, DEVICE_BINDING and signer of a signed block, at their offsets. -/
def State.signedFor (s : State) (b : Bytes) (slotOff epochOff bindOff keyOff : Nat) (anyDevice : Bool) : Bool :=
  let slot := leAt b slotOff 1
  ((anyDevice && zeroAt b bindOff 16) || beAt b bindOff 16 == s.binding.toNat) && leAt b epochOff 1 == s.keyEpoch
    && decide (slot ≤ 3) && (s.slot slot).isActive && Config.sha256 (slice b keyOff 64) == (s.slot slot).hash

/-- The credential of a HELLO body. -/
def helloCred (body : Bytes) : Bytes := body.drop 81

/-- The public key X ‖ Y at an offset. -/
def keyAt (b : Bytes) (off : Nat) : BitVec 512 := BitVec.ofNat 512 (beAt b off 64)

/-- The signature at offset `sigOff` over every octet before it verifies under the key at `keyOff`. -/
def blockSigned (b : Bytes) (keyOff sigOff : Nat) : Bool :=
  ecdsaVerifies (keyAt b keyOff) (b.take sigOff) (slice b sigOff 64)

/-- LOADER_KEY and EPUB_L of a HELLO. -/
def helloKey (body : Bytes) : BitVec 512 := keyAt (helloCred body) 0x20
def helloPoint (body : Bytes) : BitVec 512 := keyAt body 17

/-- The checks of a HELLO. -/
def State.helloOk (s : State) (body : Bytes) : Bool :=
  let c := helloCred body
  body.length == 305 && leAt c 0 4 == 0x4C474342 && leAt c 4 1 == 1 && decide (leAt c 7 1 < 16) && zeroAt c 0x0C 4
    && s.signedFor c 5 6 0x10 0x60 true && blockSigned c 0x60 0xA0 && onP256 (helloKey body) && onP256 (helloPoint body)

/-- RIGHTS and LOADER_ID of a HELLO. -/
def helloRights (body : Bytes) : BitVec 4 := BitVec.ofNat 4 (leAt (helloCred body) 7 1)
def helloLoader (body : Bytes) : BitVec 32 := BitVec.ofNat 32 (leAt (helloCred body) 8 4)

/-! ## The handshake (R435, R436) -/

/-- RATE: the highest that both masks permit; 9.6 kbit/s is always in use (R427). -/
def State.glzRate (s : State) (body : Bytes) : Nat :=
  let mine := match s.rcp.recipe with | none => 0 | some r => r.glzRates
  match ([4, 3, 2, 1, 0].find? fun i => mine.getLsbD i && (leAt body 0 1).testBit i) with
  | none => 0
  | some i => i

/-- A HELLO_REPLY with a status and every later field 0. -/
def State.glzRefuse (s : State) (st : Status) : State :=
  (({ s with glz := { s.glz with hand := none } }).glzFix).glzSend
    ([Config.glzReplyType, 0, 0] ++ leBytes 2 st.code ++ List.replicate 161 0) none

/-- STATUS, RATE, BNONCE, the ephemeral key and DEVICE_BINDING of the HELLO_REPLY to a HELLO, from 48 octets of PRF1. -/
def State.helloFields (s : State) (body bs : Bytes) : Bytes :=
  leBytes 2 Status.ok.code ++ [BitVec.ofNat 8 (s.glzRate body)] ++ bs.take 16
    ++ beBytes 64 (Config.publicKey (BitVec.ofNat 256 (beNat (bs.drop 16)))).toNat ++ s.bindingBytes

/-- Those fields and their signature. -/
def State.helloReply (s : State) (body bs : Bytes) : Bytes :=
  s.helloFields body bs
    ++ beBytes 64 (Config.ecdsaSign s.keyBlock.priv (ascii "GLZ-B" ++ body ++ s.helloFields body bs)).toNat

/-- The HELLO_REPLY of a handshake, once PRF1 gives BNONCE and the ephemeral key. -/
def State.glzAnswer (s : State) : State :=
  match s.glz.hand with
  | none => s
  | some h =>
    if h.reply.isSome then s
    else match s.draw 48 with
      | none => s
      | some (bs, t) =>
        let reply := t.helloReply h.body bs
        ({ t with glz := { t.glz with
            hand := some { h with reply := some reply, bnonce := BitVec.ofNat 128 (beNat (bs.take 16)),
                                  priv := BitVec.ofNat 256 (beNat (bs.drop 16)) } } }).glzSend
          ([Config.glzReplyType, 0, 0] ++ reply) none

/-- The Borpin begins at most one handshake in any 500 ms. -/
def State.glzSoon (s : State) : Bool :=
  match s.glz.lastHello with
  | none => false
  | some t => decide (s.tick.toNat < t.toNat + 500000)

/-- A HELLO is received. -/
def State.glzHello (s : State) (body : Bytes) : State :=
  if !s.glzHears then s
  else if 317 < body.length then { s with glz := { s.glz with fcsErrors := satInc s.glz.fcsErrors } }
  else
    let s := s.glzDelivered
    if s.glz.commit.isSome || s.glzSoon then s
    else
      let s := { s with glz := { s.glz with lastHello := some s.tick } }
      if s.mode = .quarantine then s.glzRefuse .quarantined
      else if !s.engineActive eccUnits 0 then s.glzRefuse .retryLater
      else if !s.helloOk body then s.glzAuthFail.glzRefuse .notPermitted
      else (({ s with glz := { s.glz with hand := some { body := body, reply := none, bnonce := 0, priv := 0 } } }).glzFix).glzAnswer

/-- K_lb and K_bl. -/
def State.glzKeys (s : State) (h : GlzHand) : BitVec 256 :=
  Config.sha256 (beBytes 4 1 ++ beBytes 32 (Config.ecdh h.priv (helloPoint h.body)).toNat ++ ascii "GLAZE-KDF-01" ++ s.bindingBytes ++ slice h.body 1 16
    ++ beBytes 16 h.bnonce.toNat)

/-- The content of a frame of the Borpin inside a session (R433). -/
def glzContent (kbl : BitVec 128) (typ : Byte) (seq : Nat) (body : Bytes) : Bytes :=
  let head := typ :: leBytes 2 seq
  head ++ Config.gcmSeal kbl ((0x02 : Byte) :: (List.replicate 9 0 ++ beBytes 2 seq)) head body

/-- SIG_L verifies with LOADER_KEY over the HELLO and HELLO_REPLY bodies. -/
def GlzHand.proven (h : GlzHand) (sigL : Bytes) : Bool :=
  ecdsaVerifies (helloKey h.body) (ascii "GLZ-L" ++ h.body ++ h.reply.getD []) sigL

/-- A PROVE is received: READY, or back to IDLE. A session the handshake replaces closes with what it has staged. -/
def State.glzProve (s : State) (sigL : Bytes) : State :=
  if !s.glzHears then s
  else
    let s := s.glzDelivered
    match s.glz.hand with
    | none => s
    | some h =>
      if h.reply.isNone || s.glz.commit.isSome then s
      else
        let s := { s with glz := { s.glz with hand := none } }
        if !h.proven sigL then s.glzAuthFail.glzFix
        else
          let k : BitVec 256 := s.glzKeys h
          let kbl : BitVec 128 := k.truncate 128
          let x : GlzSession :=
            { loaderId := helloLoader h.body, rights := helloRights h.body, klb := (k >>> 128).truncate 128, kbl := kbl
              rate := s.glzRate h.body, lastSeq := 0, stored := [], drops := 0, lastAt := s.tick, staged := [] }
          (({ s with glz := { s.glz with session := some x, close := false, stalled := none } }).glzFix).glzSend
            (glzContent kbl 0x04 0 []) (some x.rate)

/-- No PROVE within 2 s. -/
def State.glzProveTimeout (s : State) : State :=
  match s.glz.hand with
  | none => s
  | some h => if h.reply.isSome then (({ s with glz := { s.glz with hand := none } }).glzAuthFail).glzFix else s

/-- PRF1 has given no output within 80 ms. -/
def State.glzStarved (s : State) : State :=
  match s.glz.hand with
  | none => s
  | some h => if h.reply.isNone then s.glzRefuse .entropyStarved else s

/-! ## Session frames (R437) -/

/-- A frame discarded silently; the third in a row closes the session. -/
def State.glzDrop (s : State) (x : GlzSession) : State :=
  if 2 ≤ x.drops then ({ s with glz := { s.glz with sessDrops := satInc s.glz.sessDrops } }).glzEnd
  else { s with glz := { s.glz with session := some { x with drops := x.drops + 1 } } }

/-- A response is stored and sent. -/
def State.glzRespond (s : State) (typ : Byte) (st : Status) (data : Bytes) : State :=
  match s.glz.session with
  | none => s
  | some x =>
    let c := glzContent x.kbl (typ ||| 0x80) x.lastSeq (leBytes 2 st.code ++ data)
    ({ s with glz := { s.glz with session := some { x with stored := c } } }).glzSend c none

/-- A request's right (R438): 0 READ, 1 TOKEN, 2 LABEL, 3 ATTEST; none: any. -/
def GlzSession.may (x : GlzSession) (right : Option Nat) : Bool :=
  match right with
  | none => true
  | some i => x.rights.getLsbD i

/-- A session frame is received; `run` executes its request and answers, unless its answer comes later. Frames that
arrive while a COMMIT runs, or while a request waits for a frame of the cache, are discarded. -/
def State.glzRequest (s : State) (f : GlzFrame) (typ : Byte) (right : Option Nat)
    (run : GlzSession → State → State × Option (Status × Bytes)) : State :=
  if !s.glzHears then s
  else
    let s := s.glzDelivered
    match s.glz.session with
    | none => s
    | some x =>
      if s.glz.commit.isSome || s.glz.stalled.isSome then s
      else if !f.tagOk || f.seq == 0 || decide (65536 ≤ f.seq) || !(f.seq == x.lastSeq || f.seq == x.lastSeq + 1) then
        s.glzDrop x
      else
        let x := { x with drops := 0, lastAt := s.tick }
        if f.seq = x.lastSeq then ({ s with glz := { s.glz with session := some x } }).glzSend x.stored none
        else
          let x := { x with lastSeq := f.seq }
          let s := { s with glz := { s.glz with session := some x } }
          if !x.may right then s.glzRespond typ .notPermitted []
          else
            let r := run x s
            match r.2 with
            | none => r.1
            | some a => r.1.glzRespond typ a.1 a.2

/-! ## Requests (R438, R439, R441) -/

/-- READ. -/
def State.glzReadRun (s : State) (off len : Nat) (chk : PageCheck) : State × Status × Bytes :=
  if len < 4 ∨ 256 < len ∨ len % 4 ≠ 0 then (s, .badDescriptor, [])
  else if !s.ldr.isOpen then (s, .ok, List.replicate len 0)
  else if !s.readable off then (s, .notPermitted, [])
  else if (List.range len).any fun i => !s.readable (off + i) then (s, .boundary, [])
  else
    let r := s.bypass (windowPages off len) chk
    if r.2 then (r.1, .ok, (List.range len).map fun i => r.1.windowByte (off + i)) else (r.1, .integrity, [])

/-- Brings a page into the record cache, where a frame can be had (R343). -/
def State.reachPage (s : State) (page : Nat) (chk : PageCheck) : State × PageState :=
  if s.poisoned page then (s, .poisoned)
  else if s.cached page then (s, .ready)
  else if !s.frameFree then (s, .waiting)
  else
    let r := s.fetchPage page chk true
    if r.2 then (r.1.install page, .ready) else (r.1, .poisoned)

/-- The request waits for a frame. -/
def State.glzStall (s : State) (w : GlzStall) : State := { s with glz := { s.glz with stalled := some w } }

/-- Stages an item. -/
def State.stageItem (s : State) (x : GlzSession) (i : GlzItem) : State :=
  { s with glz := { s.glz with session := some { x with staged := x.staged ++ [i] } } }

/-- The checks of a token before its TAG_ID. RAISE of 0 is no token's. -/
def State.tokenOk (s : State) (t : Bytes) : Bool :=
  leAt t 0 4 == 0x4B544342 && leAt t 4 1 == 1 && zeroAt t 7 1 && zeroAt t 0x38 8 && decide (1 ≤ leAt t 0x32 6)
    && s.signedFor t 5 6 8 0x40 true && blockSigned t 0x40 0x80

/-- The class of a record has a counter with TOKEN_RAISE. -/
def State.tokenRaise (s : State) (n : Nat) : Bool :=
  match s.ctrClass (s.counterClass (s.record n).classId) with
  | none => false
  | some c => c.tokenRaise

/-- STAGE_TOKEN; no answer yet where its page waits for a frame. -/
def State.stageToken (s : State) (x : GlzSession) (t : Bytes) (chk : PageCheck) : State × Option Status :=
  let tagId : BitVec 128 := BitVec.ofNat 128 (beAt t 0x18 16)
  let serial : BitVec 32 := BitVec.ofNat 32 (leAt t 0x28 4)
  if t.length ≠ 192 then (s, some .badDescriptor)
  else if 8 ≤ x.staged.length ∨ s.tokenOk t = false then (s, some .notPermitted)
  else
    let r := s.reachPage (indexPageOf tagId) chk
    match r.2 with
    | .poisoned => (r.1, some .integrity)
    | .waiting => (r.1.glzStall (.token t chk), none)
    | .ready => match r.1.indexFind tagId with
      | none => (r.1, some .notPermitted)
      | some n =>
        let twice : Bool := x.staged.any fun i => match i with
          | .token _ g m _ _ => g == tagId && m == serial
          | .label _ _ => false
        if (r.1.record n).state ≠ 1 ∨ r.1.tokenRaise n = false ∨ twice = true then (r.1, some .notPermitted)
        else (r.1.stageItem x (.token n tagId serial (leAt t 0x2C 6) (leAt t 0x32 6)), some .ok)

/-- STAGE_LABEL; no answer yet where its page waits for a frame. -/
def State.stageLabel (s : State) (x : GlzSession) (n : Nat) (label : Bytes) (chk : PageCheck) : State × Option Status :=
  if label.length ≠ 32 then (s, some .badDescriptor)
  else if 8 ≤ x.staged.length ∨ s.ldr.capacity ≤ n then (s, some .notPermitted)
  else
    let r := s.reachPage (recordPage n) chk
    match r.2 with
    | .poisoned => (r.1, some .integrity)
    | .waiting => (r.1.glzStall (.label n label chk), none)
    | .ready =>
      if (r.1.record n).state ≠ 1 then (r.1, some .notPermitted)
      else (r.1.stageItem x (.label n (BitVec.ofNat 256 (beNat label))), some .ok)

/-- A request that waited for a frame goes on once there is one. -/
def State.glzResume (s : State) : State :=
  match s.glz.stalled, s.glz.session with
  | some w, some x =>
    let s := { s with glz := { s.glz with stalled := none } }
    let r : State × Option Status × Byte := match w with
      | .token t chk => let r := s.stageToken x t chk; (r.1, r.2, 0x20)
      | .label n l chk => let r := s.stageLabel x n l chk; (r.1, r.2, 0x21)
    match r.2.1 with
    | none => r.1
    | some st => r.1.glzRespond r.2.2 st []
  | _, _ => s

/-! ## COMMIT (R442, R351) -/

/-- The record an item names. -/
def GlzItem.record : GlzItem → Nat
  | .token n _ _ _ _ => n
  | .label n _ => n

/-- Locks records, in one cycle. -/
def State.lockRecords (s : State) (ns : List Nat) : State :=
  { s with ldr := { s.ldr with
      locked := ns.foldl (fun l n => insertNew l n) [], lockAt := s.tick
      lockOld := ns.foldl (fun t n => tabSet recordFree t n (s.record n)) [] } }

/-- The requests of the staged tokens reach the counter unit, in staging order. -/
def State.askTokens (s : State) : List GlzItem → Nat → State
  | [], _ => s
  | .label _ _ :: l, k => s.askTokens l (k + 1)
  | .token n tagId serial base raise :: l, k =>
    let c : Commit :=
      { owner := .token k, typ := 2, cause := 2, id := n, value := base + raise, plusOne := false, base := base
        serial := serial, accepted := false, tag := some tagId }
    State.askTokens (s.arrive c) l (k + 1)

/-- COMMIT begins. -/
def State.glzCommitRun (s : State) (x : GlzSession) : State × Option (Status × Bytes) :=
  if s.spw.early then (s, some (.supplyHold, [0]))
  else if x.staged = [] then (s, some (.ok, [0]))
  else
    let c : GlzCommit :=
      { seq := x.lastSeq, items := x.staged, statuses := x.staged.map fun _ => none, labelsIn := false, lockEnded := false }
    let s := s.lockRecords (x.staged.map GlzItem.record)
    (((({ s with glz := { s.glz with commit := some c } }).askTokens c.items 0).glzFix), none)

/-- The status of item `k` of the running commit. -/
def State.glzItemEnd (s : State) (k code : Nat) : State :=
  match s.glz.commit with
  | none => s
  | some c => { s with glz := { s.glz with commit := some { c with statuses := setNth c.statuses k (some code) } } }

/-- The pins of the commit's pages stand beside those of contexts and positions. -/
def glzCtx : Nat := 8200

/-- The label items that are open, by number. -/
def GlzCommit.labels (c : GlzCommit) : List (Nat × Nat × BitVec 256) :=
  (c.items.zip (List.range c.items.length)).filterMap fun e => match e.1 with
    | .label n t => if (c.statuses.getD e.2 none).isNone then some (e.2, n, t) else none
    | .token _ _ _ _ _ => none

/-- Every token item has its status. -/
def GlzCommit.tokensDone (c : GlzCommit) : Bool :=
  (c.items.zip c.statuses).all fun e => match e.1 with
    | .label _ _ => true
    | .token _ _ _ _ _ => e.2.isSome

/-- Writes one staged label; a POISONED page gives its item INTEGRITY (R350). -/
def State.writeLabel (s : State) (k n : Nat) (t : BitVec 256) : State :=
  if s.poisoned (recordPage n) then s.glzItemEnd k Status.integrity.code
  else s.putRecord n { s.record n with label := t }

/-- COMMIT completes once its lock has ended and every item has its status. -/
def State.glzFinish (s : State) : State :=
  match s.glz.commit with
  | none => s
  | some c =>
    if c.lockEnded && c.statuses.all (·.isSome) then
      let s := { s with glz := { s.glz with
        commit := none
        session := s.glz.session.map fun (x : GlzSession) => { x with staged := [] } } }
      let s := (s.glzFix).glzRespond 0x22 .ok
        ([BitVec.ofNat 8 c.items.length] ++ c.statuses.flatMap fun v : Option Nat => leBytes 2 (v.getD 0))
      if s.glz.close then s.glzEnd else s
    else s

/-- Steps 3 and 4: once every token has its status and the pages are there, the labels are written and the round is
requested. -/
def State.glzAdvance (s : State) : State :=
  match s.glz.commit with
  | none => s
  | some c =>
    if c.labelsIn || c.lockEnded || !c.tokensDone then s
    else
      let r := c.labels.foldl (fun (r : State × Bool) e =>
        let q := r.1.needPage (recordPage e.2.1) glzCtx
        (q.1, r.2 && q.2 != .waiting)) (s, true)
      if !r.2 then r.1
      else
        let s := { r.1 with glz := { r.1.glz with commit := some { c with labelsIn := true } } }
        let s := c.labels.foldl (fun s e => s.writeLabel e.1 e.2.1 e.2.2) s
        { s.unpin glzCtx with ldr := { (s.unpin glzCtx).ldr with needs := s.ldr.needs ++ [Need.glaze] } }

/-- A token's request has ended; the last of a commit whose lock has ended before completes it. -/
def State.tokenEnd (s : State) (k : Nat) (result : Option Status) : State :=
  match result with
  | some st => (s.glzItemEnd k st.code).glzFinish
  | none =>
    (({ s with glz := { s.glz with tokens := satInc s.glz.tokens } }).glzItemEnd k Status.ok.code).glzFinish

/-- The lock of the commit has ended: the labels are OK, or LOCKED. -/
def State.glzLockEnded (s : State) (committed : Bool) : State :=
  match s.glz.commit with
  | none => s
  | some c =>
    if c.lockEnded then s
    else
      let code := if committed then Status.ok.code else Status.locked.code
      let s := c.labels.foldl (fun s e => s.glzItemEnd e.1 code) s
      match s.glz.commit with
      | none => s
      | some c => ({ s with glz := { s.glz with commit := some { c with lockEnded := true } } }).glzFinish

/-! ## The front end (R424, R428–R431) -/

/-- A frame is discarded whole, for the first case in table order (R430). -/
def State.glzFrameDiscard (s : State) (why : GlzDiscard) (bad : Nat) : State :=
  if s.glz.state = 0 ∨ s.glz.sending = true then s
  else
    let g := { s.glz with badPulses := satAdd s.glz.badPulses bad }
    if why = .blind ∨ g.blind = true then { s with glz := { g with discBlind := satInc g.discBlind } }
    else if 4 < bad then { s with glz := { g with discPulses := satInc g.discPulses } }
    else match why with
      | .wire bs framing =>
        if framing || (sirContent bs).isNone then { s with glz := { g with fcsErrors := satInc g.fcsErrors } }
        else { s with glz := g }
      | _ => { s with glz := g }

/-- A pulse above twice the reference amplitude (R431). -/
def State.glzAbort (s : State) : State :=
  if s.glz.state = 0 ∨ s.glz.sending = true ∨ s.glz.blind = true then s
  else { s with glz := { s.glz with abortAmp := satInc s.glz.abortAmp, hushEnd := some (s.tick + 50000) } }

/-- The hush ends: a response held back is sent. -/
def State.glzHushOver (s : State) : State :=
  let t := { s with glz := { s.glz with hushEnd := none, waiting := none } }
  match s.glz.waiting with
  | none => t
  | some w => t.glzSend w.1 w.2

/-- AMBIENT_UA. -/
def State.glzAmbient (s : State) (ua : Nat) : State := { s with glz := { s.glz with ambient := min 1023 ua } }

end Sys2Proof.Machine
end

