-- ==== Sys2Proof/Machine/Image.lean ====
section
/-! DEFINITION. The recipe image: its layout (R109–R113), the content of each section (R115–R126, R150, R151, R315,
R316, R498), and the verification of a slot (R127). -/

namespace Sys2Proof.Machine

/-! ## Reading a slot -/

/-- `len` octets of a slot from an offset: every octet after the programmed ones reads 0xFF. -/
def slotRead (bs : Bytes) (off len : Nat) : Bytes :=
  let d := slice bs off len
  d ++ List.replicate (len - d.length) 0xFF

def slotU (bs : Bytes) (off len : Nat) : Nat := leNat (slotRead bs off len)

def slotZero (bs : Bytes) (off len : Nat) : Bool := (slotRead bs off len).all (· == 0)

/-! ## Header and directory (R110–R112) -/

def imgLen (bs : Bytes) : Nat := slotU bs 0x08 4
def imgGeneration (bs : Bytes) : Nat := slotU bs 0x0C 4
def imgFloor (bs : Bytes) : Nat := slotU bs 0x10 1
def imgSections (bs : Bytes) : Nat := slotU bs 0x11 1
def imgFramesOff (bs : Bytes) : Nat := slotU bs 0x18 4
def imgFrames (bs : Bytes) : Nat := slotU bs 0x1C 4
def imgBinding (bs : Bytes) : Nat := beNat (slotRead bs 0x20 16)

/-- Check 1 of R127. -/
def imgHeaderOk (bs : Bytes) : Bool :=
  slotU bs 0 4 == 0x50524342 && slotU bs 4 2 == 1 && slotU bs 6 2 == 128
    && imgLen bs % 256 == 0 && imgLen bs == imgFramesOff bs + 256 * imgFrames bs && decide (imgLen bs ≤ 3 * 2 ^ 20)
    && decide (1 ≤ imgGeneration bs) && decide (imgFloor bs ≤ 64)
    && decide (1 ≤ imgSections bs) && decide (imgSections bs ≤ 10) && slotZero bs 0x12 2
    && slotU bs 0x14 4 == 0x140 && imgFramesOff bs == (0x140 + 64 * imgSections bs + 255) / 256 * 256
    && decide (1 ≤ imgFrames bs) && slotZero bs 0x38 72 && slotZero bs 0x81 3 && slotZero bs 0x104 60

/-- A directory entry. -/
structure Section where
  typ   : Nat
  rsvOk : Bool
  start : Nat
  count : Nat
  len   : Nat
  hash  : Nat
deriving DecidableEq, Repr

def imgDirectory (bs : Bytes) : List Section :=
  (List.range (imgSections bs)).map fun i =>
    let o := 0x140 + 64 * i
    { typ := slotU bs o 1, rsvOk := slotZero bs (o + 1) 3 && slotZero bs (o + 0x10) 16, start := slotU bs (o + 4) 4,
      count := slotU bs (o + 8) 4, len := slotU bs (o + 12) 4, hash := beNat (slotRead bs (o + 0x20) 32) }

/-- No element twice. -/
def distinct (l : List Nat) : Bool := decide l.Nodup

/-- Check 7 of R127: types, ranges, coverage and required sections (R112, R115). -/
def directoryOk (bs : Bytes) : Bool :=
  let d := imgDirectory bs
  d.all (fun e => decide (1 ≤ e.typ) && decide (e.typ ≤ 10) && e.rsvOk && decide (1 ≤ e.count) && decide (1 ≤ e.len)
      && decide (e.start + e.count ≤ imgFrames bs))
    && distinct (d.map (·.typ))
    && d.all (fun e => d.all fun f => e.typ == f.typ || decide (e.start + e.count ≤ f.start)
        || decide (f.start + f.count ≤ e.start))
    && d.foldl (fun n e => n + e.count) 0 == imgFrames bs
    && [1, 2, 5, 6, 10].all fun t => d.any (·.typ == t)

/-- The 256 octets of a frame. -/
def imgFrame (bs : Bytes) (j : Nat) : Bytes := slotRead bs (imgFramesOff bs + 256 * j) 256

/-- The frames of a section, in index order. -/
def sectionFrames (bs : Bytes) (e : Section) : List Bytes := (List.range e.count).map fun i => imgFrame bs (e.start + i)

/-- The frames of one section from number `n` on, whose payloads so far make `off` octets (check 8 of R127, R113). -/
def framesOk (typ : Nat) : List Bytes → Nat → Nat → Nat → Bool
  | [], _, off, len => off == len
  | f :: fs, n, off, len =>
    leAt f 0 1 == typ && leAt f 4 4 == off && decide (1 ≤ leAt f 8 2) && decide (leAt f 8 2 ≤ 240)
      && leAt f 10 2 == n % 65536 && leAt f 12 4 == (crc32c (f.take 12 ++ f.drop 16)).toNat
      && framesOk typ fs (n + 1) (off + leAt f 8 2) len

/-- A frame's payload. -/
def framePayload (f : Bytes) : Bytes := slice f 16 (leAt f 8 2)

/-- FLAGS marks the last frame only, TARGET is the owner's, and payload octets beyond LENGTH are 0 (R113, R116). R127
names no check for them: check 10 makes it (assumption log 96). -/
def framesFormOk (plait : Bool) : List Bytes → Bool
  | [] => true
  | f :: fs =>
    leAt f 1 1 == (if fs = [] then 1 else 0) && zeroAt f (16 + leAt f 8 2) (240 - leAt f 8 2)
      && (if plait then leAt f 2 2 == leAt f 16 1 && leAt f 8 2 == 16 else leAt f 2 2 == 0xFFFF)
      && framesFormOk plait fs

/-- A section's content. -/
def sectionContent (bs : Bytes) (e : Section) : Bytes := (sectionFrames bs e).flatMap framePayload

/-- The content of the section of a type, empty where the recipe has none. -/
def contentOf (bs : Bytes) (typ : Nat) : Bytes :=
  match (imgDirectory bs).find? (·.typ == typ) with
  | none => []
  | some e => sectionContent bs e

/-- A list of entries of `n` octets; none where the length is no multiple. -/
def chunks (n : Nat) (bs : Bytes) : List Bytes := (List.range (bs.length / n)).map fun i => slice bs (n * i) n

/-- Strictly rising. -/
def rising : List Nat → Bool
  | a :: b :: l => decide (a < b) && rising (b :: l)
  | _ => true

/-! ## DEVICE (R117) -/

def deviceOk (c : Bytes) : Bool :=
  c.length == 32 && decide (leAt c 1 1 < 4) && zeroAt c 2 2 && zeroAt c 12 20
    && [4, 8].all fun o => leAt c o 4 == 0 || (decide (100 ≤ leAt c o 4) && decide (leAt c o 4 ≤ 50000))

/-! ## BALLMAP (R118, R498) -/

def analogBall (b : Nat) : Bool := (decide (22 ≤ b) && decide (b ≤ 27)) || (decide (150 ≤ b) && decide (b ≤ 155))

def flexBall (b : Nat) : Bool :=
  let r := b / 64 + 1
  let c := b % 64 + 1
  decide (6 ≤ r) && decide (r ≤ 59) && (decide (c ≤ 6) || decide (59 ≤ c))

/-- The functions a ball can carry. -/
def ballCarries (b f : Nat) : Bool :=
  let flex : Bool := f == 0 || (decide (0x100 ≤ f) && decide (f ≤ 0x17F)) || (decide (0x200 ≤ f) && decide (f ≤ 0x3FF))
    || f == 0x501
  let analog : Bool := f == 0 || (decide (0x400 ≤ f) && decide (f ≤ 0x407)) || f == 0x500 || f == 0x502
  (flexBall b && flex) || (analogBall b && analog)

def parseBalls (c : Bytes) : List (Nat × Nat) := (chunks 4 c).map fun e => (leAt e 0 2, leAt e 2 2)

def ballsOk (c : Bytes) : Bool :=
  let l := parseBalls c
  c.length % 4 == 0 && decide (l.length ≤ 2048) && rising (l.map (·.1)) && l.all (fun e => ballCarries e.1 e.2)
    && distinct ((l.map (·.2)).filter (· ≠ 0))

/-- Whether some ball carries a function. -/
def hasBall (l : List (Nat × Nat)) (f : Nat) : Bool := l.any (·.2 == f)

/-! ## PLAIT (R119) -/

def parsePorts (c : Bytes) : List PortEntry :=
  (chunks 16 c).map fun e =>
    { port := leAt e 0 1, brisk := leAt e 1 1 == 1, pullup := leAt e 2 1, maxPos := leAt e 3 1, retries := leAt e 4 1,
      spuLimitMs := leAt e 5 1, probeMs := leAt e 6 2, sprinkleMs := leAt e 8 2 }

def portsOk (c : Bytes) (balls : List (Nat × Nat)) : Bool :=
  c.length % 16 == 0 && distinct ((parsePorts c).map (·.port))
    && (chunks 16 c).all fun e =>
      decide (leAt e 0 1 ≤ 127) && decide (leAt e 1 1 ≤ 1) && decide (leAt e 2 1 ≤ 1)
        && decide (1 ≤ leAt e 3 1) && decide (leAt e 3 1 ≤ 32) && decide (leAt e 4 1 ≤ 7)
        && decide (1 ≤ leAt e 5 1) && decide (leAt e 5 1 ≤ 50)
        && decide (10 ≤ leAt e 6 2) && decide (leAt e 6 2 ≤ 60000)
        && decide (10 ≤ leAt e 8 2) && decide (leAt e 8 2 ≤ 60000) && zeroAt e 10 6
        && hasBall balls (0x100 + leAt e 0 1)

/-! ## CLASSES (R120) -/

def accCount (c : Bytes) : Nat := leAt c 0 2
def ctrCount (c : Bytes) : Nat := leAt c 2 2

def parseAcc (c : Bytes) : List AccClass :=
  (chunks 32 (slice c 8 (32 * accCount c))).map fun e =>
    { id := leAt e 0 1, counterClass := leAt e 1 1, missLimit := if leAt e 2 1 = 0 then 3 else leAt e 2 1,
      multiHost := leAt e 3 1 == 1, beatMs := leAt e 4 4, defaultLimit := leAt e 8 6,
      name := BitVec.ofNat 128 (beAt e 16 16) }

def parseCtr (c : Bytes) : List CtrClass :=
  (chunks 16 (slice c (8 + 32 * accCount c) (16 * ctrCount c))).map fun e =>
    { id := leAt e 0 1, tokenRaise := leAt e 1 1 == 1, maxLimit := leAt e 4 6 }

/-- ASCII octets, then 0x00 to the end. -/
def asciiPadded : Bytes → Bool
  | [] => true
  | b :: bs => if b = 0 then bs.all (· == 0) else decide (b.toNat < 128) && asciiPadded bs

def classesOk (c : Bytes) : Bool :=
  c == [] ||
    (decide (8 ≤ c.length) && c.length == 8 + 32 * accCount c + 16 * ctrCount c && decide (accCount c ≤ 255)
      && decide (ctrCount c ≤ 63) && zeroAt c 4 4
      && distinct ((parseAcc c).map (·.id)) && distinct ((parseCtr c).map (·.id))
      && (chunks 32 (slice c 8 (32 * accCount c))).all (fun e =>
          decide (1 ≤ leAt e 0 1) && (leAt e 1 1 == 0 || (parseCtr c).any (·.id == leAt e 1 1))
            && decide (leAt e 2 1 ≤ 15) && decide (leAt e 3 1 ≤ 1) && decide (10 ≤ leAt e 4 4)
            && decide (leAt e 4 4 ≤ 60000) && (leAt e 1 1 != 0 || leAt e 8 6 == 0) && zeroAt e 14 2
            && asciiPadded (slice e 16 16))
      && (chunks 16 (slice c (8 + 32 * accCount c) (16 * ctrCount c))).all fun e =>
          decide (1 ≤ leAt e 0 1) && decide (leAt e 0 1 ≤ 63) && decide (leAt e 1 1 ≤ 1) && zeroAt e 2 2
            && zeroAt e 10 6)

/-! ## QUEUES (R121) -/

def parseQueues (c : Bytes) : List QueueEntry :=
  (chunks 8 c).map fun e =>
    { queue := leAt e 0 2, cls := leAt e 2 1, maxIn := leAt e 3 1, affinity := BitVec.ofNat 16 (leAt e 4 2) }

def queuesOk (c : Bytes) : Bool :=
  let l := parseQueues c
  c.length % 8 == 0 && decide (l.length ≤ 1024) && rising (l.map (·.queue)) && l.any (·.cls == 5)
    && l.all (fun e => decide (e.queue ≤ 1023) && decide (1 ≤ e.cls) && decide (e.cls ≤ 6) && decide (1 ≤ e.maxIn)
        && decide (e.maxIn ≤ 64))
    && (chunks 8 c).all fun e => zeroAt e 6 2

/-! ## ENTROPY (R122) -/

/-- A value in lo–hi, or 0. -/
def rangeOrZero (v lo hi : Nat) : Bool := v == 0 || (decide (lo ≤ v) && decide (v ≤ hi))

def entropyOk (c : Bytes) : Bool :=
  c.length == 16 && decide (1 ≤ leAt c 0 1) && decide (leAt c 0 1 ≤ 3) && zeroAt c 1 1
    && rangeOrZero (leAt c 2 2) 2 24 && rangeOrZero (leAt c 4 2) 2 41 && rangeOrZero (leAt c 6 2) 513 635
    && rangeOrZero (leAt c 8 2) 513 802 && rangeOrZero (leAt c 10 2) 64 1024 && zeroAt c 12 4

/-! ## SUPPLY (R123, R315, R316) -/

def parseSupply (c : Bytes) : List SupplyEntry :=
  (chunks 32 c).map fun e =>
    { channel := leAt e 0 1, profile := leAt e 1 1, hz := leAt e 2 1, scale := leAt e 4 4, nominal := leAt e 8 2,
      low := leAt e 0x0A 2, high := leAt e 0x0C 2, intr := leAt e 0x0E 2, warn := leAt e 0x10 2, fail := leAt e 0x12 2,
      hyst := leAt e 0x14 2, trans := leAt e 0x16 2, ripple := leAt e 0x18 2, freqTol := leAt e 0x1A 2,
      holdupUs := leAt e 0x1C 2, role := leAt e 0x1E 2 }

/-- The supply value of full scale in 10 mV units, rounded toward zero (R313). -/
def fullScale (scale : Nat) : Nat := 16383 * 1200 * scale / (16384 * 1000 * 10)

def SupplyEntry.valid (e : SupplyEntry) (balls : List (Nat × Nat)) : Bool :=
  e.profile == 0 ||
    (hasBall balls (0x400 + e.channel)
      && (if e.profile = 1 then e.hz == 50 || e.hz == 60 else e.hz == 0)
      && decide (e.intr < e.low) && decide (e.low < e.nominal) && decide (e.nominal < e.high)
      && decide (e.high ≤ fullScale e.scale) && decide (1 ≤ e.hyst)
      && (if e.profile = 1 then e.fail == 0 && e.ripple == 0 && decide (1 ≤ e.freqTol) && decide (e.freqTol ≤ 500)
          else e.freqTol == 0 && decide (e.fail < e.warn))
      && (if e.role % 2 = 1 then decide (e.holdupUs ≠ 0) else e.holdupUs == 0)
      && (if e.profile = 1 then decide (e.role ≤ 1) else decide (e.role ≤ 2))
      && decide (1000 ≤ e.scale) && decide (e.scale ≤ 1000000))

/-- The reserved octet of an entry takes any value: the rule gives it none (assumption log 96). -/
def supplyOk (c : Bytes) (balls : List (Nat × Nat)) : Bool :=
  let l := parseSupply c
  c.length % 32 == 0 && distinct (l.map (·.channel))
    && l.all fun e => decide (e.channel ≤ 7) && decide (e.profile ≤ 3) && e.valid balls

/-! ## GLAZE (R124) -/

/-- An enabled port has its three balls assigned (R422). -/
def glazeOk (c : Bytes) (balls : List (Nat × Nat)) : Bool :=
  c == [] || (c.length == 8 && decide (leAt c 0 1 ≤ 1) && decide (leAt c 1 1 < 32)
    && (leAt c 0 1 == 0 || (decide (leAt c 1 1 ≠ 0) && [0x500, 0x501, 0x502].all fun f => hasBall balls f)) && decide (1 ≤ leAt c 3 1) && decide (leAt c 4 2 ≤ 100)
    && zeroAt c 6 2)

/-! ## SETTINGS (R125) -/

def parseSettings (c : Bytes) : List Setting :=
  (chunks 12 c).map fun e =>
    { off := leAt e 0 4, value := BitVec.ofNat 32 (leAt e 4 4), mask := BitVec.ofNat 32 (leAt e 8 4) }

/-- The kept bits of the register at an offset, 0 where it has none: GLB_IRQ_EN, SPC_CTRL.LEAD, MSP_ATTN_EN. -/
def keptMask (off : Nat) : Word :=
  if off = 0x14 then 0x1FFF else if off = 0x2A0000 then 0x1F else if off = 0x2E0008 then 0xF else 0

/-- MASK covers kept bits only, and LEAD stays in its range: an entry whose MASK is 0 covers none. -/
def Setting.valid (e : Setting) : Bool :=
  (e.mask &&& ~~~ keptMask e.off == 0)
    && (e.off != 0x2A0000 || decide ((((16 : Word) &&& ~~~ e.mask) ||| (e.value &&& e.mask)).toNat ≤ 16))

def settingsOk (c : Bytes) : Bool :=
  c.length % 12 == 0 && rising ((parseSettings c).map (·.off)) && (parseSettings c).all Setting.valid

/-! ## FABRIC (R126, R147–R151) -/

/-- The input namespace of R151. -/
def inNamespace (sel : Nat) : Bool :=
  decide (sel ≤ 1) || (decide (0x100 ≤ sel) && decide (sel ≤ 0x10D)) || (decide (0x110 ≤ sel) && decide (sel ≤ 0x117))
    || (decide (0x200 ≤ sel) && decide (sel ≤ 0x7FF)) || (decide (0x1000 ≤ sel) && decide (sel ≤ 0x43FF))
    || (decide (0x4800 ≤ sel) && decide (sel ≤ 0x487F))

def parseCell (e : Bytes) : Cell :=
  { lut := BitVec.ofNat 64 (leAt e 0 8)
    sel := #v[leAt e 8 2, leAt e 10 2, leAt e 12 2, leAt e 14 2, leAt e 16 2, leAt e 18 2]
    latch := leAt e 20 1 % 2 == 1, timer := leAt e 20 1 / 2 % 4, timerN := leAt e 21 3 }

def cellCount (c : Bytes) : Nat := leAt c 0 2
def guardCount (c : Bytes) : Nat := leAt c 2 2

def parseCells (c : Bytes) : List Cell := (chunks 24 (slice c 8 (24 * cellCount c))).map parseCell

def parseGuards (c : Bytes) : List GuardEntry :=
  (chunks 4 (slice c (8 + 24 * cellCount c) (4 * guardCount c))).map fun e =>
    { guard := leAt e 0 1, static := leAt e 1 1 == 1, source := leAt e 2 2 }

/-- R150. -/
def Cell.valid (n : Nat) (x : Cell) : Bool :=
  !(x.latch && decide (x.timer ≠ 0)) && decide (x.timer ≠ 3)
    && (if x.timer = 0 then x.timerN == 0 else decide (1 ≤ x.timerN))
    && (!x.latch || vecGet 0 x.sel 5 == 0)
    && x.sel.toList.all fun v => inNamespace v && !(decide (0x400 + n ≤ v) && decide (v ≤ 0x7FF))

def fabricOk (c : Bytes) (balls : List (Nat × Nat)) : Bool :=
  decide (8 ≤ c.length) && c.length == 8 + 24 * cellCount c + 4 * guardCount c && decide (1 ≤ cellCount c)
    && decide (cellCount c ≤ 1024) && decide (guardCount c ≤ 256) && zeroAt c 4 4
    && (chunks 24 (slice c 8 (24 * cellCount c))).all (fun e => decide (leAt e 20 1 < 8))
    && (parseCells c).all (Cell.valid (cellCount c))
    && distinct ((parseGuards c).map (·.guard))
    && (chunks 4 (slice c (8 + 24 * cellCount c) (4 * guardCount c))).all (fun e => decide (leAt e 1 1 ≤ 1))
    && (parseGuards c).all fun g => decide (g.source < cellCount c) && hasBall balls (0x200 + 2 * g.guard)
        && hasBall balls (0x201 + 2 * g.guard)

/-! ## The whole recipe -/

/-- Check 10 of R127. -/
def contentOk (bs : Bytes) : Bool :=
  let balls := parseBalls (contentOf bs 2)
  (imgDirectory bs).all (fun e => framesFormOk (e.typ == 3) (sectionFrames bs e))
    && deviceOk (contentOf bs 1) && ballsOk (contentOf bs 2) && portsOk (contentOf bs 3) balls
    && classesOk (contentOf bs 4) && queuesOk (contentOf bs 5) && entropyOk (contentOf bs 6)
    && supplyOk (contentOf bs 7) balls && glazeOk (contentOf bs 8) balls && settingsOk (contentOf bs 9)
    && fabricOk (contentOf bs 10) balls

def orDefault (v d : Nat) : Nat := if v = 0 then d else v

/-- The recipe a verified image holds. -/
def parseRecipe (bs : Bytes) : Recipe :=
  let dev := contentOf bs 1
  let ent := contentOf bs 6
  let glz := contentOf bs 8
  { generation := imgGeneration bs, floor := imgFloor bs,
    hashes := (imgDirectory bs).map fun e => (e.typ, BitVec.ofNat 256 e.hash)
    tamperMask := BitVec.ofNat 8 (leAt dev 0 1), requireGo := leAt dev 1 1 % 2 == 1, lostQuar := leAt dev 1 1 / 2 == 1
    drainPlait := orDefault (leAt dev 4 4) 2000, drainEngine := orDefault (leAt dev 8 4) 2000
    balls := parseBalls (contentOf bs 2), ports := parsePorts (contentOf bs 3), acc := parseAcc (contentOf bs 4)
    ctr := parseCtr (contentOf bs 4), queues := parseQueues (contentOf bs 5)
    chanA := leAt ent 0 1 % 2 == 1, chanB := leAt ent 0 1 / 2 == 1
    rctA := orDefault (leAt ent 2 2) 24, rctB := orDefault (leAt ent 4 2) 41
    aptA := orDefault (leAt ent 6 2) 635, aptB := orDefault (leAt ent 8 2) 802
    reseedInt := orDefault (leAt ent 10 2) 1024
    supply := parseSupply (contentOf bs 7)
    glzOn := leAt glz 0 1 == 1, glzRates := BitVec.ofNat 5 (leAt glz 1 1), glzLed := leAt glz 2 1,
    glzIdleS := leAt glz 3 1, glzLockMs := orDefault (leAt glz 4 2) 100
    settings := parseSettings (contentOf bs 9), cells := parseCells (contentOf bs 10)
    guards := parseGuards (contentOf bs 10) }

/-! ## Verification (R127) -/

/-- The message the signature covers: the header and the directory (R111). -/
def signedPart (bs : Bytes) : Bytes := slotRead bs 0 128 ++ slotRead bs 0x140 (64 * imgSections bs)

/-- Checks 1–10 in order, with their result codes. -/
def State.slotChecks (s : State) (bs : Bytes) : List (Nat × Bool) :=
  let signer := s.slot (slotU bs 0x80 1)
  [ (2, imgHeaderOk bs),
    (3, decide (slotU bs 0x30 2 ≤ s.otp.revision.toNat) && decide (s.otp.revision.toNat ≤ slotU bs 0x32 2)),
    (4, imgBinding bs == 0 || (s.identityReadable && imgBinding bs == s.binding.toNat)),
    (5, decide (slotU bs 0x80 1 ≤ 3) && signer.isActive && Config.sha256 (slotRead bs 0x84 64) == signer.hash),
    (6, ecdsaVerifies (BitVec.ofNat 512 (beNat (slotRead bs 0x84 64))) (signedPart bs) (slotRead bs 0xC4 64)),
    (7, decide (s.otp.rollback ≤ imgFloor bs)),
    (8, directoryOk bs),
    (9, (imgDirectory bs).all fun e => framesOk e.typ (sectionFrames bs e) 0 0 e.len),
    (10, (imgDirectory bs).all fun e => (Config.sha256 (sectionFrames bs e).flatten).toNat == e.hash),
    (11, contentOk bs) ]

/-- The first check that fails decides; a read error decides at the check whose read fails. -/
def firstFailure (err : Option Nat) : Nat → List (Nat × Bool) → Nat
  | _, [] => 15
  | k, (code, ok) :: l => if err = some k then 12 else if ok then firstFailure err (k + 1) l else code

/-- The result of verifying a slot: 1 ERASED, 2–12, or 15 VALID. -/
def State.verifySlot (s : State) (bs : Bytes) (v : SlotVerdict) : Nat :=
  if v.readErrAt = some 1 then 12
  else if slotU bs 0 4 = 0xFFFFFFFF then 1
  else firstFailure v.readErrAt 1 (s.slotChecks bs)

end Sys2Proof.Machine
end

