-- ==== Sys2Proof/Machine/Plait.lean ====
section
/-! DEFINITION. The work of a Plait port (R183, R394): what it serves next, how each command begins (R212), and what the
end of a command does for a beat, a catch-up, a collection, an authentication or a host operation (R231–R235, R370). -/

namespace Sys2Proof.Machine

/-! ## Preparing a beat (R404, R409, R410) -/

/-- The page of the record of a position. -/
def Pos.page (x : Pos) : Nat := match x.record with | none => 0 | some n => recordPage n

/-- A preparation that holds nothing yet, with the values it is made under. -/
def State.prepNew (s : State) (p i : Nat) : BeatPrep :=
  let x := s.pos p i
  { nonce := none, mac := 0, count := match x.record with | none => 0 | some n => s.count n
    snap := match x.session with | none => 0 | some h => h.snap
    tagId := x.tagId.getD 0
    epoch := match x.session with | none => 0 | some h => h.epoch
    rcpGen := s.rcp.gen, page := x.page, copy := none, version := 0, frame := false, body := [], lane := none }

/-- The frame of a CHALLENGE without ACK and CRC (R404 step 4). -/
def challengeBody (i : Nat) (nonce : BitVec 64) : List Bool :=
  bitsMsbOf 6 i ++ bitsMsbOf 8 opChallenge ++ bitsMsb (beBytes 8 nonce.toNat) ++ [false, false, false, true]

/-- A nonce, the expected MAC over the values now in force, and the frame. -/
def State.prepMac (s : State) (p i : Nat) (b : BeatPrep) (nonce : BitVec 64) : BeatPrep :=
  let n := s.prepNew p i
  let m := match (s.pos p i).session with
    | none => 0
    | some h => BitVec.ofNat 64 (beNat (macBeat h.ktb h.epoch nonce n.count n.snap))
  { b with nonce := some nonce, mac := m, count := n.count, snap := n.snap, body := challengeBody i nonce, lane := none }

/-- Confirmed preparation, as far as the page and the Proofer's output allow. -/
def State.prepare (s : State) (p : Nat) (j : Job) : State :=
  let b := match j.prep with | none => s.prepNew p j.pos | some b => b
  let r := if b.copy.isSome then (s, PageState.ready) else s.needPage b.page (posCtx p j.pos)
  if r.2 = .poisoned then r.1.dropJobs p fun k => k.kind == jobBeat && k.pos == j.pos
  else
    let s := r.1
    let b := if r.2 = .ready ∧ b.copy = none then { b with copy := some (s.record ((s.pos p j.pos).record.getD 0)) } else b
    match b.nonce with
    | some _ => s.setJob p { j with prep := some b }
    | none => match s.draw 8 with
      | none => s.setJob p { j with prep := some b }
      | some (bs, t) => t.setJob p { j with prep := some (s.prepMac p j.pos b (BitVec.ofNat 64 (beNat bs))) }

/-- A beat is prepared. -/
def BeatPrep.whole (b : BeatPrep) : Bool := b.copy.isSome && b.nonce.isSome

/-! ## What a port serves next (R183, R394) -/

inductive Work where
  | none
  | reset
  | assign
  | check (c : ChainCheck)
  | host (o : Op)
  | probe
  | job (j : Job)
deriving DecidableEq, Repr

/-- VERIFY MODE 0. -/
def Op.fullVerify (o : Op) : Bool := o.desc.opcode == 0x01 && o.desc.param0 == 0

/-- The session of a position has used its last MSEQ: a full authentication comes first (R230). -/
def State.seqSpent (s : State) (p i : Nat) : Bool :=
  match (s.pos p i).session with
  | none => false
  | some h => h.mseq == 2 ^ 32 - 1

/-- A host operation in the port's queue can have its next transaction. -/
def State.hostReady (s : State) (p ctx : Nat) : Option Op :=
  match s.op ctx with
  | none => none
  | some o =>
    if (o.desc.opcode = 0x10 ∨ o.desc.opcode = 0x31) ∧ s.seqSpent p o.desc.position = true then none
    else if o.fullVerify then
      match s.auth p o.desc.position with
      | none => some o
      | some a => if a.owner = .host ctx ∧ a.stage.onWire = true then some o else none
    else some o

/-- A released job can have its next transaction. -/
def State.jobReady (s : State) (p : Nat) (j : Job) : Bool :=
  let x := s.pos p j.pos
  j.ctx &&
    (if j.kind = jobBeat then x.session.isSome && s.aesLane && (match j.prep with | none => false | some b => b.whole)
     else if j.kind = jobCatchup then x.session.isSome && x.record.isSome && s.aesLane && !s.seqSpent p j.pos
     else if j.kind = jobAuth then (match x.auth with
       | none => false
       | some a => a.owner == .auth && a.stage.onWire)
     else if j.kind = jobCollect then j.todo != []
     else true)

/-- The next work of a port. A chain check under way is one transaction (R183); a port that drains begins no other
(R202; assumption log 103). -/
def State.nextWork (s : State) (p : Nat) : Work :=
  let x := s.port p
  let active := s.unitIs p .active
  let begun : Bool := match x.check with | none => false | some c => decide (c.pos + 1 < c.next)
  if s.mode ≠ .service ∨ x.entry = none then .none
  else if begun && x.txn.isNone then (match x.check with | none => .none | some c => .check c)
  else if x.busy || !(active || s.unitIs p .rejoining) then .none
  else if x.state = .enumerate then (if x.expect then .assign else .none)
  else if x.resetDue then .reset
  else if x.state = .running ∧ x.reenum = true ∧ active = true then .reset
  else if x.state ≠ .running ∨ x.txn.isSome = true ∨ active = false then .none
  else match x.hostq.findSome? (s.hostReady p) with
    | some o => .host o
    | none => match x.check with
      | some c => .check c
      | none =>
        if x.uprobe || x.probeReq then .probe
        else match minBy Job.key (x.jobs.filter fun j => s.jobReady p j) with
          | none => .none
          | some j => if j.kind = jobProbe then .probe else .job j

/-- The opcode of the next frame of a work. -/
def State.workOp (s : State) (p : Nat) (w : Work) : Nat :=
  let authOp (i : Nat) : Nat := match s.auth p i with
    | none => opReadCert
    | some a => if a.stage = .agree then opKeyAgree else opReadCert
  match w with
  | .none => 0
  | .reset => 0
  | .probe => 0
  | .assign => opAssign
  | .check _ => opPing
  | .host o =>
    match o.desc.opcode with
    | 0x01 => if o.fullVerify then authOp o.desc.position else opChallenge
    | 0x10 => opConsume
    | 0x30 => opReadMem
    | _ => opWriteMem
  | .job j =>
    if j.kind = jobBeat then opChallenge else if j.kind = jobCatchup then opCatchup
    else if j.kind = jobAuth then authOp j.pos else opCollect

/-! ## Numbered commands (R230) -/

/-- The next MSEQ of a session; a full authentication is due before it would pass its end. -/
def State.nextSeq (s : State) (p i : Nat) : State × Option TagSession :=
  let x := s.pos p i
  match x.session with
  | none => (s, none)
  | some h =>
    let m := h.mseq + 1
    let s := if 2 ^ 32 - 1 ≤ m then s.authDue p i s.tick.toNat else s
    if 2 ^ 32 ≤ m then (s, none)
    else
      let h := { h with mseq := m }
      (s.setPos p i { s.pos p i with session := some h }, some h)

/-- Starts a numbered command: MSEQ_LO, its content, CMAC4. -/
def State.startSeq (s : State) (p i : Nat) (owner : Owner) (op : Nat) (label : String) (tail : Bytes) : State × Bool :=
  let r := s.nextSeq p i
  match r.2 with
  | none => (r.1, false)
  | some h =>
    let payload := leBytes 1 h.mseq ++ tail ++ macSeq h.kbt 4 label h.mseq tail
    (r.1.startTxn p owner op i payload ((r.1.pos p i).nvHold * 10), true)

/-- An answer's MAC over the numbered command it answers is right. -/
def State.seqRight (s : State) (p i : Nat) (label : String) (tail payload : Bytes) : Bool :=
  match (s.pos p i).session with
  | none => false
  | some h => payload == macSeq h.ktb 7 label h.mseq tail

/-! ## Host operations on a position (R36, R370) -/

/-- R36 step 2 and R370: the status that ends an operation before it runs; `unverified` is that of an UNVERIFIED position,
none where the operation runs there. A port in FAULT has no tag at any position (R200). -/
def State.posGate (s : State) (d : Desc) (unverified : Option Status) : Option Status :=
  let x := s.port d.port
  if x.entry = none ∨ x.state = .fault then some .absent
  else if x.state ≠ .running then some .retryLater
  else
    let v := (x.at d.position).verdict
    if v = 0 then some .absent else if v = 3 then some .notGenuine else if v = 1 then unverified else none

/-- The status for an UNVERIFIED position, by opcode. -/
def Desc.unverified (d : Desc) : Option Status :=
  if d.opcode = 0x30 ∨ (d.opcode = 0x01 ∧ d.param0 = 0) then none else some .retryLater

/-- AES work of a host operation: now, once an engine is back, or never (R387). -/
def State.aesWait (s : State) (o : Op) : Option Bool :=
  if s.engineActive aesUnits (s.affinity o.q) then some true
  else if s.engineReturning aesUnits (s.affinity o.q) then some false
  else none

/-- The octets of TAG_WRITE's PARAM1, in memory order. -/
def Desc.data (d : Desc) : Bytes := leBytes 8 d.param1.toNat

/-- ADDR8 and DATA of a TAG_WRITE. -/
def Desc.memTail (d : Desc) : Bytes := beBytes 2 d.param0.toNat ++ d.data

/-- An authentication's next transaction begins. -/
def State.startAuth (s : State) (p i : Nat) (owner : Owner) : State :=
  let a := match s.auth p i with | none => authNew owner | some a => a
  let s := s.setAuth p i (some { a with begun := true })
  match a.stage with
  | .cert k => s.startTxn p owner opReadCert i [BitVec.ofNat 8 k] 0
  | .agree =>
    let epoch := match (s.pos p i).record with | none => 0 | some n => (s.record n).epoch
    (s.dropSession p i).startTxn p owner opKeyAgree i (beBytes 64 a.epub.toNat ++ s.bindingBytes ++ beBytes 4 epoch.toNat)
      (certKaHold a.cert * 1000)
  | _ => s

/-- A CHALLENGE for VERIFY MODE 1, with a fresh nonce. -/
def State.startHostBeat (s : State) (p : Nat) (o : Op) : State :=
  match s.draw 8 with
  | none => s
  | some (bs, t) =>
    (t.setOp { o with data := bs }).unqueue p o.ctx |>.startTxn p (.host o.ctx) opChallenge o.desc.position bs 0

/-- A host operation's transaction begins, after the checks of its dispatch to the port (R372, R387). -/
def State.startHost (s : State) (p : Nat) (o : Op) : State :=
  let d := o.desc
  let i := d.position
  let end_ (st : Status) : State := (s.unqueue p o.ctx).endPortOp o.ctx st
  if !o.pastPoint && s.isLate d then
    (match s.auth p i with
    | none => end_ .late
    | some a => if a.owner = .host o.ctx then (s.unqueue p o.ctx).authDropped p i a .late else end_ .late)
  else if o.fullVerify then
    match s.posGate d d.unverified with
    | some st => end_ st
    | none => (s.unqueue p o.ctx).startAuth p i (.host o.ctx)
  else if d.opcode = 0x10 then
    match s.aesWait o with
    | some true =>
      let r := (s.unqueue p o.ctx).startSeq p i (.host o.ctx) opConsume "CN" (beBytes 6 o.count)
      if r.2 then r.1 else r.1.endPortOp o.ctx .tagError
    | some false => s
    | none => end_ .cancelled
  else match s.posGate d d.unverified with
    | some st => end_ st
    | none =>
      if d.opcode = 0x30 then
        (s.unqueue p o.ctx).startTxn p (.host o.ctx) opReadMem i (beBytes 2 (d.param0.toNat + o.offset)) 0
      else if s.aesWait o ≠ some true then end_ .retryLater
      else if d.opcode = 0x31 then
        let r := (s.unqueue p o.ctx).startSeq p i (.host o.ctx) opWriteMem "WM" d.memTail
        if r.2 then r.1 else r.1.endPortOp o.ctx .tagError
      else if (s.pos p i).session.isNone then end_ .retryLater
      else s.startHostBeat p o

/-! ## Jobs -/

/-- A job's next transaction begins. -/
def State.startJob (s : State) (p : Nat) (j : Job) : State :=
  if j.kind = jobBeat then
    match j.prep with
    | none => s
    | some b => s.startTxn p .beat opChallenge j.pos (beBytes 8 (b.nonce.getD 0).toNat) 0
  else if j.kind = jobCatchup then
    match (s.pos p j.pos).record with
    | none => s
    | some n => (s.startSeq p j.pos .catchup opCatchup "CU" (beBytes 6 (s.count n))).1
  else if j.kind = jobAuth then s.startAuth p j.pos .auth
  else if j.kind = jobCollect then
    match j.todo with
    | [] => s
    | i :: _ => s.startTxn p .collect opCollect i [] 0
  else s.startTxn p .prio opCollect j.pos [] 0

/-- A command of R212 begins on a port, if it is the port's next. -/
def State.plaitCommand (s : State) (p op : Nat) : State :=
  let w := s.nextWork p
  if s.workOp p w ≠ op then s
  else match w with
    | .none => s
    | .reset => s
    | .probe => s
    | .assign =>
      let x := s.port p
      (s.setPort p { x with expect := false }).startTxn p .enum opAssign x.enumPos [BitVec.ofNat 8 x.enumPos] 0
    | .check c => s.startTxn p .check opPing c.next [] 0
    | .host o => s.startHost p o
    | .job j => s.startJob p j

/-- FINISH with the remaining hold (R216). -/
def State.finishCommand (s : State) (p : Nat) : State :=
  match (s.port p).txn with
  | none => s
  | some t => if t.due then s.launch p t else s

/-- PLAIT_RESET (R184): from CHARGE at the end of its charge period, or after the transaction in progress. -/
def State.plaitReset (s : State) (p : Nat) : State :=
  match s.nextWork p with
  | .reset => (if (s.port p).state = .charge then s else s.resetBegins p).driveReset p
  | _ => s

/-- The TRIM of a probe (R189). -/
def State.probeTrim (s : State) (p : Nat) : State :=
  match s.nextWork p with
  | .probe =>
    let x := s.port p
    let t : Txn := { owner := .probe, op := opTrim, pos := 0, payload := [BitVec.ofNat 8 x.chainLen], tries := 0, holdUs := 0
                     holdUsed := 0, holding := false, finish := false, due := false, silent := true }
    (s.setPort p { x with trimSent := true }).emit (.plaitFrame p (t.body x))
  | _ => s

/-- A probe (R189): its TRIM, unless that has been sent, the low, and the presence window. -/
def State.plaitProbe (s : State) (p : Nat) : State :=
  let s := s.probeTrim p
  let x := s.port p
  if x.trimSent && x.window == .none then
    (s.setPort p { x with window := .presence true }).emit (.plaitLow p 70)
  else s

/-! ## Ends of commands -/

/-- A beat's answer (R231, R410). The next beat of the series may be released already (R393). -/
def State.beatEnd (s : State) (p : Nat) (e : CmdEnd) : State :=
  let i := e.txn.pos
  let job := s.jobOf p jobBeat i
  let s := (s.unpin (posCtx p i)).retireJob p jobBeat i
  let s := s.setPos p i { s.pos p i with beatBusy := s.hasJob p jobBeat i }
  match e.kind with
  | .ok bs =>
    let count := beAt bs 0 6
    let x := s.pos p i
    match x.session with
    | none => s
    | some h =>
      let stale : Bool := match job with
        | none => false
        | some j => match j.prep with | none => false | some b => b.count != count || b.snap != e.snap
      let s := if stale then { s with spc := { s.spc with recomputes := satInc s.spc.recomputes } } else s
      if slice bs 6 8 = macBeat h.ktb h.epoch (BitVec.ofNat 64 (beNat e.txn.payload)) count e.snap then
        (s.setPos p i { s.pos p i with misses := 0 }).beatReconcile p i count
      else s.loseSession p i
  | .lost => s.loseSession p i
  | _ => s.miss p i s.tick.toNat

/-- A catch-up's answer (R234): one that fails, whatever the reason, leaves CATCHUP_DUE set. -/
def State.catchupEnd (s : State) (p : Nat) (e : CmdEnd) : State :=
  let i := e.txn.pos
  let s := s.retireJob p jobCatchup i
  match e.kind with
  | .ok bs =>
    if s.seqRight p i "cu" (slice e.txn.payload 1 6) bs then s.setPos p i { s.pos p i with catchupDue := false } else s
  | .lost => s.loseSession p i
  | _ => s

/-- A COLLECT has ended (R224): a round stays at a position while its receiver is inside a message, for at most 32
frames. -/
def State.collectEnd (s : State) (p : Nat) (e : CmdEnd) : State :=
  match s.jobOf p jobCollect 0 with
  | none => s
  | some j =>
    if (s.pos p e.txn.pos).sprinkle ≠ [] ∧ j.sent + 1 < 32 then s.setJob p { j with sent := j.sent + 1 }
    else if j.todo.length ≤ 1 then s.retireJob p jobCollect 0
    else s.setJob p { j with todo := j.todo.drop 1, sent := 0 }

/-- A priority collection goes on until its message ends (R224), whatever its frames do; that of a MUTE position ends
(assumption log 104). An ALERT in its last frame makes another due (R218). -/
def State.prioEnd (s : State) (p : Nat) (e : CmdEnd) : State :=
  let i := e.txn.pos
  let x := s.pos p i
  if x.sprinkle ≠ [] ∧ (s.port p).mute.getLsbD (i - 1) = false then
    match s.jobOf p jobPrio i with
    | none => s
    | some j => s.setJob p { j with sent := j.sent + 1 }
  else
    let s := s.retireJob p jobPrio i
    match e.kind with
    | .failed => s
    | .short => s
    | _ => if x.lastCrumb.getLsbD 1 then s.setPos p i { x with prioAt := some s.tick.toNat } else s

/-- The answer of a host operation is judged (R29 step 6, R370): its MAC was right or wrong. -/
def State.judged (s : State) (o : Op) (right : Bool) : State :=
  let p := o.desc.port
  let i := o.desc.position
  if right then
    match o.desc.opcode with
    | 0x10 => (s.setPos p i { s.pos p i with catchupDue := false }).endPortOp o.ctx .granted
    | 0x01 =>
      ((s.setPos p i { s.pos p i with misses := 0 }).beatReconcile p i o.count).endPortOp o.ctx .ok
    | _ => s.endPortOp o.ctx .ok
  else (s.loseSession p i).endPortOp o.ctx .notGenuine

/-- A host operation's answer waits for an AES lane when none of its set is ACTIVE (R387, R390). -/
def State.judgeHost (s : State) (o : Op) (right : Bool) : State :=
  match s.aesWait o with
  | some true => s.judged o right
  | some false => s.setOp { o with phase := .engine, data := [if right then 1 else 0] }
  | none => s.endPortOp o.ctx .cancelled

/-- 16 octets of tag memory have been read (R235). -/
def State.memRead (s : State) (p : Nat) (o : Op) (bs : Bytes) : State :=
  let o := { o with data := o.data ++ bs, offset := o.offset + 16 }
  let s := s.setOp o
  if o.offset < o.desc.bufLen then s.queueHost p (.host o.ctx)
  else if s.isLate o.desc then s.endPortOp o.ctx .late
  else s.endOp o.ctx .ok (leBytes 4 o.desc.bufLen) (some o.data)

/-- A command of a host operation has ended (R36, R196, R214, R370). -/
def State.hostEnd (s : State) (p : Nat) (o : Op) (e : CmdEnd) : State :=
  let i := e.txn.pos
  if o.fullVerify then
    if (s.auth p i).isSome then s.authCmd p i e.kind else s.endPortOp o.ctx .tagError
  else match e.kind with
    | .ok bs =>
      match o.desc.opcode with
      | 0x10 => s.judgeHost o (s.seqRight p i "cn" (slice e.txn.payload 1 6) bs)
      | 0x31 => s.judgeHost o (s.seqRight p i "wm" (slice e.txn.payload 1 10) bs)
      | 0x30 => s.memRead p o bs
      | _ =>
        let count := beAt bs 0 6
        let right : Bool := match (s.pos p i).session with
          | none => false
          | some h => slice bs 6 8 == macBeat h.ktb h.epoch (BitVec.ofNat 64 (beNat e.txn.payload)) count e.snap
        let o := { o with count := count }
        (s.setOp o).judgeHost o right
    | .lost =>
      (s.loseSession p i).endPortOp o.ctx (if o.desc.opcode = 0x10 then .tagError else .notGenuine)
    | _ => (if o.desc.opcode = 0x01 then s.miss p i s.tick.toNat else s).endPortOp o.ctx .tagError

/-- A valid answer came, whatever its TSTAT (R193). -/
def CmdKind.answered : CmdKind → Bool
  | .ok _ => true
  | .lost => true
  | .error => true
  | .failed => false
  | .short => false

/-- A command that needs no session loses it all the same by an answer that says so (R214). -/
def State.lostBy (s : State) (p : Nat) (e : CmdEnd) : State :=
  match e.kind with
  | .lost => s.loseSession p e.txn.pos
  | _ => s

/-- A command has ended, for the work it belongs to. -/
def State.workEnd (s : State) (p : Nat) (e : CmdEnd) : State :=
    match e.txn.owner with
    | .enum =>
      if (s.port p).state = .enumerate then
        s.assigned p e.txn (match e.kind with | .ok bs => some bs | _ => none)
      else s
    | .check => (s.lostBy p e).pinged p e.txn e.kind.answered
    | .probe => s
    | .beat => s.beatEnd p e
    | .catchup => s.catchupEnd p e
    | .collect => (s.lostBy p e).collectEnd p e
    | .prio => (s.lostBy p e).prioEnd p e
    | .auth => s.authCmd p e.txn.pos e.kind
    | .host ctx => match s.op ctx with
      | none => s
      | some o => s.hostEnd p o e

/-- A command has ended, if one has; chain checks with nobody left to ask end with it. -/
def State.commandEnd (s : State) (p : Nat) (e : Option CmdEnd) : State :=
  match e with
  | none => s
  | some e => State.closeChecks p 33 (s.workEnd p e)

/-! ## Line events -/

/-- UNSOLICITED_PRESENCE (R192): a presence-length low while the port is idle. -/
def State.unsolicited (s : State) (p widthUs : Nat) : State :=
  let x := s.port p
  if x.state = .running ∧ x.busy = false ∧ 25 ≤ widthUs ∧ widthUs ≤ 100 then
    (s.setPort p { x with uprobe := true }).portEvent p evUnsolicited
  else s

/-- The erasure and contention slots of a transaction that a LINE_LOW ends (R179). -/
def State.lineSlots (s : State) (l : LineSlots) : State :=
  let x := s.port l.port
  if x.txn.isSome ∧ x.spuWait = none then
    s.setPort l.port { x with
      erasures := satAdd x.erasures l.erasures, contention := satAdd x.contention l.contention }
  else s

/-- A port's line can be found at fault: it is populated, in use, and not in FAULT. -/
def Port.live (x : Port) : Bool :=
  x.state == .charge || x.state == .reset || x.state == .enumerate || x.state == .running

/-- FAULT_RECOVERY_CHECK (R201). -/
def State.recoveryCheck (s : State) (p : Nat) : State :=
  let x := s.port p
  if s.mode = .service ∧ x.state = .fault ∧ x.window = .none then s.setPort p { x with window := .release }
  else s

/-- FAULT_RELEASE_WINDOW_END (R201): the reset sequence begins with its charge period, or the port stays in FAULT. -/
def State.releaseEnd (s : State) (p : Nat) (stayedHigh : Bool) : State :=
  let x := s.port p
  if x.state = .fault ∧ x.window = .release then
    if stayedHigh then
      let s := s.resetBegins p
      s.setPort p { s.port p with state := .charge, charge := true, resetDue := true, window := .none }
    else s.setPort p { x with window := .none, reenum := false }
  else s

/-- PLT_CTRL.REENUM (R205): accepted in SERVICE with STATE RUNNING or FAULT. -/
def State.reenum (s : State) (r : Requester) (p : Nat) : State :=
  let x := s.port p
  if p < 128 ∧ s.mode = .service ∧ (x.state = .running ∨ x.state = .fault) then s.setPort p { x with reenum := true }
  else s.reject r

/-- PLT_CTRL.PROBE (R205): accepted in SERVICE with STATE RUNNING. -/
def State.probeNow (s : State) (r : Requester) (p : Nat) : State :=
  let x := s.port p
  if p < 128 ∧ s.mode = .service ∧ x.state = .running then s.setPort p { x with probeReq := true } else s.reject r

end Sys2Proof.Machine
end

