-- ==== Sys2Proof/Machine/Operations.lean ====
section
/-! DEFINITION. Host operations between their checks and their ends (R369, R370), what the counter unit, a page fetch, a
write-back round and the end of a Glaze lock bring to the work that waited for them, and `react`, which carries every
such answer on until nothing more can move. -/

namespace Sys2Proof.Machine

/-! ## Pages for an operation (R36, R343, R350) -/

/-- Goes on once a page is there: a POISONED page ends the operation, one that is being fetched holds it. -/
def State.opPage (s : State) (o : Op) (page : Nat) (k : State → State) : State :=
  let r := s.needPage page o.ctx
  match r.2 with
  | .poisoned => r.1.endOp o.ctx .integrity [] none
  | .waiting => r.1.setOp { o with phase := .page page }
  | .ready => k r.1

/-- Goes on once every page of a list is there. -/
def State.opPages (o : Op) (k : State → State) : List Nat → State → State
  | [], s => k s
  | p :: ps, s => s.opPage o p fun s => State.opPages o k ps s

/-- Waits for a Glaze commit lock on a record, or goes on (R352). -/
def State.opUnlocked (s : State) (o : Op) (n : Nat) (k : State → State) : State :=
  if s.ldr.locked.contains n then
    { s.setOp { o with phase := .lock } with ldr := { s.ldr with lockWait := s.ldr.lockWait ++ [o.ctx] } }
  else k s

/-- The last check of the deadline before the point of no return (R372, R373). -/
def State.opInTime (s : State) (o : Op) (k : State → State) : State :=
  if !o.pastPoint && s.isLate o.desc then s.endOp o.ctx .late [] none else k s

/-! ## CONSUME, INCREMENT, LIMIT_SET (R29, R286, R306) -/

/-- The operation's request waits for the counter unit. -/
def State.opCommit (s : State) (o : Op) (typ cause id value : Nat) (plusOne : Bool) : State :=
  let c : Commit :=
    { owner := .host o.ctx, typ := typ, cause := cause, id := id, value := value, plusOne := plusOne, base := 0
      serial := 0, accepted := false, tag := none }
  (s.setOp { o with phase := .commit, record := id }).arrive c

/-- CONSUME up to its commit: R36 step 2, the record's page, then the counter unit. A class without a counter gives
NOT_PERMITTED (assumption log 106). -/
def State.consumeRun (s : State) (o : Op) : State :=
  match s.posGate o.desc (some .retryLater) with
  | some st => s.endPortOp o.ctx st
  | none =>
    match (s.pos o.desc.port o.desc.position).record with
    | none => s.endPortOp o.ctx .retryLater
    | some n => s.opPage o (recordPage n) fun s =>
        if s.counterExists n then s.opCommit o 1 1 n 0 true else s.endPortOp o.ctx .notPermitted

/-- The committed CONSUME goes to its port (R29 step 5) and waits there while the port is busy (R34). One whose session is
gone before its frame is sent ends TAG_ERROR without a frame (assumption log 105). -/
def State.consumePort (s : State) (o : Op) : State :=
  let p := o.desc.port
  let s := s.setOp { o with phase := .port }
  if s.unitIs p .quiesced || s.unitIs p .rejoining || s.unitIs p .off then s.endPortOp o.ctx .cancelled
  else if (s.port p).state = .fault ∨ (s.pos p o.desc.position).session = none then s.endPortOp o.ctx .tagError
  else s.queueHost p (.host o.ctx)

/-- LIMIT_SET: a per-record counter's class is in its record's page. -/
def State.limitRun (s : State) (o : Op) : State :=
  let id := o.desc.target.toNat
  let ask (s : State) : State := s.opCommit o 2 1 id o.desc.param1.toNat false
  if globalBase ≤ id then ask s
  else if s.ldr.capacity ≤ id then s.endOp o.ctx .notPermitted [] none
  else s.opUnlocked o id fun s => s.opPage o (recordPage id) ask

/-! ## Records (R338, R353, R355) -/

/-- RECORD_READ, every page of its range pinned (R343); nothing can be read while the Larder is closed (R64). -/
def State.recordReadRun (s : State) (o : Op) : State :=
  let off := o.desc.param1.toNat
  let len := o.desc.bufLen
  if !s.ldr.isOpen || !s.readable off then s.endOp o.ctx .notPermitted [] none
  else if (List.range len).any fun i => !s.readable (off + i) then s.endOp o.ctx .boundary [] none
  else State.opPages o (fun s => s.opInTime o fun s =>
    s.endOp o.ctx .ok (leBytes 4 len) (some ((List.range len).map fun i => s.windowByte (off + i)))) (windowPages off len) s

/-- RECORD_WRITE, its data read; a record that is not BOUND is refused before its range is judged (R369). -/
def State.recordWriteRun (s : State) (o : Op) : State :=
  let n := o.desc.target.toNat
  let off := o.desc.param0.toNat
  if s.ldr.capacity ≤ n ∨ off < 0x80 then s.endOp o.ctx .notPermitted [] none
  else s.opUnlocked o n fun s => s.opPage o (recordPage n) fun s =>
    if (s.record n).state ≠ 1 then s.endOp o.ctx .notPermitted [] none
    else if 0x100 < off + o.desc.bufLen then s.endOp o.ctx .boundary [] none
    else s.opInTime o fun s => (s.writeRecord n off o.data).endOp o.ctx .ok [] none

/-- RECORD_FREE (R338). -/
def State.recordFreeRun (s : State) (o : Op) : State :=
  let n := o.desc.target.toNat
  if s.ldr.capacity ≤ n then s.endOp o.ctx .notPermitted [] none
  else s.opUnlocked o n fun s => s.opPage o (recordPage n) fun s =>
    let r := s.record n
    if r.state ≠ 1 ∨ (s.counterExists n = true ∧ s.counterClear n = false) ∨ (s.mappedAt n).isSome = true then
      s.endOp o.ctx .notPermitted [] none
    else s.opPage o (indexPageOf r.tagId) fun s => s.opInTime o fun s =>
      ((s.dropIndex r.tagId).freeRecord n).endOp o.ctx .ok [] none

/-! ## ISSUER_SET (R339, R340) -/

/-- The table slot that an accepted block changes. -/
def State.issuerSlot (s : State) (op id : Nat) : Option Nat :=
  let entry (k : Nat) : Issuer := tabGet issuerEmpty s.ldr.issuers k
  let slots := List.range 64
  let active := slots.find? fun k => (entry k).state == 1 && (entry k).id == id
  if op = 1 then
    (if active.isSome then none
     else match slots.find? fun k => (entry k).state == 2 && (entry k).id == id with
      | some k => some k
      | none => slots.find? fun k => (entry k).state == 0)
  else if op = 2 then active
  else none

/-- The checks of a block, and the slot it changes. -/
def State.issuerJudge (s : State) (b : Bytes) : Option Nat :=
  if leAt b 0 4 = 0x53494342 ∧ s.signedFor b 5 6 8 0x60 false = true ∧ leAt b 0x1C 4 = s.ldr.issuerGen
      ∧ blockSigned b 0x60 0xA0 = true ∧ (leAt b 4 1 ≠ 1 ∨ onP256 (keyAt b 0x20) = true) then
    s.issuerSlot (leAt b 4 1) (leAt b 0x18 2)
  else none

/-- ISSUER_SET on an ECC engine, with the pages of the table: the table changes at once, and the round that makes it
durable is requested. -/
def State.issuerRun (s : State) (o : Op) : State :=
  let b := o.data
  State.opPages o (fun s =>
    match s.issuerJudge b with
    | none => s.endOp o.ctx .notPermitted [] none
    | some k =>
      if s.spw.early || s.ldr.holdoff.isSome then s.endOp o.ctx .supplyHold [] none
      else s.opInTime o fun s =>
        let gen := (s.ldr.issuerGen + 1) % 2 ^ 32
        let old := tabGet issuerEmpty s.ldr.issuers k
        let e : Issuer := if leAt b 4 1 = 1 then
            { id := leAt b 0x18 2, state := 1, gen := gen, key := BitVec.ofNat 512 (beAt b 0x20 64) }
          else { old with state := 2 }
        let need := Need.issuer o.ctx s.ldr.issuers s.ldr.issuerGen
        let s := s.setOp { o with phase := .round, pastPoint := true, count := gen }
        ({ s with ldr := { s.ldr with
            issuers := tabSet issuerEmpty s.ldr.issuers k e, issuerGen := gen, needs := s.ldr.needs ++ [need] } }).touchPage
          (issuerPage k)) issuerPages s

/-- ISSUER_SET in its context: `buf` is the in-buffer read. -/
def State.issuerOp (s : State) (o : Op) (buf : Option Bytes) : State :=
  match buf with
  | none => s.endOp o.ctx .badDescriptor [] none
  | some b =>
    let o := { o with data := b }
    s.onEcc o fun s => s.issuerRun o

/-! ## ANCHOR_ACK (R304, R305) -/

/-- The floors of a token: counter and floor. -/
def ackFloors (b : Bytes) : List (Nat × Nat) :=
  (chunks 12 (b.drop 0xA8)).map fun e => (leAt e 0 4, leAt e 4 6)

/-- SIGNATURE of a token, over octets 0x00–0x67 and the floors (R304). -/
def ackSigned (b : Bytes) : Bool := ecdsaVerifies (keyAt b 0x28) (b.take 0x68 ++ b.drop 0xA8) (slice b 0x68 64)

/-- The checks of a token. -/
def State.ackOk (s : State) (b : Bytes) : Bool :=
  let ids := (ackFloors b).map (·.1)
  s.mode == .quarantine && s.mod.quarCause == some .anchorLost && !s.mod.ackDone
    && leAt b 0 4 == 0x4B414342 && decide (leAt b 6 2 ≤ 64) && b.length == 168 + 12 * leAt b 6 2
    && s.signedFor b 4 5 8 0x28 false && leAt b 0x18 8 == s.cnt.headSeq && leAt b 0x20 4 == s.otp.ratchet && ackSigned b
    && ids.all (fun i => decide (i ≤ 263167)) && distinct ids

/-- The token's work is done: ACK_DONE. -/
def State.ackEnd (s : State) (o : Op) : State :=
  ({ s with mod := { s.mod with ackDone := true } }).endOp o.ctx .ok (leBytes 2 o.offset) none

/-- ANCHOR_ACK: window and room are judged first; then a rejected journal is reinitialized and the floors above their
counts are committed, all of them. -/
def State.ackRun (s : State) (o : Op) : State :=
  if !s.ackOk o.data then s.endOp o.ctx .notPermitted [] none
  else
    let due := (ackFloors o.data).filter fun e => decide (s.count e.1 < e.2)
    if !s.commitOpen || decide (s.bufferRoom < due.length) then s.endOp o.ctx .supplyHold [] none
    else s.opInTime o fun s =>
      let s := if s.cnt.reinitDue then s.reinitJournal else s
      let o := { o with phase := .commit, pastPoint := true, count := due.length, offset := due.length }
      let s := s.setOp o
      if due = [] then s.ackEnd o
      else due.foldl (fun s e => s.arrive
        { owner := .host o.ctx, typ := 1, cause := 4, id := e.1, value := e.2, plusOne := false, base := 0
          serial := 0, accepted := true, tag := none }) s

/-- ANCHOR_ACK in its context: `buf` is the in-buffer read. -/
def State.ackOp (s : State) (o : Op) (buf : Option Bytes) : State :=
  match buf with
  | none => s.endOp o.ctx .badDescriptor [] none
  | some b =>
    let o := { o with data := b }
    s.onEcc o fun s => s.ackRun o

/-! ## VERIFY, TAG_READ, TAG_WRITE (R370) -/

/-- A VERIFY MODE 0 takes the place of an authentication that is due or under way. -/
def State.verifyTake (s : State) (o : Op) : State :=
  let p := o.desc.port
  let i := o.desc.position
  let me := Owner.host o.ctx
  match s.auth p i with
  | none =>
    let s := (s.setPos p i { s.pos p i with authAt := none }).dropJobs p fun j => j.kind == jobAuth && j.pos == i
    (s.setOp { o with phase := .auth }).queueHost p me
  | some a =>
    match a.owner with
    | .host _ => (s.setOp { o with phase := .auth }).queueHost p me
    | _ =>
      let past := a.stage == .keys || a.stage == .agree || a.stage == .adopt
      let s := s.dropJobs p fun j => j.kind == jobAuth && j.pos == i
      let count := if a.stage = .adopt then a.count else o.count
      let s := (s.setOp { o with phase := .auth, pastPoint := past, count := count }).setAuth p i (some { a with owner := me })
      let x := s.port p
      match x.txn with
      | some t =>
        if t.owner = .auth ∧ t.pos = i then s.setPort p { x with txn := some { t with owner := me } }
        else if a.stage.onWire then s.queueHost p me else s
      | none => if a.stage.onWire then s.queueHost p me else s

/-- VERIFY, by its MODE. -/
def State.verifyRun (s : State) (o : Op) : State :=
  match s.posGate o.desc o.desc.unverified with
  | some st => s.endPortOp o.ctx st
  | none =>
    if o.fullVerify then s.verifyTake o
    else if (s.pos o.desc.port o.desc.position).session.isNone then s.endPortOp o.ctx .retryLater
    else (s.setOp { o with phase := .port }).queueHost o.desc.port (.host o.ctx)

/-- TAG_READ and TAG_WRITE. -/
def State.tagRun (s : State) (o : Op) : State :=
  match s.posGate o.desc o.desc.unverified with
  | some st => s.endPortOp o.ctx st
  | none => (s.setOp { o with phase := .port }).queueHost o.desc.port (.host o.ctx)

/-! ## Waiting work goes on -/

/-- An operation that waited for a page or for a lock goes on from its checks. -/
def State.resumeOp (s : State) (o : Op) : State :=
  match o.desc.opcode with
  | 0x10 => s.consumeRun o
  | 0x43 => s.limitRun o
  | 0x44 => s.recordReadRun o
  | 0x45 => s.recordWriteRun o
  | 0x46 => s.recordFreeRun o
  | 0x47 => s.issuerRun o
  | _ => s

/-- A page's fetch has ended: the operations and authentications that waited for it go on. -/
def State.pageArrived (s : State) (page : Nat) : State :=
  let s := (s.sch.ops.filter fun o => o.phase == .page page).foldl (fun s o => s.resumeOp o) s
  (s.auths.filter fun e => e.2.2.stage == .bind || e.2.2.stage == .issuer).foldl (fun s e =>
    match s.auth e.1 e.2.1 with
    | none => s
    | some a => if a.stage = .issuer then s.certIssued e.1 e.2.1 a else s.authBind e.1 e.2.1 a) s

/-- PAGE_FAULT_COMPLETE (R344): the page waits until a frame can be had. -/
def State.pageDone (s : State) (page : Nat) (chk : PageCheck) : State :=
  if !s.ldr.faults.contains page || !s.frameFree then s
  else
    let s := { s with ldr := { s.ldr with faults := s.ldr.faults.filter (· != page) } }
    let r := s.fetchPage page chk true
    (if r.2 then r.1.install page else r.1).pageArrived page

/-! ## Answers of the counter unit (R294–R296) -/

/-- A host operation's request has ended. -/
def State.hostCommit (s : State) (o : Op) (e : CommitEnd) : State :=
  match e.result with
  | some st =>
    s.endOp o.ctx st (if st = .limitReached then countResult o.record e.value else []) none
  | none =>
    let done := { o with committed := true, count := e.value }
    match o.desc.opcode with
    | 0x10 => (s.setOp done).consumePort done
    | 0x11 => (s.setOp done).endOp o.ctx .ok (countResult o.record e.value) none
    | 0x43 => s.endOp o.ctx .ok (countResult o.record (s.limit o.record)) none
    | _ =>
      let left := { o with count := o.count - 1 }
      if left.count = 0 then (s.setOp left).ackEnd left else s.setOp left

/-- The ADOPT entry of a position has ended, or was not needed. -/
def State.adoptEnd (s : State) (p i : Nat) (e : CommitEnd) : State :=
  match s.auth p i with
  | none => s.setPos p i { s.pos p i with adoptWait := none }
  | some a =>
    if a.stage ≠ .adopt then s.setPos p i { s.pos p i with adoptWait := none }
    else if e.result.isNone && !e.entry then s.authAccept p i a false
    else s.authAdopted p i a e.result.isNone

/-- A request's answer reaches its owner. -/
def State.deliver (s : State) (e : CommitEnd) : State :=
  match e.owner with
  | .host ctx => match s.op ctx with
    | none => s
    | some o => s.hostCommit o e
  | .adopt p i => s.adoptEnd p i e
  | .bind p i r => s.bindCommitted p i r e.result.isNone
  | .token k => s.tokenEnd k e.result

/-- The counter unit orders what has arrived and serves what waits. -/
def State.commitPass (s : State) : State :=
  let r := s.orderArrivals.kickCommits
  r.2.foldl State.deliver r.1

/-- The body of an ADOPTION event (R377). -/
def adoptionBody (p i id old new : Nat) : Bytes :=
  [BitVec.ofNat 8 p, BitVec.ofNat 8 i, 0, 0] ++ leBytes 4 id ++ leBytes 6 old ++ leBytes 6 new

/-- An adoption that no VERIFY's authentication waits for is reported (R309). -/
def State.reportAdoption (s : State) (c : Commit) (e : Entry) : State :=
  match c.owner with
  | .adopt p i =>
    let hosted : Bool := match s.auth p i with
      | none => false
      | some a => a.stage == .adopt && (match a.owner with | .host _ => true | _ => false)
    if hosted then s else s.report 3 (adoptionBody p i e.id (s.visibleCount e.id) e.value)
  | _ => s

/-- COMMIT_ENTRY_VALID (R79, R296): the entry in progress is durable. -/
def State.commitValid (s : State) : State :=
  match s.cnt.busy, s.cnt.queue with
  | some e, c :: cs =>
    let s := (s.reportAdoption c e).latchEntry e
    ({ s with cnt := { s.cnt with queue := cs } }).deliver ⟨c.owner, none, true, e.value⟩
  | _, _ => s

/-! ## Sweeps -/

/-- The transaction of a port is this context's. -/
def State.onWire (s : State) (p ctx : Nat) : Bool :=
  match (s.port p).txn with
  | none => false
  | some t => t.owner == .host ctx

/-- An operation whose port gave its work up (a reset, a FAULT, the drain limit) ends (R36, R200, R370). -/
def State.sweepOp (s : State) (o : Op) : State :=
  let p := o.desc.port
  let i := o.desc.position
  let held := (s.port p).hostq.contains o.ctx || s.onWire p o.ctx
  match o.phase with
  | .port => if held then s else s.endPortOp o.ctx (if o.committed then .tagError else .retryLater)
  | .auth =>
    let mine : Bool := match s.auth p i with | none => false | some a => a.owner == .host o.ctx
    if held || mine then s
    else s.endPortOp o.ctx (if (s.pos p i).verdict = 0 then .absent else .retryLater)
  | .engine =>
    if !o.desc.onPort then s
    else match s.aesWait o with
      | some true => s.judged o (o.data == [1])
      | some false => s
      | none => s.endPortOp o.ctx .cancelled
  | _ => s

def State.sweepOps (s : State) : State :=
  s.sch.ops.foldl (fun s o => match s.op o.ctx with | none => s | some o => s.sweepOp o) s

/-- Released beats go on with their preparation (R404). -/
def State.prepareAll (s : State) : State :=
  s.ports.foldl (fun s e =>
    (e.2.jobs.filter fun j => j.kind == jobBeat && !(match j.prep with | none => false | some b => b.whole)).foldl
      (fun s j => s.prepare e.1 j) s) s

/-! ## ECC engines (R386, R387) -/

/-- Work that waits for an ECC engine. -/
inductive EccWork where
  | auth (port pos : Nat) (a : Auth)
  | op (o : Op)
deriving DecidableEq, Repr

/-- An operation's turn on an ECC engine: one lifecycle request is carried out at a time (R102). -/
def State.eccMay (s : State) (o : Op) : Bool :=
  o.phase == .ecc && !(o.desc.opcode == 0x41 && (s.life.blowing.isSome || s.life.retireWait))
    && (s.idleEcc (s.affinity o.q)).isSome

/-- The work that an idle engine is to be had for, with its place in the order of R386. -/
def State.eccWaiting (s : State) : List (Nat × EccWork) :=
  ((s.auths.filter fun e => e.2.2.wantsEngine && (s.idleEcc (s.engineSet e.2.2)).isSome).map fun e =>
      (s.engineKey e.1 e.2.1 e.2.2, EccWork.auth e.1 e.2.1 e.2.2))
    ++ (s.sch.ops.filter s.eccMay).map fun o => ((o.eff * 2) * 65536 + o.q, EccWork.op o)

/-- An operation on its ECC engine. -/
def State.eccRun (s : State) (o : Op) : State :=
  match o.desc.opcode with
  | 0x40 => s.identifyRun o
  | 0x41 => s.lifecycleRun o
  | 0x42 => s.ackRun o
  | _ => s.issuerRun o

/-- The waiting work first in order gets its engine. -/
def State.assignEcc (s : State) : State :=
  match minBy (fun e : Nat × EccWork => e.1) s.eccWaiting with
  | none => s
  | some (_, .auth p i a) => s.assignAuth p i a
  | some (_, .op o) => s.opInTime o fun s => s.eccRun o

/-- An operation that waits for an ECC engine when none of its set is ACTIVE any more (R387). -/
def State.eccLost (s : State) (o : Op) : State :=
  if s.engineActive eccUnits (s.affinity o.q) then s else s.endOp o.ctx .retryLater [] none

/-- Draws and engines for the work that waits for them. -/
def State.engineKick (s : State) : State :=
  let s := (s.auths.filter fun e => e.2.2.stage == .keys && e.2.2.priv.isNone).foldl (fun s e => s.drawKey e.1 e.2.1 e.2.2) s
  let s := (s.auths.filter fun e => e.2.2.unit.isNone && (e.2.2.stage == .verify || e.2.2.stage == .keys)).foldl
    (fun s e => s.hostEngine e.1 e.2.1 e.2.2) s
  let waiting := s.sch.ops.filter fun o => o.phase == .ecc
  let s := waiting.foldl State.eccLost s
  (List.range (8 + waiting.length)).foldl (fun s _ => s.assignEcc) s

/-- Everything that can move at once does: answers of the counter unit, engines, waiting operations, beats, Glaze, and
the beat contexts that have become free. -/
def State.react (s : State) : State :=
  let s := s.engineKick.sweepOps.prepareAll.glzAnswer
  let s := s.commitPass.glzAdvance.commitPass.commitPass
  let s := s.serveStalled.glzResume
  State.giveCtx s.ctxWaiters.length s

/-! ## Locks and rounds (R347, R351, R352) -/

/-- The lock ends. A commit whose round committed lets the waiters go on; otherwise its staged changes are withdrawn and
each waiter completes LOCKED. -/
def State.lockEnd (s : State) (committed : Bool) : State :=
  if s.ldr.locked = [] then s.glzLockEnded committed
  else
    let waiters := s.ldr.lockWait
    let s := if committed then s else s.unstage
    let s := s.unlock committed
    let s := { s with ldr := { s.ldr with
      lockWait := [], needs := s.ldr.needs.filter (· != Need.glaze)
      running := s.ldr.running.map fun (r : Round) => { r with needs := r.needs.filter (· != Need.glaze) } } }
    let s := waiters.foldl (fun s c => match s.op c with
      | none => s
      | some o => if committed then s.resumeOp o else s.endOp c .locked [] none) s
    s.glzLockEnded committed

/-- What a committed round brings to one of its needs. -/
def State.needMet (s : State) (n : Need) : State :=
  match n with
  | .bind p i r => s.bindEnded p i r true
  | .issuer ctx _ _ => match s.op ctx with
    | none => s
    | some o => s.endOp ctx .ok (leBytes 4 o.count) none
  | .glaze => s.lockEnd true
  | .flush => s
  | .prelude => s

/-- What an abandoned round withdraws. -/
def State.needLost (s : State) (n : Need) : State :=
  match n with
  | .bind p i r => s.bindEnded p i r false
  | .issuer ctx old gen =>
    let later := s.ldr.needs.filterMap fun m => match m with | .issuer c _ _ => some c | _ => none
    let s := { s with ldr := { s.ldr with
      issuers := old, issuerGen := gen
      needs := s.ldr.needs.filter fun m => match m with | .issuer _ _ _ => false | _ => true } }
    (ctx :: later).foldl (fun s c => s.endOp c .retryLater [] none) s
  | .glaze => s.lockEnd false
  | .flush => s
  | .prelude => s

/-- WRITEBACK_ROUND_READBACK (R346, R347): not while a page fault's read suspends the round (R463). -/
def State.roundEnd (s : State) (ok : Bool) : State :=
  match s.ldr.running with
  | none => s
  | some r =>
    if s.recordSuspended then s
    else if ok then r.needs.foldl State.needMet (s.roundCommit r)
    else r.needs.reverse.foldl State.needLost (s.roundAbandon r)

end Sys2Proof.Machine
end

