-- ==== Sys2Proof/Machine/Queues.lean ====
section
/-! DEFINITION. The commands of the queue pairs and their descriptors (R358–R381), and those that bring the answers of
engines, counter unit, page fetches, rounds and locks. -/

namespace Sys2Proof.Machine

/-! ## Enabling and disabling (R359, R361) -/

/-- The conditions of R359. -/
def State.mayEnable (s : State) (q : Nat) : Bool :=
  let x := s.queue q
  (s.queueEntry q).isSome && x.state == 0 && decide (1 ≤ x.log2) && decide (x.log2 ≤ 12)
    && x.sqBase.toNat % 4096 == 0 && x.cqBase.toNat % 4096 == 0
    && decide (x.sqBase.toNat + 64 * x.size ≤ 2 ^ 64) && decide (x.cqBase.toNat + 32 * x.size ≤ 2 ^ 64)
    && (s.mode == .service || s.mode == .quarantine || (s.mode == .stage && s.stepDone 6))

/-- A queue becomes RUNNING. -/
def Queue.started (x : Queue) : Queue :=
  { x with
    enable := true, state := 1, err := 0, fetch := 0, tail := 0, write := 0, head := 0, phase := true, unread := 0
    rttNs := 2000, bq := 8, buf := [], reading := 0, evBufs := [], unsent := 0, oldest := none, moved := 0, rate := []
    overrun := 0 }

/-- ENABLE is written 1. -/
def State.queueEnable (s : State) (r : Requester) (q : Nat) : State :=
  if s.mayEnable q then s.setQueue q (s.queue q).started else s.reject r

/-- ENABLE is written 0: descriptors without a context complete CANCELLED. -/
def State.queueDisable (s : State) (q : Nat) : State :=
  let x := s.queue q
  if x.state = 1 ∨ x.state = 3 then
    let s := (s.setQueue q { x with enable := false, state := 2, err := 0, buf := [], evBufs := [], reading := 0 }).dropStore q
    ((x.evBufs ++ x.buf.map (·.desc)).foldl (fun s d => s.complete q d .cancelled [] none false) s).settleQueue q
  else s.setQueue q { x with enable := false }

/-- A write to QUE_CTRL.ENABLE reaches a queue that Stage has loaded. -/
def State.enableWrite (s : State) (q : Nat) (on : Bool) : State :=
  if 1024 ≤ q ∨ s.stepDone 6 = false then s.reject .pcie
  else if on then s.queueEnable .pcie q else s.queueDisable q

/-! ## Doorbells (R362, R363) -/

/-- A read of BAR2 answers 0 at every offset. -/
def bar2Read (_off : Nat) : Word := 0

def State.dropDoorbell (s : State) : State := { s with sts := { s.sts with dbDrops := satInc s.sts.dbDrops } }

/-- A doorbell takes effect on a RUNNING queue; any other is dropped and counted. -/
def State.doorbell (s : State) (q width : Nat) (f : Queue → State → State) : State :=
  if 1024 ≤ q ∨ (width ≠ 4 ∧ width ≠ 8) ∨ (s.queue q).state ≠ 1 then s.dropDoorbell else f (s.queue q) s

/-- The submission tail. -/
def State.sqTail (s : State) (q v width : Nat) : State :=
  s.doorbell q width fun x s =>
    if x.size ≤ v % 4096 then s.queueError q 1 else s.setQueue q { x with tail := v % 4096 }

/-- The completion head: it releases the entries before it. -/
def State.cqHead (s : State) (q v width : Nat) : State :=
  s.doorbell q width fun x s =>
    let h := v % 4096
    let n := (h + x.size - x.head) % x.size
    if x.size ≤ h ∨ x.unread < n then s.queueError q 1
    else s.setQueue q { x with head := h, unread := x.unread - n }

/-! ## Descriptor reads (R362, R372, R378, R379) -/

/-- A fetched descriptor that is past its deadline completes at the fetch, with the status of the first check it fails, and
so does one that a read begun before QUARANTINE brings to a queue that is not served there (R52, R361); any other goes to
the prefetch buffer. -/
def State.fetched (s : State) (q : Nat) (d : Desc) : State :=
  if s.mode = .quarantine ∧ s.queueClass q ≠ 5 then s.complete q d .quarantined [] none false
  else if s.isLate d then
    s.complete q d (match s.formRefusal q d with | some st => st | none => .late) [] none false
  else s.setQueue q { s.queue q with buf := (s.queue q).buf ++ [{ desc := d, fetched := s.tick }] }

/-- The estimate of the round trip after a sample, in ns. -/
def rttNext (old sample : Nat) : Nat := (7 * old + sample) / 8

/-- The answer to the read a queue has issued. -/
def State.readDone (s : State) (q : Nat) (ans : ReadAnswer) (rttNs : Nat) : State :=
  let x := s.queue q
  if x.reading = 0 then s
  else match ans with
    | .error => s.queueError q 2
    | .descriptors ds =>
      let ds := ds.take x.reading
      let s := s.setQueue q { x with
        reading := 0, fetch := (x.fetch + ds.length) % x.size, rttNs := min 65535 (rttNext x.rttNs rttNs) }
      (ds.foldl (fun s b => s.fetched q (parseDesc b)) s).rejectUnknown q

/-- EVENT_BUF (R375, R376): a buffer the queue holds, given to the events that wait for one. -/
def State.eventBuf (s : State) (q : Nat) : State :=
  match (s.queue q).buf with
  | [] => s
  | h :: _ =>
    if h.desc.opcode ≠ 0x50 then s
    else
      let s := s.popHead q
      let s := match s.formRefusal q h.desc with
        | some st => s.complete q h.desc st [] none false
        | none =>
          let x := s.queue q
          (s.setQueue q { x with evBufs := x.evBufs ++ [h.desc], moved := x.moved + 1 }).drainStore q
      s.rejectUnknown q

/-- IRQ_COALESCE_TIMEOUT (R366): the oldest entry not yet reported is older than QUE_IRQ.TIME_US. -/
def State.irqTimeout (s : State) (q : Nat) : State :=
  let x := s.queue q
  if x.irqEn && decide (x.unsent ≠ 0) then (s.setQueue q { x with unsent := 0, oldest := none }).signal q else s

/-! ## Engines (R386, R389, R390) -/

/-- What follows when an engine or a Proofer instance has left service with work it had not delivered. -/
def State.unitLost (s : State) (u : Nat) : State :=
  if u < 136 then s.engineLost u
  else if u < 168 then s.squashLane u
  else if u < 176 then s.shaLost.entropyReact
  else (s.prfLeave (u - 176)).prfReact

/-- A self-test has failed: the unit is recorded and goes OFF in the same cycle. -/
def State.selftestFailed (s : State) (u : Nat) : State :=
  let s := { s with
    sch := { s.sch with selfFails := satInc s.sch.selfFails, lastFail := u, lastFailOk := true }
    rcp := { s.rcp with testOff := insertNew s.rcp.testOff u } }
  (s.moveUnit u { s.unit u with st := .off, passed := false }).unitLost u

/-- ENGINE_SELFTEST of an ACTIVE engine. -/
def State.selftest (s : State) (u : Nat) (pass : Bool) : State :=
  if 128 ≤ u ∧ u < 176 ∧ s.unitIs u .active = true ∧ pass = false then s.selftestFailed u else s

/-! ## The commands -/

/-- A command after which waiting work moves on. -/
def reacting (s : State) (f : State → State) : Host.Outcome State Fault Refusal := onClock s fun s => (f s).react

/-- QUEUE_ENABLE (R359). -/
def execQueueEnable (q : Nat) (s : State) : Host.Outcome State Fault Refusal := reacting s fun s => s.enableWrite q true

/-- QUEUE_DISABLE (R361). -/
def execQueueDisable (q : Nat) (s : State) : Host.Outcome State Fault Refusal := reacting s fun s => s.enableWrite q false

/-- SQ_TAIL_DOORBELL (R363). -/
def execSqTailDoorbell (q : Nat) (v : BitVec 64) (width : Nat) (s : State) : Host.Outcome State Fault Refusal :=
  onClock s fun s => s.sqTail q v.toNat width

/-- CQ_HEAD_DOORBELL (R363). -/
def execCqHeadDoorbell (q : Nat) (v : BitVec 64) (width : Nat) (s : State) : Host.Outcome State Fault Refusal :=
  onClock s fun s => s.cqHead q v.toNat width

/-- DESCRIPTOR_READ_COMPLETE (R378). -/
def execDescriptorReadComplete (q : Nat) (ans : ReadAnswer) (rttNs : Nat) (s : State) :
    Host.Outcome State Fault Refusal :=
  onClock s fun s => s.readDone q ans rttNs

/-- EVENT_BUF (R376). -/
def execEventBuf (q : Nat) (s : State) : Host.Outcome State Fault Refusal := onClock s fun s => s.eventBuf q

/-- IRQ_COALESCE_TIMEOUT (R366). -/
def execIrqCoalesceTimeout (q : Nat) (s : State) : Host.Outcome State Fault Refusal := onClock s fun s => s.irqTimeout q

/-- VERIFY (R370). -/
def execVerify (q : Nat) (s : State) : Host.Outcome State Fault Refusal :=
  reacting s fun s => s.dispatch q 0x01 fun o s => s.verifyRun o

/-- CONSUME (R29). -/
def execConsume (q : Nat) (s : State) : Host.Outcome State Fault Refusal :=
  reacting s fun s => s.dispatch q 0x10 fun o s => s.consumeRun o

/-- INCREMENT (R286). -/
def execIncrement (q : Nat) (s : State) : Host.Outcome State Fault Refusal :=
  reacting s fun s => s.dispatch q 0x11 fun o s => s.opCommit o 1 2 o.desc.target.toNat 0 true

/-- TAG_READ (R370). -/
def execTagRead (q : Nat) (s : State) : Host.Outcome State Fault Refusal :=
  reacting s fun s => s.dispatch q 0x30 fun o s => s.tagRun o

/-- TAG_WRITE (R370). -/
def execTagWrite (q : Nat) (s : State) : Host.Outcome State Fault Refusal :=
  reacting s fun s => s.dispatch q 0x31 fun o s => s.tagRun o

/-- ANCHOR_ACK (R305). -/
def execAnchorAck (q : Nat) (buf : Option Bytes) (_done : EngineResult) (s : State) : Host.Outcome State Fault Refusal :=
  reacting s fun s => s.dispatch q 0x42 fun o s => s.ackOp o buf

/-- LIMIT_SET (R306). -/
def execLimitSet (q : Nat) (s : State) : Host.Outcome State Fault Refusal :=
  reacting s fun s => s.dispatch q 0x43 fun o s => s.limitRun o

/-- RECORD_READ (R353). -/
def execRecordRead (q : Nat) (s : State) : Host.Outcome State Fault Refusal :=
  reacting s fun s => s.dispatch q 0x44 fun o s => s.recordReadRun o

/-- RECORD_WRITE (R355). -/
def execRecordWrite (q : Nat) (buf : Option Bytes) (s : State) : Host.Outcome State Fault Refusal :=
  reacting s fun s => s.dispatch q 0x45 fun o s =>
    match buf with
    | none => s.endOp o.ctx .badDescriptor [] none
    | some b => s.recordWriteRun { o with data := padTo o.desc.bufLen b }

/-- RECORD_FREE (R338). -/
def execRecordFree (q : Nat) (s : State) : Host.Outcome State Fault Refusal :=
  reacting s fun s => s.dispatch q 0x46 fun o s => s.recordFreeRun o

/-- ISSUER_SET (R340). -/
def execIssuerSet (q : Nat) (buf : Option Bytes) (_sig _point : EngineResult) (s : State) :
    Host.Outcome State Fault Refusal :=
  reacting s fun s => s.dispatch q 0x47 fun o s => s.issuerOp o buf

/-- ENGINE_SELFTEST (R389). -/
def execEngineSelftest (u : Nat) (pass : Bool) (s : State) : Host.Outcome State Fault Refusal :=
  reacting s fun s => s.selftest u pass

/-- ENGINE_OPERATION_COMPLETE (R386). -/
def execEngineOperationComplete (u : Nat) (res : EngineResult) (s : State) : Host.Outcome State Fault Refusal :=
  reacting s fun s => s.engineResult u res

/-- COMMIT_ENTRY_VALID (R79). -/
def execCommitEntryValid (s : State) : Host.Outcome State Fault Refusal := reacting s State.commitValid

/-- PAGE_FAULT_COMPLETE (R344). -/
def execPageFaultComplete (page : Nat) (chk : PageCheck) (s : State) : Host.Outcome State Fault Refusal :=
  reacting s fun s => s.pageDone page chk

/-- WRITEBACK_ROUND_READBACK (R346). -/
def execWritebackRoundReadback (ok : Bool) (s : State) : Host.Outcome State Fault Refusal :=
  reacting s fun s => s.roundEnd ok

/-- LOCK_HOLD_EXPIRE (R351). -/
def execLockHoldExpire (s : State) : Host.Outcome State Fault Refusal :=
  reacting s fun s => if s.ldr.locked = [] then s else s.lockEnd false

end Sys2Proof.Machine
end

