-- ==== Sys2Proof/Machine/GlazePort.lean ====
section
/-! DEFINITION. The commands of the Glaze port (R422–R446), over the operations of `Glaze`. -/

namespace Sys2Proof.Machine

/-- A request whose answer is at hand. -/
def answered (r : State × Status × Bytes) : State × Option (Status × Bytes) := (r.1, some (r.2.1, r.2.2))

/-- GLZ_HELLO (R435). -/
def execGlzHello (body : Bytes) (_sig _points : EngineResult) (s : State) : Host.Outcome State Fault Refusal :=
  reacting s fun s => s.glzHello body

/-- GLZ_PROVE (R435). -/
def execGlzProve (sigL : Bytes) (_done : EngineResult) (s : State) : Host.Outcome State Fault Refusal :=
  reacting s fun s => s.glzProve sigL

/-- GLZ_PROVE_TIMEOUT (R435). -/
def execGlzProveTimeout (s : State) : Host.Outcome State Fault Refusal := reacting s State.glzProveTimeout

/-- GLZ_HELLO_ENTROPY_TIMEOUT (R435). -/
def execGlzHelloEntropyTimeout (s : State) : Host.Outcome State Fault Refusal := reacting s State.glzStarved

/-- GLZ_READ (R439). -/
def execGlzRead (f : GlzFrame) (off len : Nat) (chk : PageCheck) (s : State) : Host.Outcome State Fault Refusal :=
  reacting s fun s => s.glzRequest f 0x10 (some 0) fun _ s => answered (s.glzReadRun off len chk)

/-- GLZ_ATTEST (R438). -/
def execGlzAttest (f : GlzFrame) (challenge : BitVec 256) (s : State) : Host.Outcome State Fault Refusal :=
  reacting s fun s => s.glzRequest f 0x11 (some 3) fun _ s =>
    match s.attest (beBytes 32 challenge.toNat) with
    | none => (s, some (.notPermitted, []))
    | some r => (s, some (.ok, r))

/-- GLZ_CERT_READ (R438). -/
def execGlzCertRead (f : GlzFrame) (chunk : Nat) (s : State) : Host.Outcome State Fault Refusal :=
  reacting s fun s => s.glzRequest f 0x12 (some 3) fun _ s =>
    if 4 ≤ chunk then (s, some (.badDescriptor, [])) else (s, some (.ok, slice s.certWindow (256 * chunk) 256))

/-- GLZ_STAGE_TOKEN (R441). -/
def execGlzStageToken (f : GlzFrame) (token : Bytes) (_sig : EngineResult) (chk : PageCheck) (s : State) :
    Host.Outcome State Fault Refusal :=
  reacting s fun s => s.glzRequest f 0x20 (some 1) fun x s =>
    let r := s.stageToken x token chk
    (r.1, r.2.map fun st => (st, []))

/-- GLZ_STAGE_LABEL (R439). -/
def execGlzStageLabel (f : GlzFrame) (record : Nat) (label : Bytes) (chk : PageCheck) (s : State) :
    Host.Outcome State Fault Refusal :=
  reacting s fun s => s.glzRequest f 0x21 (some 2) fun x s =>
    let r := s.stageLabel x record label chk
    (r.1, r.2.map fun st => (st, []))

/-- GLZ_COMMIT (R442). -/
def execGlzCommit (f : GlzFrame) (s : State) : Host.Outcome State Fault Refusal :=
  reacting s fun s => s.glzRequest f 0x22 none fun x s => s.glzCommitRun x

/-- GLZ_DISCARD (R438). -/
def execGlzDiscard (f : GlzFrame) (s : State) : Host.Outcome State Fault Refusal :=
  reacting s fun s => s.glzRequest f 0x23 none fun x s =>
    ({ s with glz := { s.glz with session := some { x with staged := [] } } }, some (.ok, []))

/-- GLZ_CLOSE (R437): the session closes with the response. -/
def State.glzCloseRequest (s : State) (f : GlzFrame) : State :=
  let t := s.glzRequest f 0x2F none fun _ s => (s, some (.ok, []))
  match s.glz.session, t.glz.session with
  | some x, some y => if y.lastSeq = x.lastSeq then t else t.glzEnd
  | _, _ => t

def execGlzClose (f : GlzFrame) (s : State) : Host.Outcome State Fault Refusal :=
  reacting s fun s => s.glzCloseRequest f

/-- The TYPEs of R438's requests. -/
def glzTypes : List Byte := [0x10, 0x11, 0x12, 0x20, 0x21, 0x22, 0x23, 0x2F]

/-- GLZ_SESSION_FRAME_DROP (R437): a frame whose tag is bad or whose SEQ is wrong. One that is right, with a TYPE that is
no request's, is answered BAD_DESCRIPTOR (R438). -/
def State.glzOddFrame (s : State) (f : GlzFrame) (typ : Byte) : State :=
  match s.glz.session with
  | none => s
  | some x =>
    if f.tagOk && f.seq == x.lastSeq + 1 && glzTypes.contains typ then s
    else s.glzRequest f typ none fun _ s => (s, some (.badDescriptor, []))

def execGlzSessionFrameDrop (f : GlzFrame) (typ : Byte) (s : State) : Host.Outcome State Fault Refusal :=
  reacting s fun s => s.glzOddFrame f typ

/-- GLZ_FRAME_DISCARD (R430). -/
def execGlzFrameDiscard (why : GlzDiscard) (badPulses : Nat) (s : State) : Host.Outcome State Fault Refusal :=
  onClock s fun s => s.glzFrameDiscard why badPulses

/-- GLZ_AMPLITUDE_ABORT (R431). -/
def execGlzAmplitudeAbort (s : State) : Host.Outcome State Fault Refusal := onClock s State.glzAbort

/-- GLZ_HUSH_END (R431). -/
def execGlzHushEnd (s : State) : Host.Outcome State Fault Refusal := onClock s State.glzHushOver

/-- GLZ_BLIND_RISE (R424): IBLR lies between 500 and 550 µA. -/
def execGlzBlindRise (ambientUa : Nat) (s : State) : Host.Outcome State Fault Refusal :=
  onClock s fun s =>
    if s.glz.state = 0 then s
    else
      let s := s.glzAmbient ambientUa
      if ambientUa ≤ 500 then s else { s with glz := { s.glz with blind := true } }

/-- GLZ_BLIND_FALL (R424): the ambient current has stayed below IBLF for 1 ms. -/
def execGlzBlindFall (ambientUa : Nat) (s : State) : Host.Outcome State Fault Refusal :=
  onClock s fun s =>
    if s.glz.state = 0 then s
    else
      let s := s.glzAmbient ambientUa
      if 550 < ambientUa then s else { s with glz := { s.glz with blind := false } }

/-- GLZ_SESSION_IDLE_TIMEOUT (R437). -/
def execGlzSessionIdleTimeout (s : State) : Host.Outcome State Fault Refusal :=
  onClock s fun s => if s.glz.session.isSome && s.glz.commit.isNone then s.glzEnd else s

/-- GLZ_CTRL.CLOSE is written 1 (R444, R446): by PCIe only (R470). -/
def State.glzCtrlClose (s : State) (r : Requester) : State :=
  if r = .msp ∨ s.stepDone 6 = false then s.reject r
  else if s.glz.commit.isSome then { s with glz := { s.glz with close := true } }
  else if s.glz.session.isSome then s.glzEnd
  else s

/-- GLZ_CTRL_CLOSE (R444). -/
def execGlzCtrlClose (r : Requester) (s : State) : Host.Outcome State Fault Refusal := onClock s fun s => s.glzCtrlClose r

/-- GLZ_TRANSMISSION_END (R436). -/
def execGlzTransmissionEnd (s : State) : Host.Outcome State Fault Refusal :=
  onClock s fun s =>
    if s.glz.sending then
      { s with glz := { s.glz with
          sending := false, nextRate := none
          rate := match s.glz.nextRate with | none => s.glz.rate | some r => r } }
    else s

end Sys2Proof.Machine
end

