-- ==== Sys2Proof/Machine/Power.lean ====
section
/-! DEFINITION. The supplies and detectors (R40, R47, R48, R77, R81–R84, R509), the requests of MOD_CTRL and PERST_N (R43,
R49, R50, R56–R58), and the snapshots' timer and writes (R65, R66). -/

namespace Sys2Proof.Machine

/-! ## Supplies and detectors -/

/-- TOTAL_POWER_LOSS: VBAT and VIO18 both absent; every vigil store is lost. -/
def State.powerLost (s : State) : State :=
  let s := s.tear.coreOff
  { s with
    mode := .unpowered
    vig := { Vigil.empty with wrongA := s.vig.wrongA, wrongB := s.vig.wrongB, wrongLong := s.vig.wrongLong } }

/-- COLD_START: every core supply in window and REFCLK present. VIGIL_CAUSE is the detector that latched first. -/
def State.coldStart (s : State) : State :=
  if s.mode = .vigil then
    let c := { StartCause.none with kind := 1, vigilCause := s.vig.fired.headD 0 }
    ({ s with refclk := true, tick := 0, vig := { s.vig with fired := [], detArmed := true } }).beginStage c
  else s

/-- An excursion of the core voltage: one of 10 ns is always detected; of a shorter one it is open (R83). -/
def State.excursion (s : State) (widthNs : Nat) : State :=
  if widthNs = 0 then s
  else if 10 ≤ widthNs then s.detect 2
  else
    let v := takeFree 1 s
    if v.1 = 1 then v.2.detect 2 else v.2

/-! ## MOD_CTRL and PERST_N -/

/-- The Borpin is in STAGE, SERVICE or QUARANTINE. -/
def State.powered (s : State) : Bool := s.mode == .stage || s.mode == .service || s.mode == .quarantine

/-- The block listens to a requester: to the maintenance controller from the end of Stage step 1 on (R465). -/
def State.hears (s : State) (r : Requester) : Bool := r == .pcie || s.stepDone 1

/-- MOD_CTRL.GO: held in STAGE, ignored elsewhere; the maintenance controller writes only RESTART in QUARANTINE
(R470). One that meets a quarantine cause is discarded (R49). -/
def State.writeGo (s : State) (r : Requester) (met : Bool) : State :=
  if met && s.vig.causes != [] then s.reject r
  else if s.mode = .stage then { s with mod := { s.mod with goReq := true } }
  else if r = .msp ∧ s.mode = .quarantine then s.reject r
  else s

/-- A RESTART write of a requester is accepted (R43, R56). -/
def State.restartOk (s : State) (r : Requester) : Bool :=
  s.mode != .quarantine
    || ((match r with | .pcie => s.mod.readHost | .msp => s.mod.readMsp)
        && (s.mod.quarCause != some .anchorLost || s.mod.ackDone))

/-- A quarantine exit clears every recorded cause and every tamper latch; a loop still faulty sets its latch again
(R55, R90). -/
def State.quarantineExit (s : State) : State :=
  let s := { s with vig := { s.vig with
    causes := [], latched := 0, firstPair := 0, firstKind := 0, inVigil := false } }
  s.watchLoops

/-- A requester's RESTART write, when it is discarded. -/
def State.restartRefused (s : State) (written : Bool) (r : Requester) : State :=
  if written && !s.restartOk r then s.reject r else s

/-- Restart causes of one cycle: one start with every source bit (R49). -/
def State.restartWith (s : State) (perst pcie msp : Bool) : State :=
  let host := pcie && s.restartOk .pcie
  let mgmt := msp && s.restartOk .msp
  let t := (s.restartRefused pcie .pcie).restartRefused msp .msp
  if perst || host || mgmt then
    let u := t.restart perst host mgmt false
    if s.mode = .quarantine then u.quarantineExit else u
  else t

/-- MOD_CTRL.SNAP: in SERVICE only. -/
def State.writeSnap (s : State) (r : Requester) : State :=
  if s.mode = .service then s.snapRequest true else s.reject r

/-- MOD_CTRL.QUARANTINE of a requester: in SERVICE only, or in the same cycle as the other's. -/
def State.writeQuarantine (s : State) (pcie msp : Bool) : State :=
  if s.mode = .service then
    let s := if pcie then s.quarantine .hostRequest else s
    if msp then s.quarantine .mspRequest else s
  else
    let s := if pcie then s.reject .pcie else s
    if msp then s.reject .msp else s

/-- The link is down, and what its reset sets back is at its reset value. -/
def State.linkDown (s : State) : State :=
  { s with links := { s.links with
      linkUp := false, speed := 0, width := 0, reversed := false, busMaster := false, d3hot := false, fnMask := false } }

/-- The queue configuration is reset (R57): every queue DISABLED, its work ended with no completion. -/
def State.queuesReset (s : State) : State :=
  let s := s.que.foldl (fun s e => s.dropStore e.1) s
  { s.endHostOps with que := [] }

/-- PERST_N, a hot reset or a link-down reset, with the RESTART writes of the same cycle (R47, R57, R451). -/
def State.linkReset (s : State) (pcie msp : Bool) : State :=
  let q := s.mode == .quarantine
  let s := s.linkDown
  if !s.running then s
  else if q then (s.queuesReset).restartWith false pcie msp
  else s.restartWith true pcie msp

/-- PERST_N falls. -/
def State.perstFalls (s : State) (pcie msp : Bool) : State :=
  if s.links.perstN then ({ s with links := { s.links with perstN := false } }).linkReset pcie msp
  else if s.running then s.restartWith false pcie msp else s

/-- The warm prelude still writes: a snapshot, a round, or dirty pages that a round may still take (R50). -/
def State.preludeBusy (s : State) : Bool :=
  s.snapBusy || s.ldr.running.isSome || (s.roundMay && s.ldr.dirty != [])

/-- The warm prelude ends: Stage step 1 (R50). -/
def State.preludeDone (s : State) : State :=
  if s.mode = .stage ∧ s.mod.preludeOn = true ∧ s.preludeBusy = false then s.beginStage s.mod.nextCause else s

/-! ## Snapshots (R65, R66, R140) -/

/-- A second has passed since the last write that changed a kept field. -/
def State.snapIdle (s : State) : State :=
  if s.mod.snapTimer.isSome && !s.mod.preludeOn then
    ({ s with mod := { s.mod with snapTimer := none } }).snapRequest false
  else s

/-- A snapshot has ended, and with it the SNAP that asked for it (R14): the one behind it follows, except in the warm
prelude. -/
def State.snapNext (s : State) : State :=
  let next := s.mod.snapPending && !s.mod.preludeOn
  let s := { s with mod := { s.mod with
    snapWrite := none, snapPending := false, snapReq := next && s.mod.snapAsk, snapAsk := false } }
  if next then s.snapDue else s

/-- A verified read-back anchors the slot and the generation; a failure tries the next slot once. -/
def State.snapWritten (s : State) (ok : Bool) : State :=
  match s.mod.snapWrite with
  | none => s
  | some w =>
    if ok then
      ({ s with
        flash := { s.flash with snaps := tabPut s.flash.snaps w.slot w.image }
        vig := { s.vig with snapSlot := w.slot, snapGen := w.image.generation, snapOk := true }
        mod := { s.mod with snapResult := 1 }
        rcp := { s.rcp with snapStale := s.rcp.snapStale && w.image.recipeGen != s.rcp.gen } }).snapNext
    else
      let s := s.tearSnap w
      if w.second then ({ s with mod := { s.mod with snapResult := 3 } }).snapNext
      else { s with mod := { s.mod with snapWrite := some { w with slot := (w.slot + 1) % 16, second := true } } }

/-! ## The commands -/

/-- TOTAL_POWER_LOSS (R77). -/
def execTotalPowerLoss (s : State) : Host.Outcome State Fault Refusal := always s State.powerLost

/-- COLD_START (R47). -/
def execColdStart (s : State) : Host.Outcome State Fault Refusal := always s State.coldStart

/-- MAIN_SUPPLY_LOSS (R81). -/
def execMainSupplyLoss (s : State) : Host.Outcome State Fault Refusal := always s fun s => s.detect 1

/-- CORE_VOLTAGE_EXCURSION (R81, R83). -/
def execCoreVoltageExcursion (widthNs : Nat) (s : State) : Host.Outcome State Fault Refusal :=
  always s fun s => s.excursion widthNs

/-- CORECLK_LOSS (R83). -/
def execCoreclkLoss (s : State) : Host.Outcome State Fault Refusal := always s fun s => s.detect 3

/-- REFCLK_LOSS (R28, R509): CORECLK stops, and the live carriers with it; the CORECLK-loss detector acts later. -/
def execRefclkLoss (s : State) : Host.Outcome State Fault Refusal :=
  always s fun s => { s.carriersStop with refclk := false }

/-- MOD_GO (R43). -/
def execModGo (r : GoWrite) (s : State) : Host.Outcome State Fault Refusal :=
  onClock s fun s => if s.hears r.by_ then s.writeGo r.by_ r.met else s

/-- MOD_RESTART (R56). -/
def execModRestart (pcie msp : Bool) (s : State) : Host.Outcome State Fault Refusal :=
  onClock s fun s => s.restartWith false pcie (msp && s.hears .msp)

/-- MOD_SNAP (R65). -/
def execModSnap (r : Requester) (s : State) : Host.Outcome State Fault Refusal :=
  onClock s fun s => if s.hears r then s.writeSnap r else s

/-- The write met the entry to VIGIL from SERVICE in its cycle: VIGIL stands, and the causes are recorded (R49). -/
def State.quarantineMet (s : State) (pcie msp : Bool) : State :=
  if s.mode = .vigil ∧ s.vig.fired ≠ [] ∧ s.vig.lastMode = 2 then
    let s := if pcie then s.recordCause .hostRequest else s
    if msp then s.recordCause .mspRequest else s
  else s

/-- MOD_QUARANTINE (R43). -/
def execModQuarantine (pcie msp : Bool) (s : State) : Host.Outcome State Fault Refusal :=
  always s fun s =>
    if s.running then s.writeQuarantine pcie (msp && s.hears .msp) else s.quarantineMet pcie msp

/-- PERST_ASSERT (R47). -/
def execPerstAssert (pcieRestart mspRestart : Bool) (s : State) : Host.Outcome State Fault Refusal :=
  always s fun s => s.perstFalls pcieRestart mspRestart

/-- PERST_RELEASE (R58): link training may begin. -/
def execPerstRelease (s : State) : Host.Outcome State Fault Refusal :=
  always s fun s => { s with links := { s.links with perstN := true } }

/-- WARM_PRELUDE_DONE (R50). -/
def execWarmPreludeDone (s : State) : Host.Outcome State Fault Refusal := onClock s State.preludeDone

/-- SNAPSHOT_IDLE_TIMER (R65). -/
def execSnapshotIdleTimer (s : State) : Host.Outcome State Fault Refusal := onClock s State.snapIdle

/-- SNAPSHOT_WRITE_DONE (R66). -/
def execSnapshotWriteDone (ok : Bool) (s : State) : Host.Outcome State Fault Refusal :=
  onClock s fun s => s.snapWritten ok

end Sys2Proof.Machine
end

