-- ==== Sys2Proof/Machine/Links.lean ====
section
/-! DEFINITION. The PCIe link, its messages and the test access port (R447–R454, R476, R477). -/

namespace Sys2Proof.Machine

/-! ## The link (R447, R451) -/

/-- The link reaches L0 at a negotiated rate and width: training runs once the engines and the host link are there
(R58) and PERST_N is high. -/
def State.linkRises (s : State) (speed width : Nat) (reversed : Bool) : State :=
  if s.stepDone 2 && s.links.perstN && !s.links.linkUp && decide (1 ≤ speed) && decide (speed ≤ 4)
      && (width == 1 || width == 2 || width == 4 || width == 8) then
    { s with links := { s.links with linkUp := true, speed := speed, width := width, reversed := reversed } }
  else s

/-- A hot reset or a link-down reset acts as PERST_N (R451). -/
def State.hotReset (s : State) : State := if s.links.linkUp then s.linkReset false false else s

/-! ## The configuration space (R448, R449) -/

/-- A capability's header: its ID and the offset of the next. -/
def capHead (id next rest : Nat) : Word := word [(0, id), (8, next), (16, rest)]

/-- The header of an extended capability. -/
def extHead (id version next : Nat) : Word := word [(0, id), (16, version), (20, next)]

/-- The dword at an offset of configuration space, as far as the spec gives its content: the fixed header values, and the
capability lists with the fields that R449 names. The version fields and the values of Control and Status fields that the
Base Specification defines are open (assumption log 73). -/
def State.configRead (s : State) (off : Nat) : Option Word :=
  match off with
  | 0x00 => some (word [(0, 0x1E7C), (16, 0x9140)])
  | 0x08 => some (word [(0, s.otp.revision.toNat % 256), (8, 0x108000)])
  | 0x0C => some 0
  | 0x2C => some (word [(0, 0x1E7C), (16, 0x0000)])
  | 0x34 => some 0x40
  | 0x40 => some (capHead 0x01 0x50 3)
  | 0x44 => some (word [(0, if s.links.d3hot then 3 else 0), (3, 1)])
  | 0x50 => some (capHead 0x10 0xB0 2)
  | 0x74 => some 0xF
  | 0x78 => some 5
  | 0xB0 => some (capHead 0x11 0 (1024 + 16384 * s.links.fnMask.toNat))
  | 0x100 => some (extHead 0x0001 2 0x150)
  | 0x150 => some (extHead 0x0003 1 0x160)
  | 0x154 => some (BitVec.ofNat 32 (leNat (s.bindingBytes.take 4)))
  | 0x158 => some (BitVec.ofNat 32 (leNat (slice s.bindingBytes 4 4)))
  | 0x160 => some (extHead 0x0019 1 0x190)
  | 0x190 => some (extHead 0x0026 1 0x1C0)
  | 0x1C0 => some (extHead 0x0027 1 0)
  | _ => none

/-- What a configuration request meets: an answer from the moment the link reaches L0, and no Configuration Request Retry
Status (R451). -/
def State.configAnswer (s : State) (off : Nat) : Option Word := if s.links.linkUp then s.configRead off else none

/-! ## Bus mastering and D3hot (R453) -/

/-- Every pending message that may now leave. -/
def State.releaseAll (s : State) : State := (onesOf s.links.pba).foldl State.release s

/-- Bus Master Enable and the power state take their values; once the function may write again it resumes where it
stopped. -/
def State.masterChange (s : State) (busMaster d3hot : Bool) : State :=
  if s.links.linkUp then
    ({ s with links := { s.links with busMaster := busMaster, d3hot := d3hot } }).flushHeld.releaseAll
  else s

/-! ## MSI-X masks (R454) -/

/-- A vector's mask bit, or the function mask, is cleared. -/
def State.unmask (s : State) (vector : Option Nat) : State :=
  match vector with
  | none => ({ s with links := { s.links with fnMask := false } }).releaseAll
  | some v =>
    if v ≤ 1024 ∧ s.stepDone 1 = true then
      let b := tabGet 0 s.links.msixTable (16 * v + 12)
      ({ s with links := { s.links with
        msixTable := tabSet 0 s.links.msixTable (16 * v + 12) (b &&& 0xFE) } }).release v
    else s

/-! ## The test access port (R476, R477) -/

/-- The three instructions that leave the guards alone. -/
def tapPassive : TapInstr → Bool
  | .bypass => true
  | .idcode => true
  | .sample => true
  | .extest => false
  | .clamp => false
  | .highz => false
  | .vendor => false
  | .other => false

/-- The instruction that a loaded opcode selects: DEPLOYED and RETIRED accept three, and an opcode outside the list
selects BYPASS in every state. -/
def State.tapSelects (s : State) (i : TapInstr) : TapInstr :=
  if i = .other ∨ (3 ≤ s.otp.stateOf ∧ tapPassive i = false) then .bypass else i

/-- An instruction is loaded: any but the three passive ones asserts the guard-force line. -/
def State.tapLoad (s : State) (i : TapInstr) : State :=
  let j := s.tapSelects i
  let s := { s with links := { s.links with tap := j } }
  if tapPassive j then s else { s with vig := { s.vig with force := true, forceTap := true } }

/-- The 32 bits of the IDCODE register (R477). -/
def State.idcode (s : State) : Word :=
  word [(0, 1), (1, 0x4E3), (12, 0x9140), (28, s.otp.revision.toNat % 16)]

/-! ## The commands -/

/-- PCIE_LINK_UP (R451). -/
def execPcieLinkUp (speed width : Nat) (reversed : Bool) (s : State) : Host.Outcome State Fault Refusal :=
  onClock s fun s => s.linkRises speed width reversed

/-- PCIE_HOT_RESET (R451). -/
def execPcieHotReset (s : State) : Host.Outcome State Fault Refusal := onClock s State.hotReset

/-- BME_D3_CHANGE (R453). -/
def execBmeD3Change (busMaster d3hot : Bool) (s : State) : Host.Outcome State Fault Refusal :=
  reacting s fun s => s.masterChange busMaster d3hot

/-- MSIX_UNMASK (R454). -/
def execMsixUnmask (vector : Option Nat) (s : State) : Host.Outcome State Fault Refusal :=
  onClock s fun s => s.unmask vector

/-- TAP_INSTRUCTION_LOAD (R477). -/
def execTapInstructionLoad (i : TapInstr) (s : State) : Host.Outcome State Fault Refusal :=
  onClock s fun s => s.tapLoad i

end Sys2Proof.Machine
end

