-- ==== Sys2Proof/Machine/PlaitPorts.lean ====
section
/-! DEFINITION. The commands of the Plait ports (R174–R240), over the operations of `Wire` and `Plait`. -/

namespace Sys2Proof.Machine

/-- A command that may end a transaction of a port. -/
def ending (p : Nat) (s : State) (f : State → State × Option CmdEnd) : Host.Outcome State Fault Refusal :=
  reacting s fun s =>
    let r := f s
    r.1.commandEnd p r.2

/-- PLAIT_RESET (R184). -/
def execPlaitReset (p : Nat) (s : State) : Host.Outcome State Fault Refusal := reacting s fun s => s.plaitReset p

/-- PRESENCE_WINDOW_CLOSE (R184). -/
def execPresenceWindowClose (p : Nat) (pulse : Option Presence) (lineLow : Bool) (s : State) :
    Host.Outcome State Fault Refusal :=
  ending p s fun s => s.presenceClose p pulse lineLow

/-- EXTENSION_WINDOW_PRESENCE (R186). -/
def execExtensionWindowPresence (p : Nat) (pulse : Presence) (s : State) : Host.Outcome State Fault Refusal :=
  reacting s fun s => s.extPresence p pulse

/-- EXTENSION_WINDOW_EXPIRE (R186). -/
def execExtensionWindowExpire (p : Nat) (s : State) : Host.Outcome State Fault Refusal :=
  reacting s fun s => s.extExpire p

/-- PLAIT_PROBE (R189). -/
def execPlaitProbe (p : Nat) (s : State) : Host.Outcome State Fault Refusal := reacting s fun s => s.plaitProbe p

/-- PLT_REENUM (R205). -/
def execPltReenum (r : Requester) (p : Nat) (s : State) : Host.Outcome State Fault Refusal :=
  reacting s fun s => s.reenum r p

/-- PLT_PROBE (R205). -/
def execPltProbe (r : Requester) (p : Nat) (s : State) : Host.Outcome State Fault Refusal :=
  reacting s fun s => s.probeNow r p

/-- UNSOLICITED_PRESENCE (R192). -/
def execUnsolicitedPresence (p widthUs : Nat) (s : State) : Host.Outcome State Fault Refusal :=
  reacting s fun s => s.unsolicited p widthUs

/-- ANSWER_TIMEOUT (R182). -/
def execAnswerTimeout (l : LineSlots) (s : State) : Host.Outcome State Fault Refusal :=
  ending l.port s fun s => s.noAnswer l

/-- SPU_PLACE_GRANT (R195). -/
def execSpuPlaceGrant (p : Nat) (s : State) : Host.Outcome State Fault Refusal := reacting s fun s => s.grantPlace p

/-- SPU_HOLD_END (R194). -/
def execSpuHoldEnd (p : Nat) (s : State) : Host.Outcome State Fault Refusal := reacting s fun s => s.holdEnd p

/-- SPU_SHORT (R196). -/
def execSpuShort (p : Nat) (s : State) : Host.Outcome State Fault Refusal := ending p s fun s => s.spuShort p

/-- LINE_LOW (R200); the slots of the transaction it ends count (R179). -/
def execLineLow (l : LineSlots) (s : State) : Host.Outcome State Fault Refusal :=
  ending l.port s fun s => if (s.port l.port).live then (s.lineSlots l).lineFault l.port true else (s, none)

/-- LINE_HIGH (R200). -/
def execLineHigh (p : Nat) (s : State) : Host.Outcome State Fault Refusal :=
  ending p s fun s => if (s.port p).live then s.lineFault p false else (s, none)

/-- FAULT_RECOVERY_CHECK (R201). -/
def execFaultRecoveryCheck (p : Nat) (s : State) : Host.Outcome State Fault Refusal :=
  reacting s fun s => s.recoveryCheck p

/-- FAULT_RELEASE_WINDOW_END (R201). -/
def execFaultReleaseWindowEnd (p : Nat) (stayedHigh : Bool) (s : State) : Host.Outcome State Fault Refusal :=
  reacting s fun s => s.releaseEnd p stayedHigh

/-- PLAIT_ASSIGN (R186). -/
def execPlaitAssign (p : Nat) (s : State) : Host.Outcome State Fault Refusal :=
  reacting s fun s => s.plaitCommand p opAssign

/-- PLAIT_PING (R212). -/
def execPlaitPing (p : Nat) (s : State) : Host.Outcome State Fault Refusal := reacting s fun s => s.plaitCommand p opPing

/-- PLAIT_TRIM (R189): the frame ahead of a probe. -/
def execPlaitTrim (p : Nat) (s : State) : Host.Outcome State Fault Refusal := reacting s fun s => s.probeTrim p

/-- PLAIT_COLLECT (R224). -/
def execPlaitCollect (p : Nat) (s : State) : Host.Outcome State Fault Refusal :=
  reacting s fun s => s.plaitCommand p opCollect

/-- PLAIT_READ_CERT (R226). -/
def execPlaitReadCert (p : Nat) (s : State) : Host.Outcome State Fault Refusal :=
  reacting s fun s => s.plaitCommand p opReadCert

/-- PLAIT_READ_MEM (R235). -/
def execPlaitReadMem (p : Nat) (s : State) : Host.Outcome State Fault Refusal :=
  reacting s fun s => s.plaitCommand p opReadMem

/-- PLAIT_KEY_AGREE (R228). -/
def execPlaitKeyAgree (p : Nat) (s : State) : Host.Outcome State Fault Refusal :=
  reacting s fun s => s.plaitCommand p opKeyAgree

/-- PLAIT_CHALLENGE (R231). -/
def execPlaitChallenge (p : Nat) (s : State) : Host.Outcome State Fault Refusal :=
  reacting s fun s => s.plaitCommand p opChallenge

/-- PLAIT_CONSUME (R233). -/
def execPlaitConsume (p : Nat) (s : State) : Host.Outcome State Fault Refusal :=
  reacting s fun s => s.plaitCommand p opConsume

/-- PLAIT_CATCHUP (R234). -/
def execPlaitCatchup (p : Nat) (s : State) : Host.Outcome State Fault Refusal :=
  reacting s fun s => s.plaitCommand p opCatchup

/-- PLAIT_WRITE_MEM (R235). -/
def execPlaitWriteMem (p : Nat) (s : State) : Host.Outcome State Fault Refusal :=
  reacting s fun s => s.plaitCommand p opWriteMem

/-- PLAIT_FINISH (R216). -/
def execPlaitFinish (p : Nat) (s : State) : Host.Outcome State Fault Refusal := reacting s fun s => s.finishCommand p

/-- TAG_ANSWER_RECEIVED (R210). -/
def execTagAnswerReceived (p : Nat) (f : RxFrame) (s : State) : Host.Outcome State Fault Refusal :=
  ending p s fun s => s.receive p f

end Sys2Proof.Machine
end

