-- ==== Sys2Proof/Machine/Scheduler.lean ====
section
/-! DEFINITION. The scheduler epoch (R379, R380, R385, R391–R396, R408, R409) and the speculative preparation of beats
(R402–R406, R417). -/

namespace Sys2Proof.Machine

/-! ## Drops at the deadline (R395, R396) -/

/-- A job has begun its transactions: one whose first transaction waits for its place in the cluster has not (R195), a
collection between two of its frames has. An AUTH that has begun, and still waits for an engine or for output, is held to
its deadline all the same (R227). -/
def State.jobBegun (s : State) (p : Nat) (j : Job) : Bool :=
  let x := s.port p
  let first := s.jobOf p j.kind j.pos == some j
  let wire (o : Owner) : Bool := match x.txn with
    | none => false
    | some t => first && t.owner == o && t.pos == j.pos && x.spuWait.isNone
  if j.kind = jobBeat then wire .beat
  else if j.kind = jobCatchup then wire .catchup
  else if j.kind = jobAuth then
    (match s.auth p j.pos with
    | none => false
    | some a => a.begun && !(a.unit.isNone && (a.stage == .verify || a.stage == .keys)))
  else if j.kind = jobProbe then first && (x.trimSent || x.window == .presence true)
  else if j.kind = jobPrio then decide (j.sent ≠ 0) || wire .prio
  else first && (match x.txn with | none => false | some t => t.owner == .collect)

/-- A catch-up dropped while it waits for a place waits no longer. -/
def State.leaveWait (s : State) (p : Nat) (j : Job) : State :=
  let x := s.port p
  match x.txn with
  | none => s
  | some t =>
    if j.kind = jobCatchup ∧ t.owner = .catchup ∧ t.pos = j.pos ∧ x.spuWait.isSome = true then
      s.setPort p { x with txn := none, spuWait := none }
    else s

def State.otherLate (s : State) : State := { s with sch := { s.sch with otherLate := satInc s.sch.otherLate } }

/-- A job that has not begun by its deadline is dropped. -/
def State.dropLate (s : State) (p : Nat) (j : Job) : State :=
  let i := j.pos
  let gone (s : State) : State := (s.leaveWait p j).dropJobs p j.same
  if j.kind = jobBeat then
    let s := gone (s.unpin (posCtx p i))
    let s := s.setPos p i { s.pos p i with beatBusy := s.hasJob p jobBeat i }
    ({ s with sch := { s.sch with beatsLate := satInc s.sch.beatsLate } }).miss p i (s.tick.toNat + 1)
  else if j.kind = jobAuth then
    let s := { s.authStop p i with sch := { (s.authStop p i).sch with authLate := satInc s.sch.authLate } }
    (gone s).authDue p i (s.tick.toNat + s.beatPeriod p i)
  else if j.kind = jobPrio then
    let s := (gone s).otherLate
    if (s.pos p i).lastCrumb.getLsbD 1 then s.setPos p i { s.pos p i with prioAt := some (s.tick.toNat + 1) } else s
  else (gone s).otherLate

/-- A COLLECT round under way at its deadline loses its unsent frames, and counts once. -/
def State.trimCollect (s : State) (p : Nat) (j : Job) : State :=
  if j.todo.length ≤ 1 ∧ 31 ≤ j.sent then s
  else (s.setJob p { j with todo := j.todo.take 1, sent := 31 }).otherLate

/-- The jobs of a port at their deadlines. -/
def State.lateJobs (s : State) (p : Nat) : State :=
  ((s.port p).jobs.filter fun j => decide (j.deadline ≤ s.tick.toNat)).foldl (fun s j =>
    if !s.jobBegun p j then s.dropLate p j else if j.kind = jobCollect then s.trimCollect p j else s) s

/-! ## Descriptors at an epoch (R372) -/

/-- Descriptors of a queue that wait past their deadlines complete without a context; a buffer that this empties while the
tail is ahead counts (R381). -/
def State.lateWaiting (s : State) (q : Nat) : State :=
  let x := s.queue q
  let late := x.buf.filter fun f => s.isLate f.desc
  let rest := x.buf.filter fun f => !s.isLate f.desc
  late.foldl (fun s f => s.complete q f.desc (match s.formRefusal q f.desc with | some st => st | none => .late) []
    none false) (s.setQueue q { x with
      buf := rest, starved := if late ≠ [] ∧ rest = [] ∧ x.fetch ≠ x.tail then satInc x.starved else x.starved })

/-- RANDOM operations that gather past their deadlines: what they have drawn is discarded (R279). -/
def State.lateGather (s : State) : State :=
  (s.sch.ops.filter fun o => o.phase == .gather && s.isLate o.desc).foldl
    (fun s o => s.finishOp o.ctx .late [] none) s

/-! ## Confirmation of beats (R408, R409) -/

/-- Why a beat shadow does not confirm; none: it does. -/
def State.shadowFault (s : State) (p i : Nat) (b : BeatPrep) : Option SquashCause :=
  let x := s.pos p i
  if (s.port p).isPresent i = false ∨ x.verdict ≠ 2 ∨ x.tagId ≠ some b.tagId then some .identity
  else match x.session with
    | none => some .epoch
    | some h => if h.epoch ≠ b.epoch then some .epoch else if s.rcp.gen ≠ b.rcpGen then some .generation else none

/-- The record of a confirmed beat. -/
def State.confirmPage (s : State) (b : BeatPrep) : State × BeatPrep :=
  let s' := if b.frame then s.dropSpecFrame b.page else s
  let lost := { b with copy := none, frame := false }
  if b.copy.isNone then (s', lost)
  else if b.version ≠ tabGet 0 s.ldr.versions b.page then
    ({ s' with spc := { s'.spc with pagesStale := satInc s'.spc.pagesStale } }, lost)
  else if s.cached b.page then (s', { b with frame := false })
  else if b.frame && s.frameFree then
    let t := s'.install b.page
    ({ t with ldr := { t.ldr with cFaultsDdr := satInc t.ldr.cFaultsDdr } }, { b with frame := false })
  else (s', lost)

/-- The preparation that a released beat starts with: its confirmed shadow, a step that stands paused completed as confirmed
work (R404), or none. -/
def State.confirmBeat (s : State) (p i : Nat) : State × Option BeatPrep :=
  let x := s.pos p i
  match x.shadow with
  | none => (s, none)
  | some b =>
    match s.shadowFault p i b with
    | some c => (s.squashBeat p i c, none)
    | none =>
      let s := s.setPos p i { x with shadow := none }
      let b := match b.lane, b.nonce with
        | some _, some n => s.prepMac p i b n
        | _, _ => b
      let r := s.confirmPage b
      ({ r.1 with spc := { r.1.spc with confirmed := satInc r.1.spc.confirmed } }, some r.2)

/-! ## Releases (R392, R393) -/

/-- A job as it is released. -/
def jobNew (kind pos deadline : Nat) : Job :=
  { kind := kind, pos := pos, deadline := deadline, ctx := false, prep := none, todo := [], sent := 0 }

/-- The first BEAT release of a class in SERVICE (R417). -/
def State.noteClass (s : State) (c : Nat) : State :=
  match tabFind s.sch.firstBeat c with
  | some _ => s
  | none => { s with sch := { s.sch with firstBeat := tabPut s.sch.firstBeat c (s.tick.toNat + 1) } }

/-- CATCHUP is released: an epoch after it becomes due, or at the next beat (R234). -/
def State.releaseCatchup (s : State) (p i : Nat) : State :=
  let x := s.pos p i
  if x.catchupDue && x.session.isSome && x.verdict == 2 && !s.hasJob p jobCatchup i then
    (s.setPos p i { x with catchupAt := none }).releaseJob p (jobNew jobCatchup i (s.tick.toNat + s.beatPeriod p i))
  else s.setPos p i { x with catchupAt := none }

/-- A BEAT whose release time has come. -/
def State.releaseBeat (s : State) (p i r : Nat) (live : Bool) : State :=
  let next := r + s.beatPeriod p i
  let s := s.setPos p i { s.pos p i with beatAt := some next }
  if !live then s.squashBeat p i .unit
  else
    let s := s.noteClass (s.pos p i).classId
    let c := s.confirmBeat p i
    let s := c.1.releaseJob p { jobNew jobBeat i next with prep := c.2 }
    let s := s.setPos p i { s.pos p i with beatBusy := true }
    if (s.pos p i).catchupDue then s.releaseCatchup p i else s

/-- A full authentication that is due. -/
def State.releaseAuth (s : State) (p i : Nat) : State :=
  let x := s.pos p i
  if x.auth.isNone && (x.verdict == 1 || x.verdict == 2) && !s.hasJob p jobAuth i then
    (s.setPos p i { x with authAt := none, auth := some (authNew .auth) }).releaseJob p
      (jobNew jobAuth i (s.tick.toNat + s.beatPeriod p i))
  else s

/-- A time has come. -/
def State.reached (s : State) (t : Option Nat) : Bool :=
  match t with
  | none => false
  | some t => decide (t ≤ s.tick.toNat)

/-- The releases of one position; `live`: its port is ACTIVE and RUNNING. -/
def State.releasePos (s : State) (p i : Nat) (live : Bool) : State :=
  let s := match (s.pos p i).beatAt with
    | none => s
    | some r => if r ≤ s.tick.toNat then s.releaseBeat p i r live else s
  if !live then s
  else
    let s := if s.reached (s.pos p i).authAt then s.releaseAuth p i else s
    let s := if s.reached (s.pos p i).catchupAt then s.releaseCatchup p i else s
    if s.reached (s.pos p i).prioAt && !s.hasJob p jobPrio i then
      (s.setPos p i { s.pos p i with prioAt := none }).releaseJob p
        (jobNew jobPrio i (s.tick.toNat + (s.port p).profile.sprinkleMs * 1000))
    else s

/-- PROBE and COLLECT of a port. -/
def State.releaseLine (s : State) (p : Nat) (live : Bool) : State :=
  let x := s.port p
  let s := match x.probeAt with
    | none => s
    | some t =>
      if t ≤ s.tick.toNat then
        let next := t + x.profile.probeMs * 1000
        let s := s.setPort p { s.port p with probeAt := some next }
        if live then s.releaseJob p (jobNew jobProbe 0 next) else s
      else s
  match x.collectAt with
  | none => s
  | some t =>
    if t ≤ s.tick.toNat then
      let next := t + x.profile.sprinkleMs * 1000
      let s := s.setPort p { s.port p with collectAt := some next }
      let todo := ((List.range 32).map (· + 1)).filter fun i => x.isPresent i && !x.mute.getLsbD (i - 1)
      if live && decide (todo ≠ []) then
        s.releaseJob p { jobNew jobCollect 0 next with todo := todo }
      else s
    else s

/-- The epoch of one port: drops before releases (R395). -/
def State.epochPort (s : State) (p : Nat) : State :=
  let s := s.lateJobs p
  let live := s.unitIs p .active && (s.port p).state == .running
  let s := (s.port p).pos.foldl (fun s e => s.releasePos p e.1 live) s
  s.releaseLine p live

/-! ## The rest of an epoch (R138, R380, R391) -/

/-- New classes apply; one whose beat period changed is cold again (R417). -/
def State.applyClasses (s : State) : State :=
  match s.sch.classesNew with
  | none => s
  | some n =>
    let same (id : Nat) : Bool := match s.accClass id, n.1.find? (·.id == id) with
      | some a, some b => a.beatMs == b.beatMs
      | _, _ => false
    { s with sch := { s.sch with
        classesNew := none, acc := n.1, ctr := n.2
        firstBeat := s.sch.firstBeat.filter fun e => same e.1
        warm := s.sch.warm.filter same } }

/-- A rejoining engine that has passed its self-test becomes ACTIVE; a Proofer instance has reseeded before (R145). An
AES lane brings the block-cipher work that waited for one (R269). -/
def State.joinUnit (s : State) (u : Nat) : State :=
  let x := s.unit u
  if x.st == .rejoining && x.passed && (decide (u < 176) || (s.inst (u - 176)).state != 0) then
    let s := s.moveUnit u { x with st := .active, passed := false }
    if 136 ≤ u ∧ u < 168 then s.prfReact else s
  else s

def State.joinUnits (s : State) : State :=
  (eccUnits ++ aesUnits ++ shaUnits ++ prfUnits).foldl State.joinUnit s

/-- T_q of R380: R_q from the descriptors moved over the last 100 epochs, 1,000 µs. -/
def creditTarget (moved rttNs : Nat) : Nat := min 32 (max 8 ((3 * moved * rttNs + 1999999) / 2000000 + 4))

/-- Prefetch entries of every queue. -/
def State.poolUsed (s : State) : Nat := (s.que.map fun e => e.2.bq).foldl (· + ·) 0

/-- The credit of one queue. -/
def State.creditQueue (s : State) (q : Nat) : State :=
  let x := s.queue q
  if x.state ≠ 1 then s
  else
    let rate := (x.moved :: x.rate).take 100
    let t := creditTarget (rate.foldl (· + ·) 0) x.rttNs
    let x := { x with moved := 0, rate := rate }
    if x.bq < t then s.setQueue q { x with bq := x.bq + min (t - x.bq) (8192 - s.poolUsed), overrun := 0 }
    else if t < x.bq then
      (if 100 ≤ x.overrun + 1 then s.setQueue q { x with bq := t, overrun := 0 } else s.setQueue q { x with overrun := x.overrun + 1 })
    else s.setQueue q { x with overrun := 0 }

/-- SCHEDULER_EPOCH: new classes, drops and releases, descriptors past their deadlines, rejoining engines, credit. -/
def State.epoch (s : State) : State :=
  let s := s.applyClasses
  let s := if s.mode = .service then s.ports.foldl (fun s e => s.epochPort e.1) s else s
  let s := s.que.foldl (fun s e => s.lateWaiting e.1) s
  let s := s.lateGather.joinUnits
  s.que.foldl (fun s e => s.creditQueue e.1) s

/-- An epoch begins where TICK_NOW has advanced to a multiple of 10, once (R25). -/
def State.epochTurn (s : State) : State :=
  if s.sch.epochDue then ({ s with sch := { s.sch with epochDue := false } }).epoch else s

/-! ## Speculative preparation (R402–R406) -/

/-- The conditions of R403 and the lead of R402. -/
def State.mayPrepare (s : State) (p i : Nat) : Bool :=
  let x := s.pos p i
  let P := s.beatPeriod p i
  s.mode == .service && s.sch.warm.contains x.classId && s.unitIs p .active && (s.port p).state == .running
    && x.verdict == 2 && x.session.isSome && !x.beatBusy && x.shadow.isNone
    && decide (s.beatShadows < 256) && decide (s.beatUsed + s.beatShadows + 1 + 128 ≤ 512)
    && decide (s.kept.lead ≠ 0)
    && (match x.beatAt with
      | none => false
      | some r => decide (s.tick.toNat < r) && decide (64 * (r - s.tick.toNat) ≤ s.kept.lead * P))

/-- Step 1: the record from the cache, from a speculation frame, or by a fetch from DDR4 (R405). -/
def State.specCopy (s : State) (n : Nat) (b : BeatPrep) (pageOk : Bool) : State × BeatPrep :=
  let v := tabGet 0 s.ldr.versions b.page
  let got := { b with copy := some (s.record n), version := v }
  if s.poisoned b.page then (s, b)
  else if s.cached b.page then (s, got)
  else match s.ldr.specFrames.find? (·.page == b.page) with
    | some f =>
      ({ s with ldr := { s.ldr with specFrames := s.ldr.specFrames.map fun g =>
          if g.page = b.page then { g with uses := g.uses + 1 } else g } },
       { b with copy := f.records[n % 16]?, version := f.version, frame := true })
    | none =>
      if (v == 0 || (s.inDdr b.page && pageOk && s.aesLane)) && decide (s.ldr.specFrames.length < 32) then
        let f : SpecFrame :=
          { page := b.page, uses := 1, version := v, records := (List.range 16).map fun k => s.record (16 * b.page + k) }
        ({ s with
          ldr := { s.ldr with specFrames := s.ldr.specFrames ++ [f] }
          spc := { s.spc with pagesFetched := satInc s.spc.pagesFetched } }, { got with frame := true })
      else (s, b)

/-- Steps 2 to 4: the nonce, from PRF1's confirmed output while 1,024 octets stay (R406), the expected MAC, and the frame;
on the lane on which the third step stands paused the MAC is not finished (R416). -/
def State.specNonce (s : State) (p i : Nat) (b : BeatPrep) (lane : Option Nat) : State × BeatPrep :=
  match s.server 1 with
  | none => (s, b)
  | some k =>
    if b.copy.isNone || !s.aesLane || decide ((s.inst k).buf.length < 8 + 1024) then (s, b)
    else match s.drawFrom k 8 with
      | none => (s, b)
      | some (bs, t) =>
        let n : BitVec 64 := BitVec.ofNat 64 (beNat bs)
        let whole := t.prepMac p i b n
        match lane with
        | none => (t, whole)
        | some l => (t, { b with nonce := some n, count := whole.count, snap := whole.snap, lane := some (136 + l) })

/-- A preparation goes on that stands paused in its third step. -/
def State.resumePrepare (s : State) (p i : Nat) (lane : Option Nat) : State :=
  let x := s.pos p i
  match x.shadow with
  | none => s
  | some b =>
    match b.lane, b.nonce with
    | some _, some n =>
      s.setPos p i { x with shadow := some (match lane with
        | none => s.prepMac p i b n
        | some l => { b with lane := some (136 + l) }) }
    | _, _ => s

/-- BEAT_PREPARE_START: a preparation begins, or goes on. Each pause for confirmed work counts (R416). -/
def State.beatPrepare (s : State) (p i : Nat) (run : SpecRun) : State :=
  let paused (s : State) : State := { s with spc := { s.spc with preemptions := satAdd s.spc.preemptions run.pauses } }
  let lane := match run.lane with | none => none | some l => if s.unitIs (136 + l) .active then some l else none
  if (match (s.pos p i).shadow with | none => false | some b => b.lane.isSome) then (s.resumePrepare p i lane) |> paused
  else if !s.mayPrepare p i then s
  else
    let s := { s with spc := { s.spc with started := satInc s.spc.started } }
    let r := s.specCopy ((s.pos p i).record.getD 0) (s.prepNew p i) run.pageOk
    let q := r.1.specNonce p i r.2 lane
    paused (q.1.setPos p i { q.1.pos p i with shadow := some q.2 })

/-- CLASS_WARM (R417): the first release of the class plus twice its period has been reached. -/
def State.classWarm (s : State) (c : Nat) : State :=
  match tabFind s.sch.firstBeat c, s.accClass c with
  | some t, some a =>
    if s.mode = .service ∧ t - 1 + 2 * a.beatMs * 1000 ≤ s.tick.toNat then
      { s with sch := { s.sch with warm := insertNew s.sch.warm c } }
    else s
  | _, _ => s

/-! ## The commands -/

/-- BEAT_PREPARE_START (R402). -/
def execBeatPrepareStart (p pos : Nat) (run : SpecRun) (s : State) : Host.Outcome State Fault Refusal :=
  reacting s fun s => s.beatPrepare p pos run

/-- CLASS_WARM (R417). -/
def execClassWarm (c : Nat) (s : State) : Host.Outcome State Fault Refusal := onClock s fun s => s.classWarm c

end Sys2Proof.Machine
end

