-- ==== Sys2Proof/Machine/Recipe.lean ====
section
/-! DEFINITION. The RCP_ commands (R131–R141): write sessions and what they do to boot flash, COMMIT_FLOOR, ACTIVATE, the
quiesce protocol of the units (R142–R146), and the two ticks after which an ACTIVATE goes on. -/

namespace Sys2Proof.Machine

/-! ## Slots of boot flash -/

/-- SLOT_A_RESULT or SLOT_B_RESULT. -/
def State.slotResult (s : State) (k : Nat) : Nat := if k = 0 then s.rcp.resultA else s.rcp.resultB

def State.setSlotResult (s : State) (k v : Nat) : State :=
  if k = 0 then { s with rcp := { s.rcp with resultA := v } } else { s with rcp := { s.rcp with resultB := v } }

/-- The 3 MiB that one image may take (R109). -/
def imageMax : Nat := 3145728

/-! ## RCP_CMD (R131–R135) -/

/-- Codes of CMD_RESULT (R129). -/
def cmdOk : Nat := 1
def cmdMode : Nat := 2
def cmdNoFallback : Nat := 3
def cmdSupplyHold : Nat := 4
def cmdInvalid : Nat := 5
def cmdNeedsStage : Nat := 6
def cmdRollback : Nat := 7
def cmdFlashFail : Nat := 8
def cmdSequence : Nat := 9
def cmdUnitBusy : Nat := 10
def cmdNotNewer : Nat := 11

/-- A command ends: CMD_BUSY and ACTIVATING are 0, CMD_RESULT says how. -/
def State.cmdEnd (s : State) (code : Nat) : State :=
  { s with rcp := { s.rcp with busy := none, cmdResult := code, actBit := false, activating := none } }

def State.cmdBegin (s : State) (j : RcpJob) : State := { s with rcp := { s.rcp with busy := some j } }

/-- The RCP_ block is there: step 4 has begun (R517). -/
def State.rcpLoaded (s : State) : Bool := s.mod.begun.contains 4 || s.stepDone 4

/-- A requester may write RCP_CMD and RCP_WIN: it owns the session, if there is one (R134). -/
def State.rcpOwner (s : State) (r : Requester) : Bool :=
  match s.rcp.session with
  | none => true
  | some x => x.owner == r

/-- A write of RCP_CMD takes effect, or is discarded (R17, R41, R131, R134, R470). -/
def State.rcpCommand (s : State) (r : Requester) (f : State → State) : State :=
  if !s.rcpLoaded || s.rcp.busy.isSome || !s.rcpOwner r || (r == .msp && s.mode == .quarantine) then s.reject r else f s

/-- STAGE held with NO_RECIPE, or SERVICE (R133). -/
def State.rcpOpenMode (s : State) : Bool := s.mode == .service || (s.mode == .stage && s.mod.stageFault == 1)

/-- A slot is VALID at the current fuse count. -/
def State.slotStands (s : State) (k floor : Nat) : Bool :=
  s.slotResult k == 15 && decide (floor ≤ imgFloor (s.slotBytes k))

/-- OPEN. -/
def State.rcpOpen (s : State) (r : Requester) (k : Nat) : State :=
  if !s.rcpOpenMode then s.cmdEnd cmdMode
  else if s.spw.early then s.cmdEnd cmdSupplyHold
  else if s.mode = .service ∧ s.slotStands (1 - k) s.otp.rollback = false then s.cmdEnd cmdNoFallback
  else (({ s with rcp := { s.rcp with session := some { slot := k, owner := r, offset := 0 } } }).setSlotResult k 0).cmdBegin
    (.erase k)

/-- APPEND. -/
def State.rcpAppend (s : State) (len : Nat) : State :=
  match s.rcp.session with
  | none => s.cmdEnd cmdSequence
  | some x =>
    if s.spw.early then s.cmdEnd cmdSupplyHold
    else if imageMax < x.offset + len then s.cmdEnd cmdSequence
    else s.cmdBegin (.program x.slot ((List.range len).map fun i => tabGet 0 s.rcp.win i))

/-- CLOSE ends the session. -/
def State.rcpClose (s : State) : State :=
  match s.rcp.session with
  | none => s.cmdEnd cmdMode
  | some x => ({ s with rcp := { s.rcp with session := none } }).cmdBegin (.closing x.slot)

/-- VERIFY. -/
def State.rcpVerify (s : State) (k : Nat) : State :=
  if s.rcpOpenMode then s.cmdBegin (.verifying k) else s.cmdEnd cmdMode

/-- The slot that was not loaded. -/
def State.spareSlot (s : State) : Nat := if s.rcp.loadedB then 0 else 1

/-- COMMIT_FLOOR (R135). -/
def State.rcpCommitFloor (s : State) : State :=
  if s.mode ≠ .service then s.cmdEnd cmdMode
  else if s.spw.early then s.cmdEnd cmdSupplyHold
  else if !s.slotStands s.spareSlot s.rcp.loadedFloor then s.cmdEnd cmdNoFallback
  else if s.rcp.loadedFloor ≤ s.otp.rollback then s.cmdEnd cmdOk
  else s.cmdBegin .floor

/-- A flash operation or a fuse of RCP_CMD has ended. A journal program suspends an erase (R463). -/
def State.rcpFlashDone (s : State) (ok : Bool) : State :=
  match s.rcp.busy with
  | some (.erase k) =>
    if s.bootSuspended then s
    else if ok then (s.setSlotBytes k []).cmdEnd cmdOk
    else (({ s.spoilSlot k 0 (s.slotBytes k).length with rcp := { s.rcp with session := none } }).setSlotResult k 12).cmdEnd
      cmdFlashFail
  | some (.program k d) =>
    let off := match s.rcp.session with | none => (s.slotBytes k).length | some x => x.offset
    if ok then
      (({ s with rcp := { s.rcp with
          session := s.rcp.session.map fun (x : Session) => { x with offset := off + d.length } } }).setSlotBytes k
        ((s.slotBytes k).take off ++ d)).cmdEnd cmdOk
    else ((s.spoilSlot k off d.length).setSlotResult k 12).cmdEnd cmdFlashFail
  | some .floor =>
    if ok then
      let s := { s with otp := { s.otp with rollback := s.otp.rollback + 1 } }
      if s.rcp.loadedFloor ≤ s.otp.rollback then s.cmdEnd cmdOk else s
    else s.cmdEnd cmdFlashFail
  | _ => s

/-- The result of a CLOSE: a length other than IMAGE_LEN is FORMAT, which is check 1's (R127), whatever a later check's
read finds. -/
def State.closeResult (s : State) (bs : Bytes) (v : SlotVerdict) : Nat :=
  let code := s.verifySlot bs v
  if code = 1 ∨ v.readErrAt = some 1 ∨ bs.length = imgLen bs then code else 2

/-! ## Unit quiesce (R142–R146) -/

/-- The drain limit of a unit, in µs (R117). -/
def State.drainLimit (s : State) (u : Nat) : Nat :=
  match s.rcp.recipe with
  | none => 2000
  | some r => if u < 128 then r.drainPlait else r.drainEngine

/-- A unit leaves ACTIVE to be restarted, updated or switched off. -/
def State.drainUnit (s : State) (u : Nat) (why : DrainFor) : State :=
  let s := s.moveUnit u { st := .draining, drainFor := why, drainEnd := s.tick + BitVec.ofNat 64 (s.drainLimit u), passed := false }
  if u < 128 then s.squashPort u .unit
  else if 176 ≤ u then (s.prfLeave (u - 176)).prfReact
  else s.squashLane u

/-- Authentications of a port, by position. -/
def Port.auths (x : Port) : List (Nat × Auth) :=
  x.pos.filterMap fun e => match e.2.auth with | none => none | some a => some (e.1, a)

/-- Accepted work of a port that still runs. -/
def Port.atWork (x : Port) : Bool :=
  x.txn.isSome || x.hostq != [] || x.window != .none || x.trimSent || x.state == .enumerate
    || (match x.check with | none => false | some c => decide (c.pos + 1 < c.next))
    || x.auths.any fun e => e.2.begun

/-- A unit has work that it accepted and has not finished. -/
def State.unitAtWork (s : State) (u : Nat) : Bool :=
  if u < 128 then (s.port u).atWork else s.auths.any fun e => e.2.2.unit == some u

/-- The contexts whose work a port holds. -/
def Port.contexts (x : Port) : List Nat :=
  x.hostq
    ++ (match x.txn with | none => [] | some t => match t.owner with | .host c => [c] | _ => [])
    ++ x.auths.filterMap fun e => match e.2.owner with | .host c => some c | _ => none

/-- A port's work is gone: no transaction, no job, no authentication. -/
def Port.emptied (x : Port) : Port :=
  { x with
    txn := none, check := none, checkq := [], jobs := [], hostq := [], window := .none, spuOn := false, spuWait := none
    spuPlace := false, trimSent := false, expect := false, uprobe := false, probeReq := false, reenum := false
    reenumRuns := false, resetDue := false
    pos := tabMap (fun _ (y : Pos) => { y with auth := none, beatBusy := false }) x.pos }

def State.emptyPort (s : State) (p : Nat) : State :=
  let s := (List.range 32).foldl (fun s k => s.unpin (posCtx p (k + 1))) s
  s.setPort p (s.port p).emptied

/-- DRAIN_LIMIT_EXPIRE (R143): what the unit has not finished completes CANCELLED. -/
def State.drainCut (s : State) (u : Nat) : State :=
  if s.unitIs u .draining = true ∧ (s.unit u).drainEnd ≤ s.tick then
    if u < 128 then
      (s.port u).contexts.foldl (fun s c => s.endPortOp c .cancelled) (s.emptyPort u)
    else match s.auths.find? fun e => e.2.2.unit == some u with
      | none => s
      | some (p, i, a) => match a.owner with
        | .host _ => s.authDropped p i a .cancelled
        | _ => s.engineLost u
  else s

/-- The profile that an update brings applies to a quiesced or OFF port (R138). A port newly populated was not driven
before, so its reset begins with a charge period (R184). -/
def State.takeEntry (s : State) (p : Nat) : State :=
  let x := s.port p
  match x.newEntry with
  | none => s
  | some e => s.setPort p { x with entry := e, newEntry := none, charge := x.entry.isNone && e.isSome }

/-- A unit is QUIESCED; one to be switched off is OFF at once after it (R144), but a port that an ACTIVATE removes stays
QUIESCED in QUARANTINE (R141). A port that no recipe populates stays an undriven input (R174). `held`: the replies other
units hold for it (assumption log 97). -/
def State.quiesceUnit (s : State) (u held : Nat) : State :=
  if s.unitIs u .draining = true ∧ s.unitAtWork u = false then
    let x := s.unit u
    let removed := decide (u < 128) && (s.port u).newEntry.isSome && s.mode == .quarantine
    let driven := (s.port u).entry.isSome
    let s := { s with sts := { s.sts with quiesce := satAdd s.sts.quiesce held } }
    let s := s.moveUnit u { x with st := .quiesced }
    let s := if u < 128 then
        let s := (s.emptyPort u).takeEntry u
        s.setPort u { s.port u with state := if driven || (s.port u).entry.isSome then .stopped else .off }
      else s
    if x.drainFor ≠ .off ∨ removed = true then s
    else
      let s := s.moveUnit u { x with st := .off }
      let s := if u < 128 then
          s.setPort u { s.port u with state := if (s.port u).entry.isSome then .held else .off }
        else s
      s.unitLost u
  else s

/-- A position as a rejoining port leaves it (R22, R145). -/
def Pos.rejoined (x : Pos) : Pos :=
  { x with reason := 0, misses := 0, lastCrumb := 0, brisk := false, counter := false, classId := 0, catchupDue := false }

/-- The registers of a rejoining port take their Start values (R22). -/
def Port.rejoined (x : Port) (charge : Bool) (state : PortState) : Port :=
  { portOff with
    entry := x.entry, newEntry := x.newEntry, state := state, resetDue := x.entry.isSome, charge := charge
    pos := tabMap (fun _ y => y.rejoined) x.pos }

/-- A unit enters REJOINING with no state from before (R145). -/
def State.rejoinUnit (s : State) (u : Nat) (fromOff : Bool) : State :=
  let s := s.moveUnit u { st := .rejoining, drainFor := .restart, drainEnd := 0, passed := false }
  let s := { s with rcp := { s.rcp with testOff := s.rcp.testOff.erase u } }
  if u < 128 then
    let charge := fromOff || (s.port u).charge
    let s := s.resetBegins u
    let x := s.port u
    let st : PortState := if x.entry.isNone then .off else if charge && s.mode == .service then .charge else .stopped
    let s := s.setPort u (x.rejoined charge st)
    if x.entry.isNone then s.setUnit u unitActive else s
  else if 176 ≤ u then s.setInst (u - 176) Prf.start
  else s

/-- A rejoining engine or instance has run its self-test (R270, R391). -/
def State.rejoinTest (s : State) (u : Nat) (pass : Bool) : State :=
  let x := s.unit u
  if 128 ≤ u ∧ x.st = .rejoining ∧ x.passed = false then
    if pass then
      let s := s.setUnit u { x with passed := true }
      if 176 ≤ u then (s.setInst (u - 176) { s.inst (u - 176) with due := true }).prfReact else s
    else s.selftestFailed u
  else s

/-- UNIT_REJOIN: a QUIESCED unit that returns, or the self-test of one that ON has sent to REJOINING. A port that an
update took to QUIESCED stays there in QUARANTINE (R141). -/
def State.unitRejoin (s : State) (u : Nat) (pass : Bool) : State :=
  let x := s.unit u
  if x.st = .quiesced ∧ x.drainFor ≠ .off ∧ (x.drainFor ≠ .update ∨ s.mode = .service) then
    (s.rejoinUnit u false).rejoinTest u pass
  else s.rejoinTest u pass

/-- R146: a write of RCP_UNIT_CTRL takes effect. -/
def State.unitCommand (s : State) (r : Requester) (u : Nat) (from_ : UnitState) (f : State → State) : State :=
  if u < 180 ∧ s.mode = .service ∧ s.rcp.actBit = false ∧ s.unitIs u from_ = true then f s else s.reject r

/-- The unit is the last of its kind that is not OFF; ports have no such rule. -/
def State.lastOfKind (s : State) (u : Nat) : Bool :=
  decide (128 ≤ u) && ((unitKind u).filter fun v => !s.unitIs v .off).length == 1

/-! ## ACTIVATE (R136–R141) -/

/-- The ports whose PLAIT entry differs between two recipes. -/
def portChanges (old new : List PortEntry) : List Nat :=
  (List.range 128).filter fun p => old.find? (·.port == p) ≠ new.find? (·.port == p)

/-- The PLAIT entries of the recipe that runs. -/
def State.livePorts (s : State) : List PortEntry := match s.rcp.recipe with | none => [] | some r => r.ports

/-- ACTIVATE begins (step 1). The units to update are those of slot A's PLAIT section, verified only in step 2
(assumption log 98). -/
def State.rcpActivate (s : State) : State :=
  if s.mode ≠ .service ∨ s.rcp.loadedB = true then s.cmdEnd cmdMode
  else if (portChanges s.livePorts (parsePorts (contentOf s.flash.slotA 3))).any fun p =>
      s.unitIs p .draining || s.unitIs p .quiesced || s.unitIs p .rejoining then s.cmdEnd cmdUnitBusy
  else { s.cmdBegin .activateVerify with rcp := { (s.cmdBegin .activateVerify).rcp with actBit := true } }

/-- The HASH of a section of a recipe; none: absent. -/
def Recipe.hash (r : Recipe) (typ : Nat) : Option (BitVec 256) :=
  match r.hashes.find? (·.1 == typ) with
  | none => none
  | some e => some e.2

/-- Section types that only Stage loads (R136). -/
def stageOnly : List Nat := [1, 2, 5, 6, 7, 8]

/-- R139: the reload removes a class that a record names, or changes its COUNTER_CLASS. -/
def State.classesRefused (s : State) (old new : Recipe) : Bool :=
  old.acc.any fun a =>
    (s.ldr.records.any fun e => e.2.classId == a.id) &&
      (match new.acc.find? (·.id == a.id) with
      | none => true
      | some b => b.counterClass != a.counterClass)

/-- Steps 2–4: why a verified or failed slot A is not activated; none: it is. -/
def State.activateRefusal (s : State) (code : Nat) (old new : Recipe) : Option Nat :=
  if code = 7 then some cmdRollback
  else if code ≠ 15 then some cmdInvalid
  else if new.generation ≤ s.rcp.gen then some cmdNotNewer
  else if stageOnly.any fun t => old.hash t != new.hash t then some cmdNeedsStage
  else if s.classesRefused old new then some cmdInvalid
  else none

/-- A port's update begins: at once for a port that is OFF, else through the quiesce protocol (R138). -/
def State.updatePort (s : State) (p : Nat) (new : Recipe) : State :=
  let e := new.ports.find? (·.port == p)
  let x := s.port p
  if s.unitIs p .off then
    let s := (s.setPort p { x with newEntry := some e }).takeEntry p
    s.setPort p { s.port p with state := if e.isSome then .held else .off }
  else if s.unitIs p .active && x.newEntry.isNone then
    (s.setPort p { x with newEntry := some e }).drainUnit p (if e.isSome then .update else .off)
  else s

/-- A port of the ACTIVATE is done: REJOINING for a new profile, OFF for a removed one or one that was OFF. -/
def State.portDone (s : State) (p : Nat) (new : Recipe) : Bool :=
  if (new.ports.find? (·.port == p)).isSome then s.unitIs p .rejoining || s.unitIs p .off else s.unitIs p .off

/-- Step 6 goes on as far as it can, and step 7 ends it. -/
def State.activateGo (s : State) : State :=
  match s.rcp.activating with
  | none => s
  | some a =>
    if a.classesDue && s.sch.classesNew.isSome then s
    else
      let s := if a.fabricDue then { s with fab := { s.fab with newNet := some (a.recipe.cells, a.recipe.guards) } } else s
      let a := { a with classesDue := false, fabricDue := false }
      if s.fab.newNet.isSome then { s with rcp := { s.rcp with activating := some a } }
      else
        let s := a.portsTodo.foldl (fun s p => s.updatePort p a.recipe) s
        let left := a.portsTodo.filter fun p => !s.portDone p a.recipe
        if left = [] then s.cmdEnd cmdOk
        else { s with rcp := { s.rcp with activating := some { a with portsTodo := left } } }

/-- Steps 5 and 6. -/
def State.activateApply (s : State) (old new : Recipe) : State :=
  let s := s.squashAll .generation
  let s := { s with
    rcp := { s.rcp with
      gen := new.generation, loadedFloor := new.floor, snapStale := true, recipe := some new, busy := some .activateApply
      activating := some
        { recipe := new, classesDue := old.hash 4 != new.hash 4, fabricDue := old.hash 10 != new.hash 10
          portsTodo := portChanges old.ports new.ports } }
    sch := if old.hash 4 != new.hash 4 then { s.sch with classesNew := some (new.acc, new.ctr) } else s.sch }
  s.activateGo

/-- RCP_VERIFY_DONE: the verification of CLOSE, VERIFY or ACTIVATE has ended. -/
def State.rcpVerifyDone (s : State) (v : SlotVerdict) : State :=
  match s.rcp.busy with
  | some (.closing k) => (s.setSlotResult k (s.closeResult (s.slotBytes k) v)).cmdEnd cmdOk
  | some (.verifying k) => (s.setSlotResult k (s.verifySlot (s.slotBytes k) v)).cmdEnd cmdOk
  | some .activateVerify =>
    let code := s.verifySlot s.flash.slotA v
    let new := parseRecipe s.flash.slotA
    let s := s.setSlotResult 0 code
    (match s.rcp.recipe with
    | none => s.cmdEnd cmdInvalid
    | some old => match s.activateRefusal code old new with
      | some c => s.cmdEnd c
      | none => s.activateApply old new)
  | _ => s

/-! ## The commands -/

/-- RCP_OPEN (R134). -/
def execRcpOpen (r : Requester) (slotB : Bool) (s : State) : Host.Outcome State Fault Refusal :=
  onClock s fun s => s.rcpCommand r fun s => s.rcpOpen r slotB.toNat

/-- RCP_APPEND (R133): CHUNK_LEN is 1–4,096 (R131). -/
def execRcpAppend (r : Requester) (len : Nat) (s : State) : Host.Outcome State Fault Refusal :=
  onClock s fun s => if 1 ≤ len ∧ len ≤ 4096 then s.rcpCommand r fun s => s.rcpAppend len else s.reject r

/-- RCP_CLOSE (R134). -/
def execRcpClose (r : Requester) (s : State) : Host.Outcome State Fault Refusal :=
  onClock s fun s => s.rcpCommand r State.rcpClose

/-- RCP_VERIFY (R127). -/
def execRcpVerify (r : Requester) (slotB : Bool) (s : State) : Host.Outcome State Fault Refusal :=
  onClock s fun s => s.rcpCommand r fun s => s.rcpVerify slotB.toNat

/-- RCP_ACTIVATE (R137). -/
def execRcpActivate (r : Requester) (s : State) : Host.Outcome State Fault Refusal :=
  onClock s fun s => s.rcpCommand r State.rcpActivate

/-- RCP_COMMIT_FLOOR (R135). -/
def execRcpCommitFloor (r : Requester) (s : State) : Host.Outcome State Fault Refusal :=
  onClock s fun s => s.rcpCommand r State.rcpCommitFloor

/-- RCP_FLASH_DONE (R134). -/
def execRcpFlashDone (ok : Bool) (s : State) : Host.Outcome State Fault Refusal := onClock s fun s => s.rcpFlashDone ok

/-- RCP_VERIFY_DONE (R127, R137). -/
def execRcpVerifyDone (v : SlotVerdict) (s : State) : Host.Outcome State Fault Refusal :=
  reacting s fun s => s.rcpVerifyDone v

/-- UNIT_RESTART (R142). -/
def execUnitRestart (r : Requester) (u : Nat) (s : State) : Host.Outcome State Fault Refusal :=
  reacting s fun s => s.unitCommand r u .active fun s => s.drainUnit u .restart

/-- UNIT_OFF (R142, R146). -/
def execUnitOff (r : Requester) (u : Nat) (s : State) : Host.Outcome State Fault Refusal :=
  reacting s fun s => if s.lastOfKind u then s.reject r else s.unitCommand r u .active fun s => s.drainUnit u .off

/-- UNIT_ON (R142). -/
def execUnitOn (r : Requester) (u : Nat) (s : State) : Host.Outcome State Fault Refusal :=
  reacting s fun s => s.unitCommand r u .off fun s => s.rejoinUnit u true

/-- DRAIN_LIMIT_EXPIRE (R143). -/
def execDrainLimitExpire (u : Nat) (s : State) : Host.Outcome State Fault Refusal := reacting s fun s => s.drainCut u

/-- UNIT_QUIESCED (R144). -/
def execUnitQuiesced (u heldReplies : Nat) (s : State) : Host.Outcome State Fault Refusal :=
  reacting s fun s => (s.quiesceUnit u heldReplies).activateGo

/-- UNIT_REJOIN (R145). -/
def execUnitRejoin (u : Nat) (testPass : Bool) (s : State) : Host.Outcome State Fault Refusal :=
  reacting s fun s => (s.unitRejoin u testPass).activateGo

/-- FABRIC_TICK (R152). -/
def execFabricTick (s : State) : Host.Outcome State Fault Refusal :=
  onClock s fun s => s.fabricTick.activateGo

/-- SCHEDULER_EPOCH (R393). -/
def execSchedulerEpoch (s : State) : Host.Outcome State Fault Refusal := reacting s fun s => s.epochTurn.activateGo

end Sys2Proof.Machine
end

