-- ==== Sys2Proof/Machine/Supply.lean ====
section
/-! DEFINITION. Supply Watch (R312–R332): conversions, AC and DC measurement, events, LOST states, EARLY_WARNING and the
prediction. Every value is exact; a conversion's results are published in the command that samples it. -/

namespace Sys2Proof.Machine

/-! ## Settings -/

/-- The SUPPLY entry of an enabled channel (R315). -/
def State.supplyEntry (s : State) (c : Nat) : Option SupplyEntry :=
  match s.rcp.recipe with
  | none => none
  | some r => r.supply.find? fun e => e.channel == c && e.profile != 0

/-- The enabled channels, ascending. -/
def State.spwOn (s : State) : List Nat := (List.range 8).filter fun c => (s.supplyEntry c).isSome

/-- Δs, in µs. -/
def State.spwStep (s : State) : Nat := s.spwOn.length

def State.spwChan (s : State) (c : Nat) : SpwChan := vecGet SpwChan.start s.spw.chans c

def State.setSpw (s : State) (c : Nat) (x : SpwChan) : State :=
  { s with spw := { s.spw with chans := vecSet s.spw.chans c x } }

/-- A level field, in mV. -/
def mv (l : Nat) : Rat := 10 * (l : Rat)

def SupplyEntry.feed (e : SupplyEntry) : Bool := e.role % 2 == 1
def SupplyEntry.bus (e : SupplyEntry) : Bool := e.role / 2 % 2 == 1
def SupplyEntry.ac (e : SupplyEntry) : Bool := e.profile == 1

/-! ## Start (R325, R326) -/

def evAcquire : Nat := 8
def evFreq : Nat := 4
def evTransient : Nat := 3
def evInterruption : Nat := 2
def evRipple : Nat := 7

/-- A channel as the channel start leaves it: in ACQUIRE, its onset counted. -/
def SpwChan.begin (e : SupplyEntry) (tick : BitVec 64) : SpwChan :=
  { SpwChan.start with
    on := true, acquire := true, events := BitVec.twoPow 9 evAcquire, seen := BitVec.twoPow 9 evAcquire, min := 0xFFFF
    onsets := 1, offset := 600 * (e.scale : Rat) / 1000, lastCross := tick }

/-- The body of a SUPPLY event (R377). -/
def supplyBody (c e edge level : Nat) : Bytes :=
  [BitVec.ofNat 8 c, BitVec.ofNat 8 e, BitVec.ofNat 8 edge, 0] ++ leBytes 2 level

/-- Supply Watch starts, at Stage step 6; the first conversion falls in the next cycle in which TICK_NOW increments
(R312). -/
def State.spwBegin (s : State) : State :=
  let s := { s with spw := { Supply.start with
      running := true
      lastConv := some s.tick
      chans := Vector.ofFn fun i => match s.supplyEntry i.val with
        | none => SpwChan.start
        | some e => SpwChan.begin e s.tick } }
  s.spwOn.foldl (fun s c => s.report 2 (supplyBody c evAcquire 1 0)) s

/-! ## Events (R319, R320) -/

/-- An onset or an end of an event. -/
def State.spwEdge (s : State) (c e : Nat) (on : Bool) : State :=
  let x := s.spwChan c
  let x := { x with
    events := setBit x.events e on
    seen := if on then setBit x.seen e true else x.seen
    onsets := if on then satInc x.onsets else x.onsets }
  (s.setSpw c x).report 2 (supplyBody c e on.toNat x.level)

/-- An event with its onset and end conditions: none but ACQUIRE begins in ACQUIRE. -/
def State.spwLevel (s : State) (c e : Nat) (onset end_ : Bool) : State :=
  let x := s.spwChan c
  if x.events.getLsbD e then (if end_ then s.spwEdge c e false else s)
  else if onset && !x.acquire then s.spwEdge c e true else s

/-- Publishes LEVEL, with MIN and MAX; `v` in mV. -/
def State.spwPublish (s : State) (c : Nat) (l : Nat) : State :=
  let x := s.spwChan c
  let l := min 65535 l
  let w : BitVec 16 := BitVec.ofNat 16 l
  s.setSpw c { x with
    level := l
    min := if l < x.min.toNat then w else x.min
    max := if x.max.toNat < l then w else x.max }

/-- A value in mV in 10 mV units, rounded toward zero. -/
def tenths (v : Rat) : Nat := (v / 10).floor.toNat

/-- The LOST state of a channel with a ROLE (R321). -/
def State.spwLost (s : State) (c : Nat) (lost : Bool) : State :=
  let x := s.spwChan c
  if x.lost = lost then s
  else s.setSpw c { x with lost := lost, goodHalf := 0, lostAt := if lost then s.tick else x.lostAt }

/-- Acquisition ends (R326). -/
def State.spwAcquired (s : State) (c : Nat) : State :=
  (s.setSpw c { s.spwChan c with acquire := false }).spwEdge c evAcquire false

/-- TRANSIENT's onset condition has been met by a sample. -/
def State.spwTransient (s : State) (c : Nat) : State :=
  let s := s.spwLevel c evTransient true false
  let x := s.spwChan c
  if x.events.getLsbD evTransient then s.setSpw c { x with transEnd := some (s.tick + 1000) } else s

/-! ## DC_FEED and RAIL (R318) -/

/-- The mean of a list. -/
def mean (l : List Rat) : Rat := l.foldl (· + ·) 0 / (l.length : Rat)

/-- SLOPE in mV per µs, from the 16th sample on. -/
def SpwChan.slopeOf (x : SpwChan) (step : Nat) : Option Rat :=
  if x.count < 16 then none
  else some ((x.v8s.getD 0 0 - x.v8s.getD 8 0) / (8 * (step : Rat)))

/-- The latest V8. -/
def SpwChan.v8 (x : SpwChan) : Rat := x.v8s.getD 0 0

/-- One sample of a DC channel, in supply mV. -/
def State.spwDc (s : State) (c : Nat) (e : SupplyEntry) (v : Rat) : State :=
  let x := s.spwChan c
  let trans := decide (x.count ≠ 0) && (decide (mv e.trans < v - x.v8) || decide (mv e.trans < x.v8 - v))
  let l := (v :: x.samples).take 8
  let x := { x with
    samples := l, sampleAt := s.tick.toNat, count := x.count + 1, v8s := (mean l :: x.v8s).take 9
    winMin := some (match x.winMin with | none => v | some m => min m v)
    winMax := some (match x.winMax with | none => v | some m => max m v) }
  let x := { x with slope := match x.slopeOf s.spwStep with
    | none => 0
    | some r => Int.tdiv (r * 1000).num (r * 1000).den }
  let v8 := x.v8
  let s := (s.setSpw c x).spwPublish c (tenths v8)
  let s := if e.feed || e.bus then
      (if v8 < mv e.warn then s.spwLost c true else if mv e.warn + mv e.hyst ≤ v8 then s.spwLost c false else s)
    else s
  let s := if x.acquire && decide (16 ≤ x.count) then s.spwAcquired c else s
  let s := s.spwLevel c evInterruption (decide (v8 < mv e.intr)) (decide (mv e.intr + mv e.hyst ≤ v8))
  let s := s.spwLevel c 5 (decide (v8 < mv e.low)) (decide (mv e.low + mv e.hyst ≤ v8))
  let s := s.spwLevel c 6 (decide (mv e.high < v8)) (decide (v8 ≤ mv e.high - mv e.hyst))
  if trans then s.spwTransient c else s

/-- A 1 ms ripple window ends: TICK_NOW has reached a multiple of 1,000. -/
def State.rippleEnd (s : State) (c : Nat) : State :=
  match s.supplyEntry c with
  | none => s
  | some e =>
    let x := s.spwChan c
    if !s.spw.running || e.ac || s.tick.toNat % 1000 != 0 then s
    else
      let t := s.setSpw c { x with winMin := none, winMax := none, winWhole := true }
      match x.winMin, x.winMax with
      | some lo, some hi =>
        if x.winWhole then
          (t.setSpw c { t.spwChan c with ripple := min 65535 (tenths (hi - lo)) }).spwLevel c evRipple
            (decide (mv e.ripple < hi - lo)) (decide (hi - lo ≤ mv e.ripple - mv e.hyst))
        else t
      | _, _ => t

/-! ## AC_MAINS (R317) -/

/-- The number of samples of the fast RMS, and of one nominal period. -/
def fastLen (hz step : Nat) : Nat := max 1 (500000 / (hz * step))
def periodLen (hz step : Nat) : Nat := max 1 ((2000000 + hz * step) / (2 * hz * step))

/-- The square of the fast RMS, once it exists. -/
def SpwChan.fast2 (x : SpwChan) (n : Nat) : Option Rat :=
  if x.samples.length < n then none else some (mean ((x.samples.take n).map fun v => v * v))

/-- The square of Urms(1/2) at a half-cycle boundary, over one cycle: the two half cycles that end there, or, where the
cycle holds a closing without a crossing, the latest nominal period of `n` samples (assumption log 108). -/
def SpwChan.urms2 (x : SpwChan) (n : Nat) : Option Rat :=
  if x.nominal ≠ 0 then
    (if x.bounded && decide (n ≤ x.samples.length) then some (mean ((x.samples.take n).map fun v => v * v)) else none)
  else match x.lastHalf with
  | none => none
  | some h => if h.2 + x.halfN = 0 then none else some ((h.1 + x.halfSq) / ((h.2 + x.halfN : Nat) : Rat))

/-- A half-cycle boundary begins a new half. -/
def SpwChan.newHalf (x : SpwChan) : SpwChan :=
  { x with lastHalf := if x.bounded then some (x.halfSq, x.halfN) else none, halfSq := 0, halfN := 0, bounded := true
           nominal := x.nominal - 1 }

/-- Comparison of an RMS value, given by its square, with a level. -/
def rmsBelow (q : Rat) (l : Rat) : Bool := decide (0 < l) && decide (q < l * l)

/-- The events of an Urms(1/2) value, given by its square. -/
def State.spwUrms (s : State) (c : Nat) (e : SupplyEntry) (q : Rat) : State :=
  let s := s.spwPublish c (Nat.sqrt (q / 100).floor.toNat)
  let x := s.spwChan c
  if e.feed && x.lost then
    let n := if rmsBelow q (mv e.warn + mv e.hyst) then 0 else x.goodHalf + 1
    if 4 ≤ n then s.spwLost c false else s.setSpw c { x with goodHalf := n }
  else s

def State.spwUrmsEvents (s : State) (c : Nat) (e : SupplyEntry) (q : Rat) : State :=
  let atMost (l : Rat) : Bool := decide (0 ≤ l) && decide (q ≤ l * l)
  let s := s.spwLevel c 0 (rmsBelow q (mv e.low)) (!rmsBelow q (mv e.low + mv e.hyst))
  let s := s.spwLevel c 1 (!atMost (mv e.high)) (atMost (mv e.high - mv e.hyst))
  s.spwLevel c evInterruption (rmsBelow q (mv e.intr)) (!rmsBelow q (mv e.intr + mv e.hyst))

/-- A cycle closes: the offset is the mean of the cycle; its frequency is measured between the zero instants of two
crossings, `zero` being that of the crossing that ends it. -/
def State.spwCycle (s : State) (c : Nat) (e : SupplyEntry) (zero : Option Rat) : State :=
  let x := s.spwChan c
  let f : Option Rat := match x.crossAt, zero with
    | some a, some b => if a < b then some (1000000 / (b - a)) else none
    | _, _ => none
  let out : Bool := match f with
    | none => false
    | some f => decide ((e.freqTol : Rat) / 100 < f - e.hz) || decide ((e.freqTol : Rat) / 100 < e.hz - f)
  let x := { x with
    offset := if x.cycles ≠ 0 ∧ x.cycN ≠ 0 then x.cycSum / (x.cycN : Rat) else x.offset
    cycSum := 0, cycN := 0, cycles := x.cycles + 1, crossAt := zero
    freq := match f with | none => 0 | some f => min 65535 (f * 100).floor.toNat
    outRun := if f.isNone then x.outRun else if out then x.outRun + 1 else 0
    inRun := if f.isNone then x.inRun else if out then 0 else x.inRun + 1 }
  let s := s.setSpw c x
  let s := if x.acquire && decide (11 ≤ x.cycles) then s.spwAcquired c else s
  if f.isSome then s.spwLevel c evFreq (decide (3 ≤ x.outRun)) (decide (3 ≤ x.inRun)) else s

/-- A half-cycle boundary, which is a cycle boundary too when `cycle`. -/
def State.spwBoundary (s : State) (c : Nat) (e : SupplyEntry) (cycle : Bool) (zero : Option Rat) : State :=
  let u := (s.spwChan c).urms2 (periodLen e.hz s.spwStep)
  let s := s.setSpw c (s.spwChan c).newHalf
  let s := (match u with | none => s | some q => s.spwUrms c e q)
  let s := if cycle then s.spwCycle c e zero else s
  match u with | none => s | some q => s.spwUrmsEvents c e q

/-- The zero instant between two samples, when the signal rises through zero between them. -/
def riseAt (t0 t1 : Nat) (y0 y1 : Rat) : Option Rat :=
  if y0 ≤ 0 ∧ 0 < y1 then some ((t0 : Rat) + ((t1 : Rat) - t0) * (-y0) / (y1 - y0)) else none

/-- Zero crossings: with 1 % of NOMINAL as hysteresis, at the first sample beyond it. While cycles are closed at the
nominal period only a positive-going crossing is a boundary. -/
def State.spwCross (s : State) (c : Nat) (e : SupplyEntry) (y : Rat) : State :=
  let x := s.spwChan c
  let h := mv e.nominal / 100
  let zero := match x.samples with
    | [] => x.zeroAt
    | y0 :: _ => (match riseAt x.sampleAt s.tick.toNat y0 y with | none => x.zeroAt | some t => some t)
  let x := { x with zeroAt := zero }
  if h < y then
    let s := s.setSpw c { x with above := some true }
    if x.above = some false then
      (s.setSpw c { s.spwChan c with synth := none, lastCross := s.tick }).spwBoundary c e true
        (some (zero.getD (s.tick.toNat : Rat)))
    else s
  else if y < -h then
    let s := s.setSpw c { x with above := some false }
    if x.above = some true ∧ x.synth = none then
      (s.setSpw c { s.spwChan c with zeroAt := none }).spwBoundary c e false none
    else s
  else s.setSpw c x

/-- The sample differs by more than TRANS from the one `n` samples before it (R319). -/
def SpwChan.jumps (x : SpwChan) (n : Nat) (y : Rat) (e : SupplyEntry) : Bool :=
  match x.samples[n - 1]? with
  | none => false
  | some old => decide (mv e.trans < y - old) || decide (mv e.trans < old - y)

/-- One sample of an AC channel, in supply mV. -/
def State.spwAc (s : State) (c : Nat) (e : SupplyEntry) (v : Rat) : State :=
  let y := v - (s.spwChan c).offset
  let s := s.spwCross c e y
  let x := s.spwChan c
  let n := periodLen e.hz s.spwStep
  let jump := x.jumps n y e
  let x := { x with
    samples := (y :: x.samples).take (n + 1), sampleAt := s.tick.toNat, count := x.count + 1
    cycSum := x.cycSum + v, cycN := x.cycN + 1, halfSq := x.halfSq + y * y, halfN := x.halfN + 1 }
  let s := s.setSpw c x
  let s := (match x.fast2 (fastLen e.hz s.spwStep) with
    | none => s
    | some q => if e.feed && rmsBelow q (mv e.warn) then s.spwLost c true else s)
  if jump then s.spwTransient c else s

/-! ## EARLY_WARNING and the prediction (R321–R324) -/

/-- The FEED channels and the BUS channels. -/
def State.spwFeeds (s : State) : List (Nat × SupplyEntry) :=
  s.spwOn.filterMap fun c => match s.supplyEntry c with | none => none | some e => if e.feed then some (c, e) else none

def State.spwBuses (s : State) : List (Nat × SupplyEntry) :=
  s.spwOn.filterMap fun c => match s.supplyEntry c with | none => none | some e => if e.bus then some (c, e) else none

/-- SPW_STAT.FEED_CAUSE and BUS_CAUSE. -/
def State.feedCause (s : State) : Bool := s.spwFeeds != [] && s.spwFeeds.all fun e => (s.spwChan e.1).lost
def State.busCause (s : State) : Bool := s.spwBuses.any fun e => (s.spwChan e.1).lost

/-- The BUS term of a channel, in µs. -/
def SpwChan.busTerm (x : SpwChan) (e : SupplyEntry) (slope : Rat) : Nat :=
  if x.v8 ≤ mv e.fail then 0
  else if 0 ≤ slope then 65535
  else Nat.min 65535 ((x.v8 - mv e.fail) / (-slope)).floor.toNat

/-- The terms of R323, each with its SOURCE. -/
def State.predTerms (s : State) : List (Nat × Nat) :=
  (s.spwBuses.filterMap fun e => match (s.spwChan e.1).slopeOf s.spwStep with
      | none => none
      | some r => some ((s.spwChan e.1).busTerm e.2 r, e.1))
    ++ (if s.feedCause then
          [(min 65535 ((s.spwFeeds.map fun e => e.2.holdupUs - (s.tick - (s.spwChan e.1).lostAt).toNat).foldl max 0), 8)]
        else [])

/-- T_PRED and SOURCE, while they exist. -/
def State.predict (s : State) : Option (Nat × Nat) :=
  if (s.spwFeeds ++ s.spwBuses).any fun e => (s.spwChan e.1).acquire then none
  else minBy (fun t : Nat × Nat => t.1 * 16 + t.2) s.predTerms

/-- SPW_PRED.T_US. -/
def State.predUs (s : State) : Nat := match s.spw.pred with | none => 0 | some p => p.1

/-- EARLY_WARNING follows its condition (R322). -/
def State.warn (s : State) : State :=
  if s.feedCause || s.busCause then
    let s := { s with spw := { s.spw with clearAt := none } }
    if s.spw.early then s
    else
      let s := { s with spw := { s.spw with early := true, rises := satInc s.spw.rises, lastRise := s.tick } }
      (((s.raise .earlyWarning).attend 2).report 2 (supplyBody 0xFF 0xFF 1 s.predUs)).withdrawBinds
  else if s.spw.early && s.spw.clearAt.isNone then { s with spw := { s.spw with clearAt := some (s.tick + 10000) } }
  else s

/-- What a sample or a boundary of a channel has changed reaches the prediction, where the channel contributes to it, and
EARLY_WARNING (R314, R323). -/
def State.predictWarn (s : State) (e : SupplyEntry) : State :=
  (if e.feed || e.bus then { s with spw := { s.spw with pred := s.predict } } else s).warn

/-- MISSING_CROSSING_CLOSE: a cycle closes 1.5 nominal periods after the last positive-going crossing, one every nominal
period after that, and Urms(1/2) is refreshed every half period between. -/
def State.missingClose (s : State) (c : Nat) : State :=
  match s.supplyEntry c with
  | none => s
  | some e =>
    let x := s.spwChan c
    let m := match x.synth with | none => 0 | some m => m
    if !s.spw.running || !e.ac || decide ((s.tick - x.lastCross).toNat * e.hz * 2 < (3 + m) * 1000000) then s
    else
      let s := (s.setSpw c { x with synth := some (m + 1), nominal := 3 }).spwBoundary c e (m % 2 == 0) none
      s.predictWarn e


/-! ## Conversions (R312, R313) -/

/-- The code of a ball voltage in nV. -/
def spwCode (ballNv : Nat) : Nat := min 16383 (ballNv * 16384 / 1200000000)

/-- The supply value of a code, in mV. -/
def supplyMv (code scale : Nat) : Rat := (code : Rat) * 1200 / 16384 * scale / 1000

/-- The channel that the next conversion samples. -/
def State.spwNext (s : State) : Option Nat :=
  match s.spwOn.find? fun c => decide (s.spw.next ≤ c) with
  | some c => some c
  | none => s.spwOn.head?

/-- SPW_CONVERSION: one in each cycle in which TICK_NOW increments. -/
def State.convert (s : State) (ballNv : Nat) : State :=
  if !s.spw.running || s.spw.lastConv == some s.tick then s
  else match s.spwNext with
    | none => s
    | some c =>
      match s.supplyEntry c with
      | none => s
      | some e =>
        let k := spwCode ballNv
        let s := { s with spw := { s.spw with next := c + 1, lastConv := some s.tick } }
        let s := s.setSpw c { s.spwChan c with clip := k == 0 || k == 16383 }
        let s := if e.ac then s.spwAc c e (supplyMv k e.scale) else s.spwDc c e (supplyMv k e.scale)
        s.predictWarn e

/-! ## Ends of waits -/

/-- EARLY_WARNING_FALL: deferred flash work goes on (R67, R300). -/
def State.warnEnd (s : State) : State :=
  match s.spw.clearAt with
  | none => s
  | some t =>
    if s.spw.early && decide (t ≤ s.tick) then
      let s := { s with spw := { s.spw with early := false, clearAt := none } }
      (s.report 2 (supplyBody 0xFF 0xFF 0 s.predUs)).snapResume.resumeCompaction
    else s

/-- TRANSIENT_END: 1 ms after the last sample that met the onset condition. -/
def State.transientEnd (s : State) (c : Nat) : State :=
  let x := s.spwChan c
  match x.transEnd with
  | none => s
  | some t =>
    if s.spw.running && decide (t ≤ s.tick) then (s.setSpw c { x with transEnd := none }).spwEdge c evTransient false else s

/-! ## The commands -/

/-- SPW_CONVERSION (R312). -/
def execSpwConversion (ballNv : Nat) (s : State) : Host.Outcome State Fault Refusal := onClock s fun s => s.convert ballNv

/-- EARLY_WARNING_FALL (R322). -/
def execEarlyWarningFall (s : State) : Host.Outcome State Fault Refusal := reacting s State.warnEnd

/-- TRANSIENT_END (R319). -/
def execTransientEnd (c : Nat) (s : State) : Host.Outcome State Fault Refusal := onClock s fun s => s.transientEnd c

/-- RIPPLE_WINDOW_END (R318). -/
def execRippleWindowEnd (c : Nat) (s : State) : Host.Outcome State Fault Refusal := onClock s fun s => s.rippleEnd c

/-- MISSING_CROSSING_CLOSE (R317). -/
def execMissingCrossingClose (c : Nat) (s : State) : Host.Outcome State Fault Refusal :=
  onClock s fun s => s.missingClose c

end Sys2Proof.Machine
end

