-- ==== Sys2Proof/Machine/Stage.lean ====
section
/-! DEFINITION. The run of Stage step by step (R58–R64, R98, R105, R128, R456–R460, R517) and entry to SERVICE (R47,
R71). -/

namespace Sys2Proof.Machine

/-- Step `n` runs when it is due (R58, R64). -/
def State.atStep (s : State) (n : Nat) (f : State → State) : State := if s.stepDue n then f s else s

/-- Step `n` begins: the block that loads with its beginning is there (R517). -/
def State.beginStep (s : State) (n : Nat) : State := { s with mod := { s.mod with begun := insertNew s.mod.begun n } }

/-! ## Step 1 (R44, R77) -/

/-- MOD_START_CAUSE is written; a wrong integrity word means that all vigil state is absent. -/
def State.step1 (s : State) (straps : BitVec 6) : State :=
  let c := { s.mod.nextCause with
    firstPower := s.mod.nextCause.firstPower || !s.vig.intact, lastMode := s.vig.lastMode }
  ({ s with
    mod := { s.mod with nextCause := c, cause := c }
    vig := { s.vig with intact := true }
    links := { s.links with straps := straps }
    sts := .start }).endStep 1

/-! ## Step 2 (R98, R105, R518) -/

/-- The record names a lifecycle group. -/
def PendingRec.namesGroup : PendingRec → Nat → Bool
  | .group n, g => n == g
  | .own _, g => g == 2
  | .addKey _ _, _ => false
  | .revoke _, _ => false

/-- KEY_HASH, when the record names a slot's hash field and active group. -/
def PendingRec.namesSlot : PendingRec → Nat → Option (BitVec 256)
  | .group _, _ => none
  | .own h, i => if i = 0 then some h else none
  | .addKey j h, i => if i = j then some h else none
  | .revoke _, _ => none

def PendingRec.namesRevoke : PendingRec → Nat → Bool
  | .group _, _ => false
  | .own _, _ => false
  | .addKey _ _, _ => false
  | .revoke j, i => i == j

/-- The lifecycle state the record leads to. -/
def PendingRec.target : PendingRec → Option Nat
  | .group n => some n
  | .own _ => some 2
  | .addKey _ _ => none
  | .revoke _ => none

/-- 1 or 2 fuses of a group are blown. -/
def partGroup (n : Nat) : Bool := n == 1 || n == 2

/-- A slot's hash field or active group is partly written: the hash field is, while the active group has no fuse
(R518). -/
def KeySlot.partWritten (k : KeySlot) : Bool := (k.hashAny && k.active == 0) || partGroup k.active

/-- A group the record names is finished, any other stays as read. -/
def finishGroup (named : Bool) (n : Nat) : Nat := if named && partGroup n then 3 else n

/-- A slot as step 2 leaves it: finishing its hash field takes its active group with it (assumption log 15). -/
def KeySlot.resolve (k : KeySlot) (r : Option PendingRec) (i : Nat) : KeySlot :=
  match r with
  | none => k
  | some r =>
    let k := match r.namesSlot i with
      | none => k
      | some h => if k.partWritten then { k with hashAny := true, hash := h, active := 3 } else k
    { k with revoke := finishGroup (r.namesRevoke i) k.revoke }

/-- OTP as step 2 resolves it. -/
def Otp.resolve (o : Otp) (r : Option PendingRec) : Otp :=
  { o with
    groups := Vector.ofFn fun i => finishGroup (match r with | none => false | some r => r.namesGroup (i.val + 1))
      (vecGet 0 o.groups i.val)
    slots := Vector.ofFn fun i => (vecGet KeySlot.blank o.slots i.val).resolve r i.val }

/-- Something is still partly written: no record names it. -/
def Otp.broken (o : Otp) : Bool :=
  o.groups.toList.any partGroup || o.slots.toList.any fun k => k.partWritten || partGroup k.revoke

/-- No transition skips a state (R99): a complete group stands on complete groups. -/
def Otp.skips (o : Otp) : Bool := (List.range 4).any fun i => decide (i < o.stateOf) && vecGet 0 o.groups i != 3

/-- The shadow agrees with the resolved state, or the record explains the difference. -/
def State.shadowAgrees (s : State) (state : Nat) : Bool :=
  match s.vig.shadow with
  | none => true
  | some x => x == state || (match s.vig.record with
    | none => false
    | some r => r.target == some state && x + 1 == state)

/-- The lifecycle check. -/
def State.resolveOtp (s : State) : State :=
  let o := s.otp.resolve s.vig.record
  let done := o != s.otp
  let bad := o.broken || o.skips || !s.shadowAgrees o.stateOf
  let s := { s with
    otp := o
    vig := { s.vig with record := none, shadow := some o.stateOf }
    life := { s.life with completed := done, state := o.stateOf } }
  if bad then s.quarantine .lifecycle else s

/-- Zeroization is run where a recorded cause calls for it and it has not begun, or RETIRED stands without it, and
finished wherever it has, which MOD_QUAR_CAUSE.ZEROIZED shows. -/
def State.resumeZeroize (s : State) : State :=
  let due := s.vig.causes.any QuarCause.zeroizes || s.life.state == 4
  let s := if due && s.keyBlock.used && !s.keyBlock.marker then s.zeroizeBegin else s
  let open_ := s.otp.blocks.toList.any fun k => k.marker && k.unblown
  ({ s with mod := { s.mod with zeroized := s.mod.zeroized || open_ } }).zeroizeFinish

/-- The read inhibit clears at a quarantine exit; a zeroized block calls for LIFECYCLE elsewhere (R105). -/
def State.keyRule (s : State) : State :=
  if s.mod.cause.quarExit then { s with vig := { s.vig with inhibit := false } }
  else if s.keyBlock.marker = true ∧ s.vig.causes = [] ∧ s.life.state ≠ 4 then s.quarantine .lifecycle
  else s

/-- The identity shows, and the force that earlier detections asserted ends (R86, R96). -/
def State.step2 (s : State) : State :=
  let s := s.resolveOtp.resumeZeroize.keyRule
  let s := { s with
    life := { s.life with keyBlock := s.keyBlockField, shown := true }
    vig := { s.vig with force := s.vig.forceTamper || s.vig.forceTap } }
  let spare : Bool := s.mod.cause.quarExit && s.keyBlock.marker && s.life.state != 4
    && !(vecGet KeyBlock.blank s.otp.blocks 1).used
  ({ s with mod := { s.mod with exitSpare := spare } }).endStep 2

/-! ## Step 3 (R60) -/

/-- The engines of a kind that fail before one passes. -/
def bootFails (units : List Nat) (fails : Nat → Bool) : List Nat := units.takeWhile fails

/-- A boot engine fails: it is OFF, and SCH_ records it when it loads. -/
def State.bootFailed (s : State) (u : Nat) : State :=
  let s := { s with rcp := { s.rcp with
    earlyFails := s.rcp.earlyFails ++ [u], testOff := insertNew s.rcp.testOff u } }
  s.moveUnit u { s.unit u with st := .off }

/-- The boot engines are tried. -/
def State.step3 (s : State) (eccFail shaFail : BitVec 8) (aesFail : BitVec 32) : State :=
  let ecc := bootFails eccUnits fun u => eccFail.getLsbD (u - 128)
  let sha := bootFails shaUnits fun u => shaFail.getLsbD (u - 168)
  let aes := bootFails aesUnits fun u => aesFail.getLsbD (u - 136)
  let s := (ecc ++ sha ++ aes).foldl State.bootFailed s
  if ecc.length = 8 ∨ sha.length = 8 then s.stageFault 2 else s.endStep 3

/-! ## Step 4 (R128, R459, R460) -/

/-- What both flashes must offer. -/
def sfdpCommon (x : Sfdp) : Bool :=
  x.readable && x.quadRead && x.addr4 && x.page256 && x.erase4k && x.eraseSuspend && decide (25000 ≤ x.maxClockKhz)

def sfdpBoot (x : Sfdp) : Bool := sfdpCommon x && x.erase64k && decide (26 ≤ x.log2)

def sfdpRecord (x : Sfdp) : Bool :=
  sfdpCommon x && decide (24 ≤ x.log2) && x.programSuspend && decide (x.suspendUs ≤ 30)

/-- HST_FLASH_STAT.CLOCK: the highest clock that both permit. -/
def flashClock (khz : Nat) : Nat :=
  if 133333 ≤ khz then 0 else if 100000 ≤ khz then 1 else if 66666 ≤ khz then 2 else if 50000 ≤ khz then 3 else 4

/-- The log2 of a flash's size; 0 when its tables cannot be read. -/
def sfdpSize (x : Sfdp) : Nat := if x.readable then x.log2 else 0

/-- A VALID slot is taken. -/
def State.takeSlot (s : State) (k : Nat) : State :=
  let r := parseRecipe (s.slotBytes k)
  ({ s with
    rcp := { s.rcp with loadedB := k == 1, gen := r.generation, loadedFloor := r.floor, pendingRcp := some r }
    mod := { s.mod with cause := { s.mod.cause with slotB := k == 1 } } }).endStep 4

/-- Slot B is verified only when slot A fails. -/
def State.step4 (s : State) (boot record : Sfdp) (a b : SlotVerdict) : State :=
  let s := s.beginStep 4
  let s := { s with flash := { s.flash with
    bootLog2 := sfdpSize boot, recLog2 := min 28 (sfdpSize record), clock := flashClock (min boot.maxClockKhz record.maxClockKhz) } }
  if !sfdpBoot boot || !sfdpRecord record then s.stageFault 5
  else
    let ra := s.verifySlot s.flash.slotA a
    let s := s.setSlotResult 0 ra
    if ra = 15 then s.takeSlot 0
    else
      let rb := s.verifySlot s.flash.slotB b
      let s := s.setSlotResult 1 rb
      if rb = 15 then s.takeSlot 1 else s.stageFault 1

/-! ## Step 5 (R456, R457) -/

/-- SIZE_GIB of a strap word. -/
def strapGib (v : BitVec 6) : Nat := 2 * 2 ^ (v.toNat % 4) * (if v.getLsbD 2 then 2 else 1)

def State.step5 (s : State) (converges : Bool) : State :=
  if converges && !s.links.straps.getLsbD 5 && decide (strapGib s.links.straps ≤ 16) then
    ({ s with links := { s.links with trained := true } }).endStep 5
  else s.stageFault 4

/-! ## Step 6 (R60, R89, R136) -/

/-- The recipe reaches every unit. -/
def State.loadRecipe (s : State) (r : Recipe) : State :=
  let s := { s with
    ports := []
    rcp := { s.rcp with recipe := some r, pendingRcp := none }
    vig := { s.vig with armed := if s.life.state = 3 then s.vig.armed ||| r.tamperMask else r.tamperMask }
    fab := { s.fab with cells := r.cells, guards := r.guards, fresh := true }
    sch := { s.sch with
      acc := r.acc, ctr := r.ctr
      selfFails := satAdd s.sch.selfFails s.rcp.earlyFails.length
      lastFail := match s.rcp.earlyFails.getLast? with | none => s.sch.lastFail | some u => u
      lastFailOk := s.sch.lastFailOk || s.rcp.earlyFails != [] } }
  let s := r.ports.foldl (fun s e => s.setPort e.port { portOff with entry := some e, state := .held }) s
  s.spwBegin.watchLoops

def State.step6 (s : State) : State :=
  match s.rcp.pendingRcp with
  | none => s
  | some r => (s.loadRecipe r).endStep 6

/-! ## Steps 7 and 8 (R64, R69, R140, R302) -/

/-- SNAP_STALE: an anchored snapshot was made under another recipe generation. -/
def State.snapStaleNow (s : State) : Bool :=
  s.vig.snapOk && (match tabFind s.flash.snaps s.vig.snapSlot with
    | none => false
    | some x => x.recipeGen != s.rcp.gen)

def State.step7 (s : State) : State :=
  let s := s.restoreSettings
  ({ s with rcp := { s.rcp with snapStale := s.snapStaleNow } }).endStep 7

/-- Without keys no journal is read. A recovery that is to compact waits while EARLY_WARNING is 1 (R300). -/
def State.step8 (s : State) : State :=
  let s := s.beginStep 8
  if !s.hasKeys then s.endStep 8
  else if s.recoveryWaits then s
  else s.recoverJournal.endStep 8

/-! ## Step 9 (R58, R60, R251, R253, R270) -/

/-- The engines of a kind that step 3 did not try: all but those that failed there and the one that passed. -/
def State.untried (s : State) (units : List Nat) : List Nat := (units.filter fun u => s.unitIs u .active).drop 1

/-- The self-tests and the conditioning test of every SHA-256 lane in use. -/
def State.engineTests (s : State) (eccFail shaFail : BitVec 8) (aesFail : BitVec 32) (katFail : BitVec 8) : State :=
  let bad := ((s.untried eccUnits).filter fun u => eccFail.getLsbD (u - 128))
    ++ ((s.untried aesUnits).filter fun u => aesFail.getLsbD (u - 136))
    ++ ((s.untried shaUnits).filter fun u => shaFail.getLsbD (u - 168))
  let s := bad.foldl State.selftestFailed s
  (shaUnits.filter fun u => s.unitIs u .active && katFail.getLsbD (u - 168)).foldl State.selftestFailed s

/-- The Proofer instances' known-answer tests. -/
def State.prfTests (s : State) (prfFail : BitVec 4) : State :=
  (List.range 4).foldl (fun s i =>
    if prfFail.getLsbD i then s.selftestFailed (176 + i) else s.setInst i { s.inst i with due := true }) s

/-- With no SHA-256 lane both channels fail with cause KAT. -/
def State.katCheck (s : State) : State :=
  if shaUnits.any fun u => s.unitIs u .active then s
  else
    let s := if (s.chan .a).state = 1 then s.failChan .a 5 else s
    if (s.chan .b).state = 1 then s.failChan .b 5 else s

/-- Step 9 begins; it completes, or fails, when its channels have settled (`step9Check`). -/
def State.step9 (s : State) (eccFail shaFail : BitVec 8) (aesFail : BitVec 32) (prfFail : BitVec 4)
    (katFail : BitVec 8) : State :=
  let s := (s.beginStep 9).engineTests eccFail shaFail aesFail katFail
  let s := s.prfTests prfFail
  let s := { s with ent := { s.ent with forming := true }, mod := { s.mod with inStep9 := true } }
  (((s.startChan .a).startChan .b).katCheck).entropyReact

/-! ## Step 10 (R64, R349) -/

def State.step10 (s : State) (reads : HeaderReads) (treeOk : Bool) : State :=
  let s := s.beginStep 10
  (if s.hasKeys then s.openLarder reads treeOk else s).endStep 10

/-! ## SERVICE (R47, R71) -/

/-- The recipe does not require GO, or GO has been written. -/
def State.goGiven (s : State) : Bool :=
  s.mod.goReq || (match s.rcp.recipe with | none => true | some r => !r.requireGo)

/-- A populated port begins its reset sequence with the charge period. -/
def State.startPort (s : State) (p : Nat) : State :=
  if (s.port p).entry.isNone then s
  else
    let s := s.resetBegins p
    s.setPort p { s.port p with state := .charge, charge := true, resetDue := true }

def State.enterService (s : State) : State :=
  if s.mode = .stage ∧ s.mod.preludeOn = false ∧ s.mod.stageDone = true ∧ s.vig.causes = [] ∧ s.goGiven = true then
    let s := ({ s with mod := { s.mod with goReq := false } }).setMode .service
    let s := s.ports.foldl (fun s e => s.startPort e.1) s
    { s with glz := { s.glz with state := s.glzIdle } }
  else s

/-! ## The commands -/

/-- STAGE_STEP_1 (R58): without PLL lock Stage remains at step 0. -/
def execStageStep1 (straps : BitVec 6) (pllLocks : Bool) (s : State) : Host.Outcome State Fault Refusal :=
  onClock s fun s => s.atStep 1 fun s => if pllLocks then s.step1 straps else s

/-- STAGE_STEP_2 (R98). -/
def execStageStep2 (s : State) : Host.Outcome State Fault Refusal := onClock s fun s => s.atStep 2 State.step2

/-- STAGE_STEP_3 (R60). -/
def execStageStep3 (eccFail shaFail : BitVec 8) (aesFail : BitVec 32) (s : State) : Host.Outcome State Fault Refusal :=
  onClock s fun s => s.atStep 3 fun s => s.step3 eccFail shaFail aesFail

/-- STAGE_STEP_4 (R128). -/
def execStageStep4 (boot record : Sfdp) (slotA slotB : SlotVerdict) (s : State) : Host.Outcome State Fault Refusal :=
  onClock s fun s => s.atStep 4 fun s => s.step4 boot record slotA slotB

/-- STAGE_STEP_5 (R457). -/
def execStageStep5 (converges : Bool) (s : State) : Host.Outcome State Fault Refusal :=
  onClock s fun s => s.atStep 5 fun s => s.step5 converges

/-- STAGE_STEP_6 (R58). -/
def execStageStep6 (s : State) : Host.Outcome State Fault Refusal := onClock s fun s => s.atStep 6 State.step6

/-- STAGE_STEP_7 (R69). -/
def execStageStep7 (s : State) : Host.Outcome State Fault Refusal := onClock s fun s => s.atStep 7 State.step7

/-- STAGE_STEP_8 (R302). -/
def execStageStep8 (s : State) : Host.Outcome State Fault Refusal := onClock s fun s => s.atStep 8 State.step8

/-- STAGE_STEP_9 (R251). -/
def execStageStep9 (eccFail shaFail : BitVec 8) (aesFail : BitVec 32) (prfFail : BitVec 4) (katFail : BitVec 8)
    (s : State) : Host.Outcome State Fault Refusal :=
  onClock s fun s =>
    if s.mod.inStep9 then s else s.atStep 9 fun s => s.step9 eccFail shaFail aesFail prfFail katFail

/-- STAGE_STEP_10 (R349). -/
def execStageStep10 (reads : HeaderReads) (treeOk : Bool) (s : State) : Host.Outcome State Fault Refusal :=
  onClock s fun s => s.atStep 10 fun s => s.step10 reads treeOk

/-- ENTER_SERVICE (R47). -/
def execEnterService (s : State) : Host.Outcome State Fault Refusal := onClock s State.enterService

end Sys2Proof.Machine
end

