-- ==== Sys2Proof/Machine/Registers.lean ====
section
/-! DEFINITION. What every register of BAR0 reads (R13–R16, R478), block by block, from the fields of the state. An offset
that no register occupies is a hole (R481). -/

namespace Sys2Proof.Machine

/-- What a read finds at a register's offset. -/
inductive Reg where
  /-- A word that the read leaves as it is. -/
  | plain (w : Word)
  /-- An RC field's word, and the state after the read (R14). -/
  | clears (w : Word) (after : State)
  /-- The lowest word of a wide value, with the words that the hold latch takes and the state after the read (R19). -/
  | lowest (w : Word) (rest : List Word) (after : State)
  /-- A higher word of a wide value: the hold latch (R19). -/
  | higher
deriving DecidableEq, Repr

/-- A single-field word. -/
def num (n : Nat) : Option Reg := some (.plain (BitVec.ofNat 32 n))

/-- A word of fields, each given with its lowest bit. -/
def fields (fs : List (Nat × Nat)) : Option Reg := some (.plain (word fs))

/-- The lowest word of a 64-bit value that the read leaves as it is. -/
def State.wide64 (s : State) (v : BitVec 64) : Option Reg := some (.lowest (lowWord v) [highWord v] s)

/-! ## GLB_ (R96, R479, R486) -/

/-- Word `i` of octets read little-endian. -/
def octetWord (bs : Bytes) (i : Nat) : Word := BitVec.ofNat 32 (leAt bs (4 * i) 4)

def State.readGlb (s : State) (o : Nat) : Option Reg :=
  match o with
  | 0x0 => fields [(0, s.otp.revision.toNat), (16, 0x9140)]
  | 0x8 => s.wide64 s.tick
  | 0xC => some .higher
  | 0x10 => num s.irqStat.toNat
  | 0x14 => num s.kept.irqEn.toNat
  | 0x140 => num (if s.identityReadable then s.keyBlock.cert.length else 0)
  | o =>
    if 0x100 ≤ o ∧ o < 0x140 then
      some (.plain (if s.identityReadable then octetWord s.pubBytes ((o - 0x100) / 4) else 0))
    else if 0x400 ≤ o ∧ o < 0x800 then some (.plain (octetWord s.certWindow ((o - 0x400) / 4)))
    else none

/-! ## MOD_ (R42–R46) -/

/-- MOD_STATE.MODE. -/
def Mode.code : Mode → Nat
  | .unpowered => 0
  | .vigil => 0
  | .stage => 1
  | .service => 2
  | .quarantine => 3

/-- MOD_STATE.GO_WAIT. -/
def State.goWait (s : State) : Bool := s.mode == .stage && s.mod.stageDone && !s.goGiven

/-- MOD_QUAR_CAUSE. -/
def State.quarWord (s : State) : Word :=
  word [(0, match s.mod.quarCause with | none => 0 | some c => c.code), (8, s.mod.zeroized.toNat), (9, s.mod.fromMode),
    (11, s.mod.readHost.toNat), (12, s.mod.readMsp.toNat), (13, s.mod.ackDone.toNat)]

/-- A read of MOD_QUAR_CAUSE in QUARANTINE sets the requester's flag (R45). -/
def State.quarRead (s : State) (r : Requester) : State :=
  if s.mode = .quarantine then
    { s with mod := match r with
      | .pcie => { s.mod with readHost := true }
      | .msp => { s.mod with readMsp := true } }
  else s

def State.readMod (s : State) (r : Requester) (o : Nat) : Option Reg :=
  match o with
  | 0x0 => fields [(0, s.mode.code), (4, s.mod.stageStep), (8, s.mod.stageDone.toNat), (9, s.goWait.toNat),
      (12, s.mod.stageFault)]
  | 0x4 => fields [(0, s.mod.goReq.toNat),
      (1, (s.mod.preludeOn && (s.mod.nextCause.hostRestart || s.mod.nextCause.mspRestart)).toNat),
      (2, s.mod.snapReq.toNat)]
  | 0x8 => some (.plain s.mod.cause.asWord)
  | 0xC => some (.clears s.quarWord (s.quarRead r))
  | 0x10 => fields [(0, s.snapBusy.toNat), (1, s.mod.snapPending.toNat), (2, s.mod.snapResult), (4, s.vig.snapSlot),
      (8, s.snapExhausted.toNat)]
  | 0x14 => num s.vig.snapGen
  | 0x18 => num s.mod.stageTime
  | _ => none

/-! ## VGL_ (R91–R94) -/

def State.readVgl (s : State) (o : Nat) : Option Reg :=
  match o with
  | 0x0 => fields [(0, s.vig.anchorOk.toNat), (1, s.vig.vbatPresent.toNat), (2, s.vig.vbatLow.toNat),
      (3, s.vig.force.toNat), (4, s.vig.inhibit.toNat), (5, s.vig.zeroPending.toNat), (8, s.vig.buffer.length)]
  | 0x4 => fields [(0, s.vig.armed.toNat), (8, s.vig.latched.toNat), (16, s.vig.firstPair), (20, s.vig.firstKind),
      (22, s.vig.inVigil.toNat)]
  | 0xC =>
    if s.stepDone 2 then
      fields [(0, s.life.state), (3, s.life.completed.toNat), (4, s.slotActive), (8, s.slotRevoked), (12, s.keyEpoch),
        (16, s.keyBlockField)]
    else num 0
  | 0x10 => s.wide64 s.anchorSeq
  | 0x14 => some .higher
  | _ => none

/-! ## RCP_ and FAB_ (R129–R132, R172, R173) -/

/-- RCP_UNIT_STATE: four units a register. -/
def State.unitWord (s : State) (m : Nat) : Word :=
  word ((List.range 4).map fun j => (8 * j, (s.unit (4 * m + j)).st.code))

def State.readRcp (s : State) (o : Nat) : Option Reg :=
  match o with
  | 0x0 => fields [(0, s.rcp.resultA), (4, s.rcp.resultB), (8, s.rcp.loadedB.toNat), (9, s.rcp.busy.isSome.toNat),
      (10, s.rcp.actBit.toNat), (11, s.rcp.snapStale.toNat), (12, s.rcp.cmdResult)]
  | 0x4 => num s.rcp.gen
  | 0x8 => fields [(0, s.otp.rollback), (8, s.rcp.loadedFloor)]
  | 0xC => num 0
  | 0x10 => num 0
  | o =>
    if 0x200 ≤ o ∧ o ≤ 0x2B0 then some (.plain (s.unitWord ((o - 0x200) / 4)))
    else if 0x1000 ≤ o ∧ o < 0x2000 then
      some (.plain (word ((List.range 4).map fun j => (8 * j, (tabGet 0 s.rcp.win (o - 0x1000 + j)).toNat))))
    else none

/-- FAB_CELL_OUTm. -/
def State.cellWord (s : State) (m : Nat) : Word := (s.fab.out >>> (32 * m)).truncate 32

/-- The timer count of a cell: the count of OFF_DELAY is held as TIMER_N less it (R172). -/
def Fabric.timerCount (f : Fabric) (k : Nat) : Nat :=
  match f.cells[k]? with
  | none => 0
  | some c => if c.timer = 2 then c.timerN - tabGet 0 f.counts k else tabGet 0 f.counts k

def State.readFab (s : State) (o : Nat) : Option Reg :=
  match o with
  | 0x0 => fields [(0, s.fab.cells.length), (16, s.fab.guards.length), (31, (s.mode == .service).toNat)]
  | 0x4 => s.wide64 s.fab.ticks
  | 0x8 => some .higher
  | 0xC => num s.fab.peekSel
  | 0x10 => num s.fab.lastIn.toNat
  | 0x14 => num s.fab.cellSel
  | 0x18 => fields [(0, (s.fab.out.getLsbD s.fab.cellSel).toNat), (1, (s.fab.latch.getLsbD s.fab.cellSel).toNat),
      (8, s.fab.timerCount s.fab.cellSel)]
  | 0x100 => some (.lowest (s.cellWord 0) ((List.range 31).map fun m => s.cellWord (m + 1)) s)
  | o => if 0x104 ≤ o ∧ o ≤ 0x17C then some .higher else none

/-! ## GRD_ (R170, R171) -/

/-- The guards that an entry lists, under a test. -/
def Fabric.guardMask (f : Fabric) (t : GuardEntry → Bool) : BitVec 256 :=
  f.guards.foldl (fun v g => if t g then setBit v g.guard true else v) 0

def State.readGrd (s : State) (o : Nat) : Option Reg :=
  if o < 0x20 then some (.plain (word256 s.fab.enabled (o / 4)))
  else if 0x100 ≤ o ∧ o < 0x120 then some (.plain (word256 s.fab.permit ((o - 0x100) / 4)))
  else if 0x200 ≤ o ∧ o < 0x220 then some (.plain (word256 s.fab.fault ((o - 0x200) / 4)))
  else if 0x300 ≤ o ∧ o < 0x320 then some (.plain (word256 (s.fab.guardMask (·.static)) ((o - 0x300) / 4)))
  else if 0x380 ≤ o ∧ o < 0x3A0 then some (.plain (word256 (s.fab.guardMask fun _ => true) ((o - 0x380) / 4)))
  else if o = 0x400 then
    fields [(0, s.vig.force.toNat), (1, (s.mode != .service).toNat), (2, s.fab.stallHold.toNat),
      (16, popcount s.fab.enabled)]
  else none

/-! ## PLT_ (R203–R206, R237, R238) -/

/-- PLT_POS of a position. -/
def Pos.asWord (x : Pos) : Word :=
  word [(0, x.verdict), (2, x.session.isSome.toNat), (3, x.catchupDue.toNat), (4, x.reason), (8, x.misses),
    (12, x.lastCrumb.toNat), (16, x.brisk.toNat)]

def Port.speedBrisk (x : Port) : Bool := match x.entry with | none => false | some e => e.brisk

/-- A read that clears a field of a port. -/
def State.portClear (s : State) (p : Nat) (w : Word) (x : Port) : Option Reg := some (.clears w (s.setPort p x))

def State.readPlt (s : State) (p o : Nat) : Option Reg :=
  let x := s.port p
  match o with
  | 0x0 => fields [(0, x.state.code), (4, x.fault), (8, x.speedBrisk.toNat), (9, x.spuOn.toNat),
      (10, x.busy.toNat), (11, x.spuWait.isSome.toNat), (16, x.chainLen)]
  | 0x4 => some (.plain x.present)
  | 0x8 => some (.plain x.mute)
  | 0x10 => num x.event.toNat
  | 0x14 => fields [(0, x.reenum.toNat), (1, x.probeReq.toNat)]
  | 0x20 => s.portClear p x.erasures { x with erasures := 0 }
  | 0x24 => s.portClear p x.noanswer { x with noanswer := 0 }
  | 0x28 => s.portClear p x.contention { x with contention := 0 }
  | 0x2C => fields [(0, x.presFall), (16, x.presWidth)]
  | 0x100 => s.portClear p x.crcerr { x with crcerr := 0 }
  | 0x104 => s.portClear p x.retries { x with retries := 0 }
  | 0x108 => s.portClear p x.tstatErr { x with tstatErr := 0 }
  | 0x10C => s.portClear p x.sprMsgs { x with sprMsgs := 0 }
  | 0x110 => s.portClear p x.sprDrops { x with sprDrops := 0 }
  | 0x114 => s.portClear p x.authFails { x with authFails := 0 }
  | 0x118 => s.portClear p x.powerLow { x with powerLow := 0 }
  | o => if 0x180 ≤ o ∧ o < 0x200 then some (.plain (x.at ((o - 0x180) / 4 + 1)).asWord) else none

/-! ## ENT_ (R264, R266–R268) -/

/-- A channel's active latches: none while it is OFF, or DEAD since before this start, which nothing updates (R246); only a
failure of this start has left a cause. -/
def State.shownLatches (s : State) : Nat :=
  if s.ent.a.state = 0 ∨ (s.ent.a.state = 4 ∧ s.ent.a.cause = 0) then 0 else s.activeLatches

/-- The cutoffs in force of a channel. -/
def Chan.cuts (c : Chan) : Option Reg := fields [(0, c.rct), (16, c.apt)]

/-- The estimate counts of a channel: SEQ latches the four others. -/
def State.estWords (s : State) (c : Chan) : Option Reg :=
  some (.lowest c.estSeq ([c.estBits, c.estOnes, c.estPairs, c.estAgree].map (BitVec.ofNat 32)) s)

def State.chanClear (s : State) (ch : Channel) (w : Word) (c : Chan) : Option Reg := some (.clears w (s.setChan ch c))

def State.readEnt (s : State) (o : Nat) : Option Reg :=
  let a := s.ent.a
  let b := s.ent.b
  match o with
  | 0x0 => fields [(0, a.state), (3, a.retesting.toNat), (4, b.state), (7, b.retesting.toNat), (8, a.cause),
      (12, b.cause), (16, s.shownLatches), (24, min 3 (s.recentRetests a).length),
      (26, min 3 (s.recentRetests b).length)]
  | 0x4 => fields [(0, a.retestBit.toNat), (1, b.retestBit.toNat)]
  | 0x8 => num s.ent.lastLatch
  | 0x10 => a.cuts
  | 0x14 => b.cuts
  | 0x18 => s.wide64 s.ent.masked
  | 0x1C => some .higher
  | 0x20 => fields [(0, s.ent.fastMhz), (16, s.ent.slowKhz)]
  | 0x40 => s.estWords a
  | 0x60 => s.estWords b
  | 0x80 => s.chanClear .a a.events { a with events := 0 }
  | 0x84 => s.chanClear .a a.nconf { a with nconf := 0 }
  | 0x88 => s.chanClear .a a.ndisc { a with ndisc := 0 }
  | 0x8C => s.chanClear .a a.ndrop { a with ndrop := 0 }
  | 0x90 => s.chanClear .b b.events { b with events := 0 }
  | 0x94 => s.chanClear .b b.nconf { b with nconf := 0 }
  | 0x98 => s.chanClear .b b.ndisc { b with ndisc := 0 }
  | 0x9C => s.chanClear .b b.ndrop { b with ndrop := 0 }
  | o =>
    if (0x44 ≤ o ∧ o ≤ 0x50) ∨ (0x64 ≤ o ∧ o ≤ 0x70) then some .higher
    else if 0x100 ≤ o ∧ o < 0x140 then
      some (.plain (word ((List.range 4).map fun j => (8 * j, s.ent.trim.getD (o - 0x100 + j) 0))))
    else none

/-! ## PRF_ and RNG_ (R280, R284) -/

/-- Words ready for RNG_DATA. -/
def State.rngLevel (s : State) : Nat :=
  match s.server 0 with
  | none => 0
  | some i => (s.inst i).buf.length / 4

/-- A read of RNG_DATA: four octets of confirmed output, the first one lowest, or 0 and the sticky flag. -/
def State.rngRead (s : State) : Word × State :=
  match s.server 0 with
  | none => (0, { s with rngEmpty := true })
  | some i =>
    match s.drawFrom i 4 with
    | none => (0, { s with rngEmpty := true })
    | some (bs, t) => (BitVec.ofNat 32 (leNat bs), t)

/-- STATE of an instance: UNINSTANTIATED while its unit is not ACTIVE (R269). -/
def State.shownPrf (s : State) (i : Nat) : Nat := if s.unitIs (prfUnit i) .active then (s.inst i).state else 0

def State.readPrf (s : State) (o : Nat) : Option Reg :=
  match o with
  | 0x0 => fields ((List.range 4).map fun i => (4 * i, s.shownPrf i))
  | 0x100 => fields [(0, (decide (s.rngLevel ≠ 0)).toNat), (1, s.rngEmpty.toNat), (4, min 2048 s.rngLevel),
      (16, match s.server 0 with | none => 0 | some i => i)]
  | 0x104 => some (.clears s.rngRead.1 s.rngRead.2)
  | o =>
    if 0x10 ≤ o ∧ o < 0x20 then
      let x := s.inst ((o - 0x10) / 4)
      fields [(0, x.since), (24, x.lastCh)]
    else if 0x20 ≤ o ∧ o < 0x30 then
      let x := s.inst ((o - 0x20) / 4)
      some (.clears x.reseeds (s.setInst ((o - 0x20) / 4) { x with reseeds := 0 }))
    else none

/-! ## CNT_ (R310, R311) -/

/-- The high word of a 48-bit value. -/
def high48 (n : Nat) : Word := BitVec.ofNat 32 (n / 2 ^ 32)

/-- CNT_FLAGS of the selected counter. -/
def State.cntFlags (s : State) : Word :=
  let id := s.cnt.sel
  word [(0, (s.counterExists id).toNat), (1, (s.limitFlag id).toNat), (2, (s.recovering id).toNat),
    (8, if id < globalBase then s.counterClass (s.record id).classId else 0)]

/-- At least one counter is RECOVERING. -/
def State.recoveringAny (s : State) : Bool := s.cnt.ready && s.cnt.recoverAll && decide (s.cnt.recovered.length < globalBase + 1024)

def State.cntClear (s : State) (w : Word) (c : Counters) : Option Reg := some (.clears w { s with cnt := c })

def State.readCnt (s : State) (o : Nat) : Option Reg :=
  match o with
  | 0x0 => fields [(0, s.cnt.ready.toNat), (1, s.commitOpen.toNat), (2, (s.cnt.compaction != .none).toNat),
      (3, (decide (ratchetFuses ≤ s.otp.ratchet + 256)).toNat), (4, (decide (ratchetFuses ≤ s.otp.ratchet)).toNat),
      (5, s.cnt.rejected.toNat), (6, s.recoveringAny.toNat), (7, s.cnt.drainFail.toNat),
      (8, min 100 ((s.cnt.headSeq - s.cnt.ckptSeq) * 100 / ringSlots))]
  | 0x4 => num s.otp.ratchet
  | 0x8 => s.wide64 (BitVec.ofNat 64 s.cnt.headSeq)
  | 0xC => some .higher
  | 0x10 => s.wide64 (BitVec.ofNat 64 s.cnt.ckptSeq)
  | 0x14 => some .higher
  | 0x20 => num s.cnt.sel
  | 0x24 =>
    let c := s.visibleCount s.cnt.sel
    let l := s.limit s.cnt.sel
    some (.lowest (BitVec.ofNat 32 c) [high48 c, BitVec.ofNat 32 l, high48 l, s.cntFlags] s)
  | 0x28 => some .higher
  | 0x2C => some .higher
  | 0x30 => some .higher
  | 0x34 => some .higher
  | 0x40 => s.cntClear s.cnt.commits { s.cnt with commits := 0 }
  | 0x44 => s.cntClear s.cnt.supplyHolds { s.cnt with supplyHolds := 0 }
  | 0x48 => s.cntClear s.cnt.adoptions { s.cnt with adoptions := 0 }
  | 0x4C => s.cntClear s.cnt.compactions { s.cnt with compactions := 0 }
  | 0x50 => s.cntClear s.cnt.drainRetries { s.cnt with drainRetries := 0 }
  | _ => none

/-! ## SPW_ (R330–R332) -/

/-- One bit per channel. -/
def State.spwMask (s : State) (t : SpwChan → Bool) : Nat :=
  if s.spw.running then (List.range 8).foldl (fun n c => n + (t (s.spwChan c)).toNat * 2 ^ c) 0 else 0

def State.readSpwChan (s : State) (c o : Nat) : Option Reg :=
  let x := s.spwChan c
  match o with
  | 0x0 => fields [(0, x.level), (16, x.freq)]
  | 0x4 => fields [(0, x.events.toNat), (16, x.clip.toNat)]
  | 0x8 => num x.seen.toNat
  | 0xC => some (.clears (word [(0, x.min.toNat), (16, x.max.toNat)]) (s.setSpw c { x with min := 0xFFFF, max := 0 }))
  | 0x10 => some (.plain (BitVec.ofInt 32 x.slope))
  | 0x14 => num x.ripple
  | 0x18 => some (.clears x.onsets (s.setSpw c { x with onsets := 0 }))
  | _ => none

def State.readSpw (s : State) (o : Nat) : Option Reg :=
  match o with
  | 0x0 => fields [(0, s.spw.early.toNat), (1, s.spw.pred.isSome.toNat), (2, (s.spw.running && s.feedCause).toNat),
      (3, (s.spw.running && s.busCause).toNat), (4, s.spw.clearAt.isSome.toNat), (8, s.spwMask (·.on)),
      (16, s.spwMask (·.lost)), (24, s.spwMask (·.acquire))]
  | 0x4 => match s.spw.pred with
    | none => fields [(16, 0xF)]
    | some p => fields [(0, p.1), (16, p.2)]
  | 0x8 => some (.clears s.spw.rises { s with spw := { s.spw with rises := 0 } })
  | 0x10 => s.wide64 s.spw.lastRise
  | 0x14 => some .higher
  | o => if 0x100 ≤ o ∧ o < 0x300 then s.readSpwChan ((o - 0x100) / 0x40) ((o - 0x100) % 0x40) else none

/-! ## LDR_ (R356, R357) -/

def State.ldrClear (s : State) (w : Word) (l : Larder) : Option Reg := some (.clears w { s with ldr := l })

def State.readLdr (s : State) (o : Nat) : Option Reg :=
  let l := s.ldr
  match o with
  | 0x0 => fields [(0, l.isOpen.toNat), (1, l.fresh), (4, l.running.isSome.toNat), (5, l.full.toNat),
      (6, (l.poisoned != []).toNat), (7, (l.locked != []).toNat), (8, min 255 s.dirtyPages), (16, l.roundFail.toNat)]
  | 0x4 => num l.capacity
  | 0x8 => s.wide64 (BitVec.ofNat 64 l.round)
  | 0xC => some .higher
  | 0x10 => num l.issuerGen
  | 0x14 => num l.flush.toNat
  | 0x20 => s.wide64 l.errAddr
  | 0x24 => some .higher
  | 0x28 => fields [(0, l.errCause), (4, l.errWrite.toNat), (30, l.errMore.toNat), (31, l.errValid.toNat)]
  | 0x2C => num l.poisonPage
  | 0x40 => s.ldrClear l.cFaultsDdr { l with cFaultsDdr := 0 }
  | 0x44 => s.ldrClear l.cFaultsFlash { l with cFaultsFlash := 0 }
  | 0x48 => s.ldrClear l.cEvictions { l with cEvictions := 0 }
  | 0x4C => s.ldrClear l.cRounds { l with cRounds := 0 }
  | 0x50 => s.ldrClear l.cIntegrity { l with cIntegrity := 0 }
  | 0x54 => s.ldrClear l.cRecovered { l with cRecovered := 0 }
  | 0x58 => s.ldrClear l.cDrops { l with cDrops := 0 }
  | 0x5C => s.ldrClear l.cOrphans { l with cOrphans := 0 }
  | 0x60 => s.ldrClear l.cRoundFails { l with cRoundFails := 0 }
  | _ => none

/-! ## QUE_ and SCH_ (R397, R398) -/

def State.queClear (s : State) (q : Nat) (w : Word) (x : Queue) : Option Reg := some (.clears w (s.setQueue q x))

def State.readQue (s : State) (q o : Nat) : Option Reg :=
  let x := s.queue q
  match o with
  | 0x0 => fields [(0, x.enable.toNat), (1, x.irqEn.toNat)]
  | 0x4 => fields [(0, x.state), (2, x.err), (4, s.queueClass q), (8, min 64 (s.inflight q)), (16, x.bq)]
  | 0x8 => num x.log2
  | 0x10 => s.wide64 x.sqBase
  | 0x18 => s.wide64 x.cqBase
  | 0x20 => s.wide64 x.winBase
  | 0x28 => s.wide64 x.winLimit
  | 0x14 => some .higher
  | 0x1C => some .higher
  | 0x24 => some .higher
  | 0x2C => some .higher
  | 0x30 => fields [(0, x.fetch), (16, x.tail)]
  | 0x34 => fields [(0, x.write), (16, x.head), (31, x.phase.toNat)]
  | 0x38 => fields [(0, x.irqCount), (16, x.irqTime)]
  | 0x3C => num x.evmask.toNat
  | 0x40 => num (min 65535 x.rttNs)
  | 0x44 => s.queClear q x.starved { x with starved := 0 }
  | 0x48 => s.queClear q x.completions { x with completions := 0 }
  | 0x4C => s.queClear q x.late { x with late := 0 }
  | _ => none

def State.schClear (s : State) (w : Word) (x : Scheduler) : Option Reg := some (.clears w { s with sch := x })

def State.readSch (s : State) (o : Nat) : Option Reg :=
  let x := s.sch
  match o with
  | 0x0 => fields [(0, s.hostUsed), (16, s.beatUsed)]
  | 0x4 => s.schClear (word [(0, x.hostPeak), (16, x.beatPeak)]) { x with hostPeak := s.hostUsed, beatPeak := s.beatUsed }
  | 0x10 => s.schClear x.released { x with released := 0 }
  | 0x14 => s.schClear x.beatsLate { x with beatsLate := 0 }
  | 0x18 => s.schClear x.misses { x with misses := 0 }
  | 0x1C => s.schClear x.authLate { x with authLate := 0 }
  | 0x20 => s.schClear x.otherLate { x with otherLate := 0 }
  | 0x24 => s.schClear x.ctxWaits { x with ctxWaits := 0 }
  | 0x28 => s.schClear x.selfFails { x with selfFails := 0 }
  | 0x2C => fields [(0, x.lastFail), (8, x.lastFailOk.toNat)]
  | _ => none

/-! ## SPC_ (R418–R421) -/

def State.spcClear (s : State) (w : Word) (x : Spec) : Option Reg := some (.clears w { s with spc := x })

def State.readSpc (s : State) (o : Nat) : Option Reg :=
  let x := s.spc
  match o with
  | 0x0 => num s.kept.lead
  | 0x4 => fields [(0, s.beatShadows), (16, s.ldr.specFrames.length), (24, s.prfShadows)]
  | 0x40 => s.spcClear x.started { x with started := 0 }
  | 0x44 => s.spcClear x.confirmed { x with confirmed := 0 }
  | 0x48 => s.spcClear x.squashed { x with squashed := 0 }
  | 0x4C => s.spcClear x.sqIdentity { x with sqIdentity := 0 }
  | 0x50 => s.spcClear x.sqEpoch { x with sqEpoch := 0 }
  | 0x54 => s.spcClear x.sqGen { x with sqGen := 0 }
  | 0x58 => s.spcClear x.sqUnit { x with sqUnit := 0 }
  | 0x5C => s.spcClear x.sqContext { x with sqContext := 0 }
  | 0x60 => s.spcClear x.sqEngine { x with sqEngine := 0 }
  | 0x64 => s.spcClear x.nonces { x with nonces := 0 }
  | 0x68 => s.spcClear x.recomputes { x with recomputes := 0 }
  | 0x6C => s.spcClear x.pagesFetched { x with pagesFetched := 0 }
  | 0x70 => s.spcClear x.pagesStale { x with pagesStale := 0 }
  | 0x74 => s.spcClear x.prfShadows { x with prfShadows := 0 }
  | 0x78 => s.spcClear x.prfConfirmed { x with prfConfirmed := 0 }
  | 0x7C => s.spcClear x.prfSquashed { x with prfSquashed := 0 }
  | 0x80 => s.spcClear x.preemptions { x with preemptions := 0 }
  | o =>
    if 0x10 ≤ o ∧ o < 0x30 then
      some (.plain (BitVec.ofNat 32 ((List.range 32).foldl (fun n j =>
        let c := 32 * ((o - 0x10) / 4) + j
        n + (c != 0 && s.sch.warm.contains c).toNat * 2 ^ j) 0)))
    else none

/-! ## GLZ_ (R445, R446) -/

def State.glzClear (s : State) (w : Word) (x : Glaze) : Option Reg := some (.clears w { s with glz := x })

def State.readGlz (s : State) (o : Nat) : Option Reg :=
  let x := s.glz
  match o with
  | 0x0 => fields [(0, x.state), (4, x.rate), (8, x.blind.toNat), (9, x.hushEnd.isSome.toNat), (16, x.ambient)]
  | 0x4 => some (.plain (match x.session with | none => 0 | some y => y.loaderId))
  | 0x8 => num x.close.toNat
  | 0x10 => s.glzClear x.framesOk { x with framesOk := 0 }
  | 0x14 => s.glzClear x.fcsErrors { x with fcsErrors := 0 }
  | 0x18 => s.glzClear x.discBlind { x with discBlind := 0 }
  | 0x1C => s.glzClear x.discPulses { x with discPulses := 0 }
  | 0x20 => s.glzClear x.abortAmp { x with abortAmp := 0 }
  | 0x24 => s.glzClear x.badPulses { x with badPulses := 0 }
  | 0x28 => s.glzClear x.authFails { x with authFails := 0 }
  | 0x2C => s.glzClear x.sessDrops { x with sessDrops := 0 }
  | 0x30 => s.glzClear x.tokens { x with tokens := 0 }
  | _ => none

/-! ## MSP_, HST_, the MSI-X table, STS_ (R454, R474, R475, R484) -/

def State.readMsp (s : State) (o : Nat) : Option Reg :=
  let x := s.msp
  match o with
  | 0x0 => fields [(0, x.frameErr.toNat), (1, x.checkErr.toNat), (2, x.headerErr.toNat), (3, x.reject.toNat),
      (8, x.mbox.isSome.toNat)]
  | 0x4 => num x.attn.toNat
  | 0x8 => num s.kept.attnEn.toNat
  | 0xC => some (.clears x.frames { s with msp := { x with frames := 0 } })
  | 0x10 => some (.clears x.errors { s with msp := { x with errors := 0 } })
  | 0x80 => num 0
  | 0x84 => num x.mboxStat
  | o =>
    if 0x100 ≤ o ∧ o < 0x200 then
      some (.plain (word ((List.range 4).map fun j => (8 * j, (tabGet 0 x.mboxData (o - 0x100 + j)).toNat))))
    else none

/-- HST_DDR_STAT.SIZE_GIB. -/
def State.sizeGib (s : State) : Nat :=
  if strapGib s.links.straps = 32 then Config.sizeGib32.toNat else strapGib s.links.straps

def State.readHst (s : State) (o : Nat) : Option Reg :=
  let x := s.links
  match o with
  | 0x0 => fields [(0, x.speed), (4, x.width), (8, x.linkUp.toNat), (9, x.reversed.toNat), (10, x.d3hot.toNat)]
  | 0x4 => fields [(0, x.straps.toNat), (8, x.trained.toNat), (9, s.sizeGib)]
  | 0x8 => some (.clears x.ddrCe { s with links := { x with ddrCe := 0 } })
  | 0xC => some (.clears x.ddrUe { s with links := { x with ddrUe := 0 } })
  | 0x10 => s.wide64 x.ddrErrAddr
  | 0x14 => some .higher
  | 0x18 =>
    if s.mod.begun.contains 4 then fields [(0, s.flash.bootLog2), (8, s.flash.recLog2), (16, s.flash.clock)] else num 0
  | _ => none

def State.readMsix (s : State) (o : Nat) : Option Reg :=
  if o < 0x4010 then
    some (.plain (word ((List.range 4).map fun j => (8 * j, (tabGet 0 s.links.msixTable (o + j)).toNat))))
  else if 0x8000 ≤ o ∧ o < 0x8088 then some (.plain ((s.links.pba >>> (8 * (o - 0x8000))).truncate 32))
  else none

def State.stsClear (s : State) (w : Word) (x : Stats) : Option Reg := some (.clears w { s with sts := x })

def State.readSts (s : State) (o : Nat) : Option Reg :=
  let x := s.sts
  match o with
  | 0x0 => s.stsClear x.rejects { x with rejects := 0 }
  | 0x4 => s.stsClear x.unmapped { x with unmapped := 0 }
  | 0x8 => s.stsClear x.widthErr { x with widthErr := 0 }
  | 0xC => s.stsClear x.dbDrops { x with dbDrops := 0 }
  | 0x10 => s.stsClear x.evDrops { x with evDrops := 0 }
  | 0x14 => s.stsClear x.quiesce { x with quiesce := 0 }
  | 0x18 => s.stsClear x.stalls { x with stalls := 0 }
  | 0x1C => s.stsClear x.grdFaults { x with grdFaults := 0 }
  | 0x20 => some (.lowest (lowWord x.ctxFull) [highWord x.ctxFull] { s with sts := { x with ctxFull := 0 } })
  | 0x24 => some .higher
  | 0x28 => s.stsClear x.devMsgs { x with devMsgs := 0 }
  | o =>
    if 0x100 ≤ o ∧ o ≤ 0x144 then
      let i := (o - 0x100) / 4
      s.stsClear (tabGet 0 x.status i) { x with status := tabSet 0 x.status i 0 }
    else none

/-! ## The map (R478, R517) -/

/-- The blocks of BAR0. -/
inductive RegBlock where
  | glb
  | mod
  | vgl
  | rcp
  | fab
  | grd
  | plt
  | ent
  | prf
  | cnt
  | spw
  | ldr
  | que
  | sch
  | spc
  | glz
  | msp
  | hst
  | msix
  | sts
deriving DecidableEq, Repr

/-- The block that a BAR0 offset lies in, with the offset inside it; none: no block. -/
def blockAt (off : Nat) : Option (RegBlock × Nat) :=
  if off < 0x10000 then some (.glb, off)
  else if off < 0x20000 then some (.mod, off - 0x10000)
  else if off < 0x40000 then some (.vgl, off - 0x20000)
  else if off < 0x48000 then some (.rcp, off - 0x40000)
  else if off < 0x80000 then some (.fab, off - 0x48000)
  else if off < 0x100000 then some (.grd, off - 0x80000)
  else if off < 0x120000 then some (.plt, off - 0x100000)
  else if off < 0x140000 then none
  else if off < 0x150000 then some (.ent, off - 0x140000)
  else if off < 0x160000 then some (.prf, off - 0x150000)
  else if off < 0x180000 then some (.cnt, off - 0x160000)
  else if off < 0x1A0000 then some (.spw, off - 0x180000)
  else if off < 0x200000 then some (.ldr, off - 0x1A0000)
  else if off < 0x240000 then some (.que, off - 0x200000)
  else if off < 0x280000 then none
  else if off < 0x2A0000 then some (.sch, off - 0x280000)
  else if off < 0x2C0000 then some (.spc, off - 0x2A0000)
  else if off < 0x2E0000 then some (.glz, off - 0x2C0000)
  else if off < 0x2E1000 then some (.msp, off - 0x2E0000)
  else if off < 0x2F0000 then some (.hst, off - 0x2E1000)
  else if off < 0x300000 then some (.msix, off - 0x2F0000)
  else if off < 0x400000 then some (.sts, off - 0x300000)
  else none

/-- Stage has loaded a block (R517). -/
def State.blockLoaded (s : State) : RegBlock → Bool
  | .glb => s.stepDone 1
  | .mod => true
  | .vgl => s.stepDone 1
  | .rcp => s.rcpLoaded
  | .fab => s.rcpLoaded
  | .grd => s.stepDone 6
  | .plt => s.stepDone 6
  | .ent => s.mod.begun.contains 9
  | .prf => s.stepDone 9
  | .cnt => s.mod.begun.contains 8
  | .spw => s.stepDone 6
  | .ldr => s.mod.begun.contains 10
  | .que => s.stepDone 6
  | .sch => s.stepDone 6
  | .spc => s.stepDone 6
  | .glz => s.stepDone 6
  | .msp => s.stepDone 1
  | .hst => s.stepDone 1
  | .msix => s.stepDone 1
  | .sts => s.stepDone 1

/-- The register at an offset of a block; none: a hole. -/
def State.blockReg (s : State) (r : Requester) (b : RegBlock) (o : Nat) : Option Reg :=
  match b with
  | .glb => s.readGlb o
  | .mod => s.readMod r o
  | .vgl => s.readVgl o
  | .rcp => s.readRcp o
  | .fab => s.readFab o
  | .grd => s.readGrd o
  | .plt => s.readPlt (o / 1024) (o % 1024)
  | .ent => s.readEnt o
  | .prf => s.readPrf o
  | .cnt => s.readCnt o
  | .spw => s.readSpw o
  | .ldr => s.readLdr o
  | .que => s.readQue (o / 256) (o % 256)
  | .sch => s.readSch o
  | .spc => s.readSpc o
  | .glz => s.readGlz o
  | .msp => s.readMsp o
  | .hst => s.readHst o
  | .msix => s.readMsix o
  | .sts => s.readSts o

/-- The register at an offset of BAR0. -/
def State.reg (s : State) (r : Requester) (off : Nat) : Option Reg :=
  if off % 4 ≠ 0 then none
  else match blockAt off with
    | none => none
    | some (b, o) => s.blockReg r b o

end Sys2Proof.Machine
end

