-- ==== Sys2Proof/Machine/Regs.lean ====
section
/-! DEFINITION. Accesses to BAR0: reads with their side effects and the hold latches (R14, R19, R480, R485), writes with
what is discarded (R17, R41, R470), holes and refused widths (R481, R482), and the frames of the maintenance SPI target
(R466–R471). -/

namespace Sys2Proof.Machine

/-! ## Hold latches (R19) -/

/-- What a requester's hold latch gives for a higher word: 0 before the lowest word has been read. -/
def State.held (s : State) (r : Requester) (off : Nat) : Word :=
  match r with
  | .pcie => tabGet 0 s.holdPcie off
  | .msp => tabGet 0 s.holdMsp off

def State.latch (s : State) (r : Requester) (off : Nat) (w : Word) : State :=
  match r with
  | .pcie => { s with holdPcie := tabSet 0 s.holdPcie off w }
  | .msp => { s with holdMsp := tabSet 0 s.holdMsp off w }

/-- The words above a lowest word go to the latch, at their own offsets. -/
def State.latchAll (s : State) (r : Requester) (off : Nat) : List Word → State
  | [] => s
  | w :: ws => (s.latch r off w).latchAll r (off + 4) ws

/-! ## Holes and widths (R481, R482) -/

def State.countHole (s : State) : State := { s with sts := { s.sts with unmapped := satInc s.sts.unmapped } }

/-- A BAR0 request of a wrong size or alignment is refused whole. -/
def State.badWidth (s : State) (off : Nat) (write : Bool) : State :=
  let s := ({ s with sts := { s.sts with widthErr := satInc s.sts.widthErr } }).emit (.aer aerAbort off)
  if write then s else s.emit .completerAbort

/-- A register's block is loaded. -/
def State.offLoaded (s : State) (off : Nat) : Bool :=
  match blockAt off with
  | none => false
  | some (b, _) => s.blockLoaded b

/-! ## Reads -/

/-- One word read by a requester, with its side effects. -/
def State.readWord (s : State) (r : Requester) (off : Nat) : Word × State :=
  match s.reg r off with
  | none => (0, s.countHole)
  | some g =>
    if !s.offLoaded off then (0, s)
    else match g with
      | .plain w => (w, s)
      | .clears w t => (w, t)
      | .lowest w ws t => (w, t.latchAll r (off + 4) ws)
      | .higher => (s.held r off, s)

/-- A BAR0 read: one word, or both words of an aligned pair in one cycle, the lower address first. -/
def State.busRead (s : State) (r : Requester) (off : Nat) (wide : Bool) : State :=
  if off % 4 ≠ 0 ∨ (wide = true ∧ off % 8 ≠ 0) then s.badWidth off false
  else
    let a := s.readWord r off
    if wide then
      let b := a.2.readWord r (off + 4)
      b.2.emit (.readData r [a.1, b.1])
    else a.2.emit (.readData r [a.1])

/-! ## Writes: what each register takes

Each function answers the state after the write, or none where R17 discards it. -/

/-- A write that has no effect and is no error: of RO, RC and reserved bits (R14, R16). -/
def State.ignored (s : State) : Option State := some s

/-- A write that acts when a condition holds and is discarded otherwise. -/
def State.takeIf (s : State) (c : Bool) (f : State → State) : Option State := if c then some (f s) else none

/-- GLB_IRQ_EN (R486, R487): setting the EN bit of a condition that stands sends a message. -/
def State.writeIrqEn (s : State) (w : Word) : State :=
  let en : BitVec 13 := w.truncate 13
  let fresh := en &&& ~~~ s.kept.irqEn &&& s.irqStat
  let changed : Bool := en != s.kept.irqEn
  let s := { s with kept := { s.kept with irqEn := en } }
  let s := if changed then s.keptChanged else s
  if fresh = 0 then s else s.signal 1024

def State.writeGlb (s : State) (o : Nat) (w : Word) : Option State :=
  match o with
  | 0x10 => some { s with irqStat := s.irqStat &&& ~~~ (w.truncate 13 : BitVec 13) }
  | 0x14 => some (s.writeIrqEn w)
  | _ => s.ignored

/-- Whether MOD_CTRL takes the bits written (R43, R56, R470). -/
def State.modCtrlOk (s : State) (r : Requester) (w : Word) : Bool :=
  (!bit w 1 || s.restartOk r) && (!(bit w 2 || bit w 3) || s.mode == .service)
    && (r == .pcie || s.mode != .quarantine || bit w 1)

/-- MOD_CTRL: of the requests one write makes, the first in R49's order acts, and those that lose count as discarded. -/
def State.modCtrl (s : State) (r : Requester) (w : Word) : State :=
  if bit w 3 then
    let s := if bit w 0 || bit w 1 || bit w 2 then s.reject r else s
    s.writeQuarantine (r == .pcie) (r == .msp)
  else if bit w 1 then
    let s := if bit w 0 || bit w 2 then s.reject r else s
    s.restartWith false (r == .pcie) (r == .msp)
  else
    let s := if bit w 2 then s.writeSnap r else s
    if bit w 0 then s.writeGo r false else s

def State.writeMod (s : State) (r : Requester) (o : Nat) (w : Word) : Option State :=
  if o = 0x4 then s.takeIf (s.modCtrlOk r w) fun s => s.modCtrl r w else s.ignored

/-- RCP_CMD takes a command of a requester (R131, R134, R470). -/
def State.rcpTakes (s : State) (r : Requester) (w : Word) : Bool :=
  let op := fld w 3 0
  decide (1 ≤ op) && decide (op ≤ 6) && (op != 2 || (decide (1 ≤ fld w 28 16) && decide (fld w 28 16 ≤ 4096)))
    && s.rcp.busy.isNone && s.rcpOwner r && !(r == .msp && s.mode == .quarantine)

/-- The command that RCP_CMD holds. -/
def State.rcpRun (s : State) (r : Requester) (w : Word) : State :=
  let slot := (bit w 4).toNat
  match fld w 3 0 with
  | 1 => s.rcpOpen r slot
  | 2 => s.rcpAppend (fld w 28 16)
  | 3 => s.rcpClose
  | 4 => s.rcpVerify slot
  | 5 => s.rcpActivate
  | _ => s.rcpCommitFloor

/-- A word goes into a byte table at an offset. -/
def putWord (t : Tab Byte) (o : Nat) (w : Word) : Tab Byte :=
  (List.range 4).foldl (fun t j => tabSet 0 t (o + j) (BitVec.ofNat 8 (w.toNat / 2 ^ (8 * j)))) t

/-- RCP_UNIT_CTRL takes a command (R146). -/
def State.unitTakes (s : State) (w : Word) : Bool :=
  let u := fld w 7 0
  let op := fld w 10 8
  decide (u < 180) && s.mode == .service && !s.rcp.actBit
    && ((op == 1 && s.unitIs u .active) || (op == 2 && s.unitIs u .active && !s.lastOfKind u)
      || (op == 3 && s.unitIs u .off))

def State.unitRun (s : State) (w : Word) : State :=
  let u := fld w 7 0
  match fld w 10 8 with
  | 1 => s.drainUnit u .restart
  | 2 => s.drainUnit u .off
  | _ => s.rejoinUnit u true

def State.writeRcp (s : State) (r : Requester) (o : Nat) (w : Word) : Option State :=
  if o = 0xC then s.takeIf (s.rcpTakes r w) fun s => s.rcpRun r w
  else if o = 0x10 then s.takeIf (s.unitTakes w) fun s => s.unitRun w
  else if 0x1000 ≤ o ∧ o < 0x2000 then
    s.takeIf (s.rcpOwner r && !(r == .msp && s.mode == .quarantine)) fun s =>
      { s with rcp := { s.rcp with win := putWord s.rcp.win (o - 0x1000) w } }
  else s.ignored

def State.writeFab (s : State) (o : Nat) (w : Word) : Option State :=
  match o with
  | 0xC => s.takeIf (inNamespace (fld w 15 0)) fun s => { s with fab := { s.fab with peekSel := fld w 15 0 } }
  | 0x14 => some { s with fab := { s.fab with cellSel := fld w 9 0 } }
  | _ => s.ignored

def State.writeGrd (s : State) (r : Requester) (o : Nat) (w : Word) : Option State :=
  if 0x100 ≤ o ∧ o < 0x120 then
    s.takeIf (s.mode == .service) fun s =>
      match r with
      | .pcie => s.writePermit ((o - 0x100) / 4) (some w) none
      | .msp => s.writePermit ((o - 0x100) / 4) none (some w)
  else if 0x200 ≤ o ∧ o < 0x220 then some (s.clearFaults ((o - 0x200) / 4) w)
  else s.ignored

/-- PLT_CTRL takes a write (R205). -/
def State.portTakes (s : State) (p : Nat) (w : Word) : Bool :=
  let x := s.port p
  s.mode == .service && (bit w 0 || bit w 1)
    && (!bit w 0 || x.state == .running || x.state == .fault) && (!bit w 1 || x.state == .running)

def State.writePlt (s : State) (r : Requester) (p o : Nat) (w : Word) : Option State :=
  match o with
  | 0x10 =>
    let x := s.port p
    some (s.setPort p { x with event := x.event &&& ~~~ (w.truncate 8 : BitVec 8) })
  | 0x14 => s.takeIf (s.portTakes p w) fun s =>
      let s := if bit w 0 then s.reenum r p else s
      if bit w 1 then s.probeNow r p else s
  | _ => s.ignored

def State.writeEnt (s : State) (r : Requester) (o : Nat) (w : Word) : Option State :=
  if o = 0x4 then
    s.takeIf ((!bit w 0 || s.retestOk .a) && (!bit w 1 || s.retestOk .b) && !(r == .msp && s.mode == .quarantine))
      fun s =>
        let s := if bit w 0 then s.beginRetest .a else s
        if bit w 1 then s.beginRetest .b else s
  else s.ignored

def State.writePrf (s : State) (o : Nat) (w : Word) : Option State :=
  if o = 0x100 then some { s with rngEmpty := s.rngEmpty && !bit w 1 } else s.ignored

def State.writeCnt (s : State) (o : Nat) (w : Word) : Option State :=
  if o = 0x20 then
    s.takeIf (decide (fld w 18 0 < globalBase + 1024)) fun s => { s with cnt := { s.cnt with sel := fld w 18 0 } }
  else s.ignored

def State.writeSpw (s : State) (o : Nat) (w : Word) : Option State :=
  if 0x100 ≤ o ∧ o < 0x300 ∧ (o - 0x100) % 0x40 = 0x8 then
    let c := (o - 0x100) / 0x40
    let x := s.spwChan c
    some (s.setSpw c { x with seen := x.seen &&& ~~~ (w.truncate 9 : BitVec 9) })
  else s.ignored

def State.writeLdr (s : State) (r : Requester) (o : Nat) (w : Word) : Option State :=
  match o with
  | 0x14 => s.takeIf (r == .pcie || s.mode == .service) fun s => if bit w 0 then s.requestFlush r else s
  | 0x28 => some (if bit w 31 then { s with ldr := { s.ldr with errValid := false, errMore := false } } else s)
  | _ => s.ignored

/-- QUE_CTRL (R359, R361, R366): a write of 1 to ENABLE needs a DISABLED queue and the rest of R359. -/
def State.queCtrl (s : State) (q : Nat) (w : Word) : Option State :=
  if bit w 0 then
    s.takeIf (s.mayEnable q) fun s => s.setQueue q { (s.queue q).started with irqEn := bit w 1 }
  else
    some (((s.setQueue q { s.queue q with irqEn := bit w 1 }).queueVector q).queueDisable q)

/-- A ring base or window register of a DISABLED queue. -/
def State.queSet (s : State) (q : Nat) (f : Queue → Queue) : Option State :=
  s.takeIf ((s.queue q).state == 0) fun s => s.setQueue q (f (s.queue q))

/-- Replaces the low or the high word of an address. -/
def withLow (a : BitVec 64) (w : Word) : BitVec 64 := highWord a ++ w

def withHigh (a : BitVec 64) (w : Word) : BitVec 64 := w ++ lowWord a

def State.writeQue (s : State) (q o : Nat) (w : Word) : Option State :=
  match o with
  | 0x0 => s.queCtrl q w
  | 0x8 => if 1 ≤ fld w 3 0 ∧ fld w 3 0 ≤ 12 then s.queSet q fun x => { x with log2 := fld w 3 0 } else none
  | 0x10 => s.queSet q fun x => { x with sqBase := withLow x.sqBase w }
  | 0x14 => s.queSet q fun x => { x with sqBase := withHigh x.sqBase w }
  | 0x18 => s.queSet q fun x => { x with cqBase := withLow x.cqBase w }
  | 0x1C => s.queSet q fun x => { x with cqBase := withHigh x.cqBase w }
  | 0x20 => s.queSet q fun x => { x with winBase := withLow x.winBase w }
  | 0x24 => s.queSet q fun x => { x with winBase := withHigh x.winBase w }
  | 0x28 => s.queSet q fun x => { x with winLimit := withLow x.winLimit w }
  | 0x2C => s.queSet q fun x => { x with winLimit := withHigh x.winLimit w }
  | 0x38 =>
    s.takeIf (decide (1 ≤ fld w 6 0) && decide (fld w 6 0 ≤ 64)) fun s =>
      (s.setQueue q { s.queue q with irqCount := fld w 6 0, irqTime := fld w 25 16 }).queueVector q
  | 0x3C => some (s.setQueue q { s.queue q with evmask := w.truncate 8 })
  | _ => s.ignored

def State.writeSch (s : State) (o : Nat) (w : Word) : Option State :=
  if o = 0x2C then some { s with sch := { s.sch with lastFailOk := s.sch.lastFailOk && !bit w 8 } } else s.ignored

/-- SPC_CTRL.LEAD (R418), a kept field. -/
def State.writeSpc (s : State) (o : Nat) (w : Word) : Option State :=
  if o = 0x0 then
    s.takeIf (decide (fld w 4 0 ≤ 16)) fun s =>
      let changed : Bool := fld w 4 0 != s.kept.lead
      let s := { s with kept := { s.kept with lead := fld w 4 0 } }
      if changed then s.keptChanged else s
  else s.ignored

def State.writeGlz (s : State) (r : Requester) (o : Nat) (w : Word) : Option State :=
  if o = 0x8 then some (if bit w 0 then s.glzCtrlClose r else s) else s.ignored

/-- MSP_ATTN_EN (R474), a kept field. -/
def State.writeAttnEn (s : State) (w : Word) : State :=
  let en : BitVec 4 := w.truncate 4
  let changed : Bool := en != s.kept.attnEn
  let s := { s with kept := { s.kept with attnEn := en } }
  if changed then s.keptChanged else s

def State.writeMsp (s : State) (r : Requester) (o : Nat) (w : Word) : Option State :=
  match o with
  | 0x0 => some { s with msp := { s.msp with
      frameErr := s.msp.frameErr && !bit w 0, checkErr := s.msp.checkErr && !bit w 1
      headerErr := s.msp.headerErr && !bit w 2, reject := s.msp.reject && !bit w 3 } }
  | 0x4 => some { s with msp := { s.msp with attn := s.msp.attn &&& ~~~ (w.truncate 4 : BitVec 4) } }
  | 0x8 => some (s.writeAttnEn w)
  | 0x80 =>
    s.takeIf (r == .msp && s.msp.mbox.isNone && decide (1 ≤ fld w 3 0) && decide (fld w 3 0 ≤ 2)) fun s =>
      { s with msp := { s.msp with mbox := some (fld w 3 0) } }
  | o =>
    if 0x100 ≤ o ∧ o < 0x200 then
      s.takeIf (r == .msp && s.msp.mbox.isNone) fun s =>
        { s with msp := { s.msp with mboxData := putWord s.msp.mboxData (o - 0x100) w } }
    else s.ignored

/-- The MSI-X table: a vector whose mask bit is cleared sends its pending message (R454). The pending bit array is not
written. -/
def State.writeMsix (s : State) (o : Nat) (w : Word) : Option State :=
  if o < 0x4010 then
    some (({ s with links := { s.links with msixTable := putWord s.links.msixTable o w } }).release (o / 16))
  else s.ignored

/-! ## Writes -/

/-- The registers that the maintenance controller may write in some mode (R470). -/
def mspWrites (b : RegBlock) (o : Nat) : Bool :=
  match b with
  | .msp => o < 0xC || o == 0x80 || (decide (0x100 ≤ o) && decide (o < 0x200))
  | .mod => o == 0x4
  | .rcp => o == 0xC || o == 0x10 || (decide (0x1000 ≤ o) && decide (o < 0x2000))
  | .ent => o == 0x4
  | .grd => decide (0x100 ≤ o) && decide (o < 0x120)
  | .plt => o % 1024 == 0x14
  | .ldr => o == 0x14
  | _ => false

/-- A write of one register of a block. -/
def State.blockWrite (s : State) (r : Requester) (b : RegBlock) (o : Nat) (w : Word) : Option State :=
  match b with
  | .glb => s.writeGlb o w
  | .mod => s.writeMod r o w
  | .vgl => s.ignored
  | .rcp => s.writeRcp r o w
  | .fab => s.writeFab o w
  | .grd => s.writeGrd r o w
  | .plt => s.writePlt r (o / 1024) (o % 1024) w
  | .ent => s.writeEnt r o w
  | .prf => s.writePrf o w
  | .cnt => s.writeCnt o w
  | .spw => s.writeSpw o w
  | .ldr => s.writeLdr r o w
  | .que => s.writeQue (o / 256) (o % 256) w
  | .sch => s.writeSch o w
  | .spc => s.writeSpc o w
  | .glz => s.writeGlz r o w
  | .msp => s.writeMsp r o w
  | .hst => s.ignored
  | .msix => s.writeMsix o w
  | .sts => s.ignored

/-- What becomes of a write. -/
inductive Written where
  | done (s : State)
  | discarded
  | hole
deriving DecidableEq, Repr

/-- A write of one register, judged by R17, R41 and R470. -/
def State.judgeWrite (s : State) (r : Requester) (off : Nat) (w : Word) : Written :=
  if (s.reg r off).isNone then .hole
  else match blockAt off with
    | none => .hole
    | some (b, o) =>
      if !s.blockLoaded b || (r == .msp && !mspWrites b o) then .discarded
      else match s.blockWrite r b o w with
        | none => .discarded
        | some t => .done t

/-- A write of one word. -/
def State.writeWord (s : State) (r : Requester) (off : Nat) (w : Word) : State :=
  match s.judgeWrite r off w with
  | .done t => t
  | .discarded => s.reject r
  | .hole => s.countHole

/-- A word of an 8-byte write that falls in a hole counts (R480). -/
def State.holeOf (s : State) : Written → State
  | .done _ => s
  | .discarded => s
  | .hole => s.countHole

/-- A BAR0 write: of one register, or of both words of an aligned pair, or of neither (R480). -/
def State.busWrite (s : State) (r : Requester) (off : Nat) (lo : Word) (hi : Option Word) : State :=
  if off % 4 ≠ 0 ∨ (hi.isSome = true ∧ off % 8 ≠ 0) then s.badWidth off true
  else match hi with
    | none => s.writeWord r off lo
    | some h =>
      match s.judgeWrite r off lo, s.judgeWrite r (off + 4) h with
      | .done t, .done _ => t.writeWord r (off + 4) h
      | a, b => (((s.holeOf a).holeOf b).reject r)

/-! ## Maintenance SPI frames (R466–R471) -/

/-- The octets of a frame's words, each most significant octet first. -/
def frameOctets (ws : List Word) : Bytes := ws.flatMap fun w => beBytes 4 w.toNat

/-- OP and COUNT of a header. -/
def mspOp (h : Word) : Nat := fld h 31 24
def mspCount (h : Word) : Nat := fld h 23 16

/-- OP, COUNT and the reserved bits are valid. -/
def mspHeaderOk (h : Word) : Bool :=
  (mspOp h == 1 || mspOp h == 2) && decide (1 ≤ mspCount h) && decide (mspCount h ≤ 64) && fld h 15 0 == 0

/-- The number of MOSI words before CHECK. -/
def mspBody (h : Word) : Nat := if mspOp h = 2 then 2 + mspCount h else 2

/-- The declared length in rising edges (R467). -/
def mspLength (h : Word) : Nat := 32 * (mspCount h + (if mspOp h = 1 then 5 else 3))

/-- The CHECK word is there and right. -/
def checkOk (ws : List Word) (n : Nat) : Bool := ws[n]? == some (crc32c (frameOctets (ws.take n)))

/-- An error of a frame: its MSP_STAT bit, and MSP_ERRORS. -/
def State.mspError (s : State) (frame check header : Bool) : State :=
  { s with msp := { s.msp with
      frameErr := s.msp.frameErr || frame, checkErr := s.msp.checkErr || check, headerErr := s.msp.headerErr || header
      errors := satInc s.msp.errors } }

/-- A frame that took effect. -/
def State.mspTook (s : State) : State := { s with msp := { s.msp with frames := satInc s.msp.frames } }

/-- The words of a READ, in ascending order of address. -/
def State.mspReadWords (s : State) (off : Nat) : Nat → List Word × State
  | 0 => ([], s)
  | n + 1 =>
    let a := s.readWord .msp off
    let b := a.2.mspReadWords (off + 4) n
    (a.1 :: b.1, b.2)

/-- The words of a WRITE, each judged on its own; a start that one of them causes ends the frame's effect. -/
def State.mspWriteWords (s : State) (off : Nat) : List Word → State
  | [] => s
  | w :: ws =>
    let t := s.writeWord .msp off w
    if t.hears .msp && t.running then t.mspWriteWords (off + 4) ws else t

/-- A READ, performed at the end of CHECK. -/
def State.mspPerform (s : State) (h : Word) (off edges : Nat) : State :=
  let a := s.mspReadWords off (mspCount h)
  let s := (a.2.mspTook).emit (.miso (a.1 ++ [crc32c (frameOctets a.1)]))
  if edges = mspLength h then s else s.mspError true false false

/-- A frame: the MOSI words that came in whole, and the rising edges of SCLK. -/
def State.mspFrame (s : State) (mosi : List Word) (edges : Nat) : State :=
  match mosi with
  | [] => s.mspError true false false
  | h :: _ =>
    let n := mspBody h
    let off := (mosi.getD 1 0).toNat
    if !mspHeaderOk h then s.mspError false false true
    else if decide (n < mosi.length) && !checkOk mosi n then s.mspError false true false
    else if mosi.length ≤ n then s.mspError true false false
    else if mspOp h = 1 then s.mspPerform h off edges
    else if edges ≠ mspLength h then s.mspError true false false
    else (s.mspTook).mspWriteWords off ((mosi.take n).drop 2)

/-- The maintenance SPI target is available (R465). -/
def State.mspListens (s : State) : Bool := s.running && s.hears .msp

/-! ## The commands -/

/-- REGISTER_WRITE (R17). -/
def execRegisterWrite (r : Requester) (off : Nat) (lo : Word) (hi : Option Word) (s : State) :
    Host.Outcome State Fault Refusal :=
  reacting s fun s => if s.hears r then s.busWrite r off lo hi else s

/-- RC_FIELD_READ (R14). -/
def execRcFieldRead (r : Requester) (off : Nat) (wide : Bool) (s : State) : Host.Outcome State Fault Refusal :=
  onClock s fun s => if s.hears r then s.busRead r off wide else s

/-- WIDE_VALUE_LOW_READ (R19). -/
def execWideValueLowRead (r : Requester) (off : Nat) (wide : Bool) (s : State) : Host.Outcome State Fault Refusal :=
  onClock s fun s => if s.hears r then s.busRead r off wide else s

/-- MOD_QUAR_CAUSE_READ (R45). -/
def execModQuarCauseRead (r : Requester) (s : State) : Host.Outcome State Fault Refusal :=
  onClock s fun s => if s.hears r then s.busRead r 0x1000C false else s

/-- FAB_CELL_OUT0_READ (R173). -/
def execFabCellOut0Read (r : Requester) (s : State) : Host.Outcome State Fault Refusal :=
  onClock s fun s => if s.hears r then s.busRead r 0x48100 false else s

/-- CNT_COUNT_LO_READ (R311). -/
def execCntCountLoRead (r : Requester) (s : State) : Host.Outcome State Fault Refusal :=
  onClock s fun s => if s.hears r then s.busRead r 0x160024 false else s

/-- ENT_EST_SEQ_READ (R264). -/
def execEntEstSeqRead (r : Requester) (ch : Channel) (s : State) : Host.Outcome State Fault Refusal :=
  onClock s fun s => if s.hears r then s.busRead r (if ch = .a then 0x140040 else 0x140060) false else s

/-- STS_CTX_FULL_READ (R485). -/
def execStsCtxFullRead (r : Requester) (s : State) : Host.Outcome State Fault Refusal :=
  onClock s fun s => if s.hears r then s.busRead r 0x300020 false else s

/-- RNG_DATA_READ (R280). -/
def execRngDataRead (r : Requester) (s : State) : Host.Outcome State Fault Refusal :=
  onClock s fun s => if s.hears r then s.busRead r 0x150104 false else s

/-- HOLE_ACCESS (R481). -/
def execHoleAccess (r : Requester) (off : Nat) (write : Bool) (s : State) : Host.Outcome State Fault Refusal :=
  onClock s fun s =>
    if !s.hears r || (s.reg r off).isSome then s
    else if write then s.countHole
    else s.countHole.emit (.readData r [0])

/-- BAR0_BAD_WIDTH (R482). -/
def execBar0BadWidth (off : Nat) (write : Bool) (s : State) : Host.Outcome State Fault Refusal :=
  onClock s fun s => s.badWidth off write

/-- GLB_IRQ_EN_WRITE (R487). -/
def execGlbIrqEnWrite (r : Requester) (v : Word) (s : State) : Host.Outcome State Fault Refusal :=
  onClock s fun s => if s.hears r then s.busWrite r 0x14 v none else s

/-- MSP_READ (R469). -/
def execMspRead (mosi : List Word) (edges : Nat) (s : State) : Host.Outcome State Fault Refusal :=
  reacting s fun s => if s.mspListens then s.mspFrame mosi edges else s

/-- MSP_WRITE (R468). -/
def execMspWrite (mosi : List Word) (edges : Nat) (s : State) : Host.Outcome State Fault Refusal :=
  reacting s fun s => if s.mspListens then s.mspFrame mosi edges else s

end Sys2Proof.Machine
end

