-- ==== Sys2Proof/Machine/Dispatch.lean ====
section
/-! DEFINITION. The dispatch of every command to its meaning: one arm per row of spec/opcode_table.json. -/

namespace Sys2Proof.Machine

def exec (i : Instr) (s : State) : Host.Outcome State Fault Refusal :=
  match i with
  | .registerWrite r off lo hi => Sys2Proof.Machine.execRegisterWrite r off lo hi s
  | .rcFieldRead r off wide => Sys2Proof.Machine.execRcFieldRead r off wide s
  | .wideValueLowRead r off wide => Sys2Proof.Machine.execWideValueLowRead r off wide s
  | .modQuarCauseRead r => Sys2Proof.Machine.execModQuarCauseRead r s
  | .fabCellOut0Read r => Sys2Proof.Machine.execFabCellOut0Read r s
  | .cntCountLoRead r => Sys2Proof.Machine.execCntCountLoRead r s
  | .entEstSeqRead r ch => Sys2Proof.Machine.execEntEstSeqRead r ch s
  | .stsCtxFullRead r => Sys2Proof.Machine.execStsCtxFullRead r s
  | .rngDataRead r => Sys2Proof.Machine.execRngDataRead r s
  | .holeAccess r off write => Sys2Proof.Machine.execHoleAccess r off write s
  | .bar0BadWidth off write => Sys2Proof.Machine.execBar0BadWidth off write s
  | .glbIrqEnWrite r v => Sys2Proof.Machine.execGlbIrqEnWrite r v s
  | .vigilWindowReached src => Sys2Proof.Machine.execVigilWindowReached src s
  | .vigilSupplySwitch dst => Sys2Proof.Machine.execVigilSupplySwitch dst s
  | .totalPowerLoss => Sys2Proof.Machine.execTotalPowerLoss s
  | .coldStart => Sys2Proof.Machine.execColdStart s
  | .stageStep1 straps pllLocks => Sys2Proof.Machine.execStageStep1 straps pllLocks s
  | .stageStep2 => Sys2Proof.Machine.execStageStep2 s
  | .stageStep3 eccFail shaFail aesFail => Sys2Proof.Machine.execStageStep3 eccFail shaFail aesFail s
  | .stageStep4 boot record slotA slotB => Sys2Proof.Machine.execStageStep4 boot record slotA slotB s
  | .stageStep5 converges => Sys2Proof.Machine.execStageStep5 converges s
  | .stageStep6 => Sys2Proof.Machine.execStageStep6 s
  | .stageStep7 => Sys2Proof.Machine.execStageStep7 s
  | .stageStep8 => Sys2Proof.Machine.execStageStep8 s
  | .stageStep9 eccFail shaFail aesFail prfFail katFail => Sys2Proof.Machine.execStageStep9 eccFail shaFail aesFail prfFail katFail s
  | .stageStep10 readOk treeOk => Sys2Proof.Machine.execStageStep10 readOk treeOk s
  | .enterService => Sys2Proof.Machine.execEnterService s
  | .modGo r => Sys2Proof.Machine.execModGo r s
  | .modRestart pcie msp => Sys2Proof.Machine.execModRestart pcie msp s
  | .modSnap r => Sys2Proof.Machine.execModSnap r s
  | .modQuarantine pcie msp => Sys2Proof.Machine.execModQuarantine pcie msp s
  | .perstAssert pcieRestart mspRestart => Sys2Proof.Machine.execPerstAssert pcieRestart mspRestart s
  | .perstRelease => Sys2Proof.Machine.execPerstRelease s
  | .warmPreludeDone => Sys2Proof.Machine.execWarmPreludeDone s
  | .snapshotIdleTimer => Sys2Proof.Machine.execSnapshotIdleTimer s
  | .snapshotWriteDone ok => Sys2Proof.Machine.execSnapshotWriteDone ok s
  | .mainSupplyLoss => Sys2Proof.Machine.execMainSupplyLoss s
  | .coreVoltageExcursion widthNs => Sys2Proof.Machine.execCoreVoltageExcursion widthNs s
  | .coreclkLoss => Sys2Proof.Machine.execCoreclkLoss s
  | .refclkLoss => Sys2Proof.Machine.execRefclkLoss s
  | .vbatLowDetect => Sys2Proof.Machine.execVbatLowDetect s
  | .tamperLatch aWrong bWrong durNs => Sys2Proof.Machine.execTamperLatch aWrong bWrong durNs s
  | .zeroizeDone => Sys2Proof.Machine.execZeroizeDone s
  | .identify q buf => Sys2Proof.Machine.execIdentify q buf s
  | .mboxIdentify => Sys2Proof.Machine.execMboxIdentify s
  | .lifecycleOwn src sigOk => Sys2Proof.Machine.execLifecycleOwn src sigOk s
  | .lifecycleAddKey src sigOk => Sys2Proof.Machine.execLifecycleAddKey src sigOk s
  | .lifecycleRevokeKey src sigOk => Sys2Proof.Machine.execLifecycleRevokeKey src sigOk s
  | .lifecycleDeploy src sigOk => Sys2Proof.Machine.execLifecycleDeploy src sigOk s
  | .lifecycleRetire src sigOk => Sys2Proof.Machine.execLifecycleRetire src sigOk s
  | .rcpOpen r slotB => Sys2Proof.Machine.execRcpOpen r slotB s
  | .rcpAppend r len => Sys2Proof.Machine.execRcpAppend r len s
  | .rcpClose r => Sys2Proof.Machine.execRcpClose r s
  | .rcpVerify r slotB => Sys2Proof.Machine.execRcpVerify r slotB s
  | .rcpActivate r => Sys2Proof.Machine.execRcpActivate r s
  | .rcpCommitFloor r => Sys2Proof.Machine.execRcpCommitFloor r s
  | .rcpFlashDone ok => Sys2Proof.Machine.execRcpFlashDone ok s
  | .rcpVerifyDone v => Sys2Proof.Machine.execRcpVerifyDone v s
  | .unitRestart r u => Sys2Proof.Machine.execUnitRestart r u s
  | .unitOff r u => Sys2Proof.Machine.execUnitOff r u s
  | .unitOn r u => Sys2Proof.Machine.execUnitOn r u s
  | .drainLimitExpire u => Sys2Proof.Machine.execDrainLimitExpire u s
  | .unitQuiesced u heldReplies => Sys2Proof.Machine.execUnitQuiesced u heldReplies s
  | .unitRejoin u testPass => Sys2Proof.Machine.execUnitRejoin u testPass s
  | .fabricTick => Sys2Proof.Machine.execFabricTick s
  | .fabricStall => Sys2Proof.Machine.execFabricStall s
  | .guardCarrierStart g => Sys2Proof.Machine.execGuardCarrierStart g s
  | .guardReadbackFault g => Sys2Proof.Machine.execGuardReadbackFault g s
  | .grdFaultClear m v => Sys2Proof.Machine.execGrdFaultClear m v s
  | .grdPermitWrite m pcie msp => Sys2Proof.Machine.execGrdPermitWrite m pcie msp s
  | .plaitReset p => Sys2Proof.Machine.execPlaitReset p s
  | .presenceWindowClose p pulse lineLow => Sys2Proof.Machine.execPresenceWindowClose p pulse lineLow s
  | .extensionWindowPresence p pulse => Sys2Proof.Machine.execExtensionWindowPresence p pulse s
  | .extensionWindowExpire p => Sys2Proof.Machine.execExtensionWindowExpire p s
  | .plaitProbe p => Sys2Proof.Machine.execPlaitProbe p s
  | .pltReenum r p => Sys2Proof.Machine.execPltReenum r p s
  | .pltProbe r p => Sys2Proof.Machine.execPltProbe r p s
  | .unsolicitedPresence p widthUs => Sys2Proof.Machine.execUnsolicitedPresence p widthUs s
  | .answerTimeout l => Sys2Proof.Machine.execAnswerTimeout l s
  | .spuPlaceGrant p => Sys2Proof.Machine.execSpuPlaceGrant p s
  | .spuHoldEnd p => Sys2Proof.Machine.execSpuHoldEnd p s
  | .spuShort p => Sys2Proof.Machine.execSpuShort p s
  | .lineLow l => Sys2Proof.Machine.execLineLow l s
  | .lineHigh p => Sys2Proof.Machine.execLineHigh p s
  | .faultRecoveryCheck p => Sys2Proof.Machine.execFaultRecoveryCheck p s
  | .faultReleaseWindowEnd p stayedHigh => Sys2Proof.Machine.execFaultReleaseWindowEnd p stayedHigh s
  | .plaitAssign p => Sys2Proof.Machine.execPlaitAssign p s
  | .plaitPing p => Sys2Proof.Machine.execPlaitPing p s
  | .plaitTrim p => Sys2Proof.Machine.execPlaitTrim p s
  | .plaitCollect p => Sys2Proof.Machine.execPlaitCollect p s
  | .plaitReadCert p => Sys2Proof.Machine.execPlaitReadCert p s
  | .plaitReadMem p => Sys2Proof.Machine.execPlaitReadMem p s
  | .plaitKeyAgree p => Sys2Proof.Machine.execPlaitKeyAgree p s
  | .plaitChallenge p => Sys2Proof.Machine.execPlaitChallenge p s
  | .plaitConsume p => Sys2Proof.Machine.execPlaitConsume p s
  | .plaitCatchup p => Sys2Proof.Machine.execPlaitCatchup p s
  | .plaitWriteMem p => Sys2Proof.Machine.execPlaitWriteMem p s
  | .plaitFinish p => Sys2Proof.Machine.execPlaitFinish p s
  | .tagAnswerReceived p f => Sys2Proof.Machine.execTagAnswerReceived p f s
  | .acquisitionEnd codes => Sys2Proof.Machine.execAcquisitionEnd codes s
  | .startupTestEnd ch => Sys2Proof.Machine.execStartupTestEnd ch s
  | .ringFreqCheck fastMhz slowKhz => Sys2Proof.Machine.execRingFreqCheck fastMhz slowKhz s
  | .repetitionEvent ch latch sample run => Sys2Proof.Machine.execRepetitionEvent ch latch sample run s
  | .proportionEvent ch latch sample count => Sys2Proof.Machine.execProportionEvent ch latch sample count s
  | .aptWindowClose ch ones => Sys2Proof.Machine.execAptWindowClose ch ones s
  | .churnBlockFormed ch raw => Sys2Proof.Machine.execChurnBlockFormed ch raw s
  | .entRetestA r => Sys2Proof.Machine.execEntRetestA r s
  | .entRetestB r => Sys2Proof.Machine.execEntRetestB r s
  | .estimateWindowEnd ch bits ones pairs agree fastMhz slowKhz => Sys2Proof.Machine.execEstimateWindowEnd ch bits ones pairs agree fastMhz slowKhz s
  | .prooferGenerate inst => Sys2Proof.Machine.execProoferGenerate inst s
  | .drainProgramStart => Sys2Proof.Machine.execDrainProgramStart s
  | .drainReadbackDone slots => Sys2Proof.Machine.execDrainReadbackDone slots s
  | .drainPauseEnd => Sys2Proof.Machine.execDrainPauseEnd s
  | .compactionStart => Sys2Proof.Machine.execCompactionStart s
  | .checkpointProgramDone ok => Sys2Proof.Machine.execCheckpointProgramDone ok s
  | .ratchetFuseBlown => Sys2Proof.Machine.execRatchetFuseBlown s
  | .compactionEraseDone => Sys2Proof.Machine.execCompactionEraseDone s
  | .spwConversion ballNv => Sys2Proof.Machine.execSpwConversion ballNv s
  | .earlyWarningFall => Sys2Proof.Machine.execEarlyWarningFall s
  | .transientEnd c => Sys2Proof.Machine.execTransientEnd c s
  | .rippleWindowEnd c => Sys2Proof.Machine.execRippleWindowEnd c s
  | .missingCrossingClose c => Sys2Proof.Machine.execMissingCrossingClose c s
  | .pageFaultComplete page chk => Sys2Proof.Machine.execPageFaultComplete page chk s
  | .writebackRoundStart => Sys2Proof.Machine.execWritebackRoundStart s
  | .writebackRoundReadback ok => Sys2Proof.Machine.execWritebackRoundReadback ok s
  | .roundHoldoffEnd => Sys2Proof.Machine.execRoundHoldoffEnd s
  | .lockHoldExpire => Sys2Proof.Machine.execLockHoldExpire s
  | .windowRead off len chk => Sys2Proof.Machine.execWindowRead off len chk s
  | .windowWrite off data chk => Sys2Proof.Machine.execWindowWrite off data chk s
  | .ldrFlush r => Sys2Proof.Machine.execLdrFlush r s
  | .ddrScrub ce ue ueAddr => Sys2Proof.Machine.execDdrScrub ce ue ueAddr s
  | .ddrZqCalibration => Sys2Proof.Machine.execDdrZqCalibration s
  | .queueEnable q => Sys2Proof.Machine.execQueueEnable q s
  | .queueDisable q => Sys2Proof.Machine.execQueueDisable q s
  | .sqTailDoorbell q v width => Sys2Proof.Machine.execSqTailDoorbell q v width s
  | .cqHeadDoorbell q v width => Sys2Proof.Machine.execCqHeadDoorbell q v width s
  | .descriptorReadComplete q ans rttNs => Sys2Proof.Machine.execDescriptorReadComplete q ans rttNs s
  | .verify q => Sys2Proof.Machine.execVerify q s
  | .consume q => Sys2Proof.Machine.execConsume q s
  | .increment q => Sys2Proof.Machine.execIncrement q s
  | .random q => Sys2Proof.Machine.execRandom q s
  | .tagRead q => Sys2Proof.Machine.execTagRead q s
  | .tagWrite q => Sys2Proof.Machine.execTagWrite q s
  | .anchorAck q buf sigOk => Sys2Proof.Machine.execAnchorAck q buf sigOk s
  | .limitSet q => Sys2Proof.Machine.execLimitSet q s
  | .recordRead q => Sys2Proof.Machine.execRecordRead q s
  | .recordWrite q buf => Sys2Proof.Machine.execRecordWrite q buf s
  | .recordFree q => Sys2Proof.Machine.execRecordFree q s
  | .issuerSet q buf sigOk pointOk => Sys2Proof.Machine.execIssuerSet q buf sigOk pointOk s
  | .eventBuf q => Sys2Proof.Machine.execEventBuf q s
  | .irqCoalesceTimeout q => Sys2Proof.Machine.execIrqCoalesceTimeout q s
  | .schedulerEpoch => Sys2Proof.Machine.execSchedulerEpoch s
  | .engineSelftest u pass => Sys2Proof.Machine.execEngineSelftest u pass s
  | .beatPrepareStart p pos pageOk => Sys2Proof.Machine.execBeatPrepareStart p pos pageOk s
  | .classWarm c => Sys2Proof.Machine.execClassWarm c s
  | .glzHello body sigOk pointsOk => Sys2Proof.Machine.execGlzHello body sigOk pointsOk s
  | .glzProve sigOk z => Sys2Proof.Machine.execGlzProve sigOk z s
  | .glzProveTimeout => Sys2Proof.Machine.execGlzProveTimeout s
  | .glzRead f off len chk => Sys2Proof.Machine.execGlzRead f off len chk s
  | .glzAttest f challenge => Sys2Proof.Machine.execGlzAttest f challenge s
  | .glzCertRead f chunk => Sys2Proof.Machine.execGlzCertRead f chunk s
  | .glzStageToken f token sigOk chk => Sys2Proof.Machine.execGlzStageToken f token sigOk chk s
  | .glzStageLabel f record label chk => Sys2Proof.Machine.execGlzStageLabel f record label chk s
  | .glzCommit f => Sys2Proof.Machine.execGlzCommit f s
  | .glzDiscard f => Sys2Proof.Machine.execGlzDiscard f s
  | .glzClose f => Sys2Proof.Machine.execGlzClose f s
  | .glzSessionFrameDrop f typ => Sys2Proof.Machine.execGlzSessionFrameDrop f typ s
  | .glzFrameDiscard why badPulses => Sys2Proof.Machine.execGlzFrameDiscard why badPulses s
  | .glzAmplitudeAbort => Sys2Proof.Machine.execGlzAmplitudeAbort s
  | .glzHushEnd => Sys2Proof.Machine.execGlzHushEnd s
  | .glzBlindRise ambientUa => Sys2Proof.Machine.execGlzBlindRise ambientUa s
  | .glzBlindFall ambientUa => Sys2Proof.Machine.execGlzBlindFall ambientUa s
  | .glzSessionIdleTimeout => Sys2Proof.Machine.execGlzSessionIdleTimeout s
  | .glzCtrlClose r => Sys2Proof.Machine.execGlzCtrlClose r s
  | .pcieLinkUp speed width reversed => Sys2Proof.Machine.execPcieLinkUp speed width reversed s
  | .pcieHotReset => Sys2Proof.Machine.execPcieHotReset s
  | .bmeD3Change busMaster d3hot => Sys2Proof.Machine.execBmeD3Change busMaster d3hot s
  | .msixUnmask vector => Sys2Proof.Machine.execMsixUnmask vector s
  | .mspRead mosi edges => Sys2Proof.Machine.execMspRead mosi edges s
  | .mspWrite mosi edges => Sys2Proof.Machine.execMspWrite mosi edges s
  | .tapInstructionLoad instr => Sys2Proof.Machine.execTapInstructionLoad instr s
  | .engineOperationComplete u res => Sys2Proof.Machine.execEngineOperationComplete u res s
  | .commitEntryValid => Sys2Proof.Machine.execCommitEntryValid s
  | .lifecycleBlowDone => Sys2Proof.Machine.execLifecycleBlowDone s
  | .glzTransmissionEnd => Sys2Proof.Machine.execGlzTransmissionEnd s
  | .glzHelloEntropyTimeout => Sys2Proof.Machine.execGlzHelloEntropyTimeout s
  | .retestBudgetExpire ch => Sys2Proof.Machine.execRetestBudgetExpire ch s
  | .vbatLowClear => Sys2Proof.Machine.execVbatLowClear s
  | .vbatPresentChange present => Sys2Proof.Machine.execVbatPresentChange present s

end Sys2Proof.Machine
end

