-- ==== Sys2Proof/Safety.lean ====
section
/-! DEFINITION. What a safe state of the block is, and the terms the statements use: the parts of a state that a command
leaves alone, a command that runs with given effects, and a block in which nothing waits to move. -/

namespace Sys2Proof.Machine

/-- R39, R47: no guard is enabled outside SERVICE, or while the guard-force line is asserted, or from the acceptance of
a RETIRE on. -/
def State.guardsSafe (s : State) : Prop :=
  s.mode ≠ .service ∨ s.vig.force = true ∨ s.life.retireWait = true → s.fab.enabled = 0

/-! ## Frames -/

/-- The parts of the state that a frame names. -/
inductive Part where
  | out
  | free
  | mode
  | refclk
  | tick
  | kept
  | mod
  | vig
  | otp
  | life
  | rcp
  | fabric
  | guards
  | ports
  | ent
  | prf
  | rng
  | cnt
  | flash
  | spw
  | ldr
  | queues
  | sch
  | spc
  | glz
  | links
  | irq
  | msp
  | sts
  | hold
deriving DecidableEq, Repr

/-- The two outputs that follow the state at the end of any command: the reads that queues are due, and the device
vector's message. -/
def Output.due (o : Output) : Bool :=
  match o with
  | .descriptorRead _ _ _ => true
  | .msix v => v == 1024
  | _ => false

/-- A part is the same in two states. Three things follow the state at the end of every command and are told apart: a
guard is never enabled but may be made safe, a queue may issue the read it is due (`reading`), and a device condition
that rises may send or hold back the device vector's message. -/
def Part.same (p : Part) (s t : State) : Prop :=
  match p with
  | .out => (t.out.filter fun o => !o.due) = s.out.filter fun o => !o.due
  | .free => t.free = s.free
  | .mode => t.mode = s.mode
  | .refclk => t.refclk = s.refclk
  | .tick => t.tick = s.tick
  | .kept => t.kept = s.kept
  | .mod => t.mod = s.mod
  | .vig => t.vig = s.vig
  | .otp => t.otp = s.otp
  | .life => t.life = s.life
  | .rcp => t.rcp = s.rcp
  | .fabric => { t.fab with enabled := 0, carrier := 0, enabledAt := [] }
      = { s.fab with enabled := 0, carrier := 0, enabledAt := [] }
  | .guards => (t.fab.enabled = s.fab.enabled ∧ t.fab.carrier = s.fab.carrier ∧ t.fab.enabledAt = s.fab.enabledAt)
      ∨ (t.fab.enabled = 0 ∧ t.fab.carrier = 0 ∧ t.fab.enabledAt = [])
  | .ports => t.ports = s.ports
  | .ent => t.ent = s.ent
  | .prf => t.prf = s.prf
  | .rng => t.rngEmpty = s.rngEmpty
  | .cnt => t.cnt = s.cnt
  | .flash => t.flash = s.flash
  | .spw => t.spw = s.spw
  | .ldr => t.ldr = s.ldr
  | .queues => ∀ q, { t.queue q with reading := 0 } = { s.queue q with reading := 0 }
  | .sch => t.sch = s.sch
  | .spc => t.spc = s.spc
  | .glz => t.glz = s.glz
  | .links => { t.links with pba := setBit t.links.pba 1024 false } = { s.links with pba := setBit s.links.pba 1024 false }
  | .irq => t.irqStat = s.irqStat ∧ t.links.pba = s.links.pba ∧ t.sts.devMsgs = s.sts.devMsgs
  | .msp => t.msp = s.msp
  | .sts => { t.sts with devMsgs := 0 } = { s.sts with devMsgs := 0 }
  | .hold => t.holdPcie = s.holdPcie ∧ t.holdMsp = s.holdMsp

/-- Every part that is not named is the same in both states. -/
def KeepsBut (changed : List Part) (s t : State) : Prop := ∀ p, p ∉ changed → p.same s t

/-- The command answers a next state in which `post` holds, and which differs from `s` in the named parts only. -/
def Runs (c : Instr) (s : State) (changed : List Part) (post : State → Prop) : Prop :=
  ∃ t, exec c s = .next t ∧ KeepsBut changed s t ∧ post t

/-- The parts that are lost when the core loses its supply, its clock or its voltage: all but OTP, the flashes, the
vigil domain and REFCLK. -/
def coreParts : List Part :=
  [.mode, .tick, .kept, .mod, .life, .rcp, .fabric, .guards, .ports, .ent, .prf, .rng, .cnt, .spw, .ldr, .queues, .sch,
    .spc, .glz, .links, .irq, .msp, .sts, .hold]

/-- What the beginning of a warm start changes. -/
def warmParts : List Part :=
  [.mode, .mod, .vig, .rcp, .guards, .ports, .ent, .prf, .cnt, .ldr, .queues, .sch, .spc, .glz, .irq, .msp]

/-- What completions, messages and events change. -/
def talkParts : List Part := [.out, .queues, .sch, .sts, .irq, .links]

/-! ## A block in which nothing waits -/

/-- No fuse, flash program or erase is under way. -/
def State.still (s : State) : Prop :=
  s.life.blowing = none ∧ s.rcp.busy = none ∧ s.cnt.drain = .idle ∧ s.cnt.compaction = .none ∧ s.ldr.running = none
    ∧ s.mod.snapWrite = none

/-- A released job has its context, and a BEAT its preparation. -/
def Job.quiet (j : Job) : Bool := j.ctx && (j.kind != jobBeat || (match j.prep with | none => false | some b => b.whole))

/-- An authentication waits for the wire, a page, a commit or a round, or has its engine and its key. -/
def Auth.quiet (a : Auth) : Bool :=
  (a.stage != .verify && a.stage != .keys) || (a.unit.isSome && (a.stage == .verify || a.priv.isSome))

/-- Nothing at a port waits for what is already there. -/
def Port.quiet (x : Port) : Bool :=
  (x.jobs.all Job.quiet) && x.pos.all fun e => match e.2.auth with | none => true | some a => a.quiet

/-- A host operation waits for something that is still to come: it stands in its port's queue or is on the wire, or no ECC
engine of its set is idle, or it waits for no port and no engine. -/
def State.opQuiet (s : State) (o : Op) : Bool :=
  match o.phase with
  | .port => (s.port o.desc.port).hostq.contains o.ctx || s.onWire o.desc.port o.ctx
  | .auth => (s.port o.desc.port).hostq.contains o.ctx || s.onWire o.desc.port o.ctx
  | .engine => !o.desc.onPort
  | .ecc => s.engineActive eccUnits (s.affinity o.q) && !s.eccMay o
  | _ => true

/-- Nothing is waiting that could go on at once: a command's end sets nothing else in motion. -/
def State.quiet (s : State) : Prop :=
  (∀ o ∈ s.sch.ops, s.opQuiet o = true) ∧ (s.cnt.arrivals = [] ∧ (s.cnt.queue = [] ∨ s.cnt.busy.isSome = true))
    ∧ (∀ e ∈ s.ports, e.2.quiet = true) ∧ (∀ h, s.glz.hand = some h → h.reply.isSome = true)
    ∧ (∀ c, s.glz.commit = some c → (c.labelsIn || c.lockEnded || !c.tokensDone) = true)
    ∧ s.ldr.stalled = [] ∧ s.glz.stalled = none

/-! ## Descriptors -/

/-- The first descriptor of a queue's buffer has this opcode, the free context goes to its queue (R384), it passes every
check of R369, and no unknown opcode stands behind it. -/
structure State.Takes (s : State) (q code : Nat) (h : Fetched) : Prop where
  head   : (s.queue q).buf.head? = some h
  opcode : h.desc.opcode = code
  wins   : s.winner = some q
  room   : s.hostUsed < 3584
  passes : s.refusal q h.desc = none
  known  : ∀ f ∈ (s.queue q).buf, opcodeClass f.desc.opcode ≠ none

/-- The operation of a descriptor as it takes its context (R382). -/
def State.newOp (s : State) (q : Nat) (h : Fetched) : Op :=
  { ctx := s.freeCtx, q := q, desc := h.desc, eff := h.eff, phase := .engine, pastPoint := false, committed := false,
    count := 0, record := 0, offset := 0, data := [] }

/-- The completion entry that a queue's next completion of a descriptor writes (R365, R371). -/
def State.entryOut (s : State) (q : Nat) (d : Desc) (st : Status) (result : Bytes) : Output :=
  .completion q (s.queue q).write
    (completionEntry d (s.tick.toNat % 2 ^ 32) (s.queue q).fetch st.code (s.queue q).phase result)

/-- A running, quiet block that may write, and the first descriptor of a queue, of this opcode, that takes its context. -/
structure State.Begins (s : State) (q code : Nat) (h : Fetched) : Prop where
  running : s.running = true
  quiet   : s.quiet
  master  : s.canMaster = true
  takes   : s.Takes q code h

/-- A page that work finds in the record cache, checked. -/
def State.pageThere (s : State) (page : Nat) : Prop := s.cached page = true ∧ s.poisoned page = false

/-- The counter unit takes an entry at once: it is idle in SERVICE, its window is open and its buffer has room. -/
def State.commitsNow (s : State) : Prop :=
  s.cnt.queue = [] ∧ s.cnt.busy = none ∧ s.cnt.ready = true ∧ s.mode = .service ∧ s.commitOpen = true
    ∧ s.vig.buffer.length < 64

/-- The journal entry that a request of the host operation about to begin makes (R291, R295). -/
def State.hostEntry (s : State) (typ cause id value : Nat) : Entry :=
  s.makeEntry { owner := .host s.freeCtx, typ := typ, cause := cause, id := id, value := value, plusOne := false, base := 0
                serial := 0, accepted := false, tag := none } value

/-- What completing a host operation changes. -/
def opParts : List Part := .ldr :: talkParts

/-! ## The Glaze port -/

/-- A session's next request arrives whole: the port hears it, no COMMIT runs, no hush, its tag is right and its SEQ is
the next. -/
structure State.GlzAsks (s : State) (f : GlzFrame) (x : GlzSession) : Prop where
  running : s.running = true
  quiet   : s.quiet
  hears   : s.glzHears = true
  noHush  : s.glz.hushEnd = none
  session : s.glz.session = some x
  free    : s.glz.commit = none
  tag     : f.tagOk = true
  next    : f.seq = x.lastSeq + 1
  room    : x.lastSeq + 1 < 65536

/-- The response to a session's next request (R437, R438). -/
def GlzSession.reply (x : GlzSession) (typ : Byte) (st : Status) (data : Bytes) : Bytes :=
  glzContent x.kbl (typ ||| 0x80) (x.lastSeq + 1) (leBytes 2 st.code ++ data)

/-- The session once that response is sent. -/
def State.glzReplied (s : State) (x : GlzSession) (typ : Byte) (st : Status) (data : Bytes) : GlzSession :=
  { x with drops := 0, lastAt := s.tick, lastSeq := x.lastSeq + 1, stored := x.reply typ st data }

/-- The port's state once a response is on its way, its session `y`. -/
def State.glzSending (s : State) (y : GlzSession) : Glaze :=
  { s.glz with session := some y, sending := true, nextRate := none, framesOk := satInc s.glz.framesOk }

/-! ## The Plait ports -/

/-- A transaction at its first try, without a hold. -/
def Txn.first (owner : Owner) (op pos : Nat) (payload : Bytes) : Txn :=
  { owner := owner, op := op, pos := pos, payload := payload, tries := 0, holdUs := 0, holdUsed := 0, holding := false
    finish := false, due := false, silent := true }

/-- A transaction with a hold of so many µs after its frame, none where that is 0. -/
def Txn.held (t : Txn) (us : Nat) : Txn := { t with holdUs := us, holding := decide (us ≠ 0) }

/-- A running, quiet block, and what a port serves next. -/
structure State.Serves (s : State) (p : Nat) (w : Work) : Prop where
  running : s.running = true
  quiet   : s.quiet
  next    : s.nextWork p = w

/-- A running, quiet block, and the transaction whose answer a port waits for. -/
structure State.Expects (s : State) (p : Nat) (t : Txn) : Prop where
  running : s.running = true
  quiet   : s.quiet
  answer  : s.awaiting p = some t

/-- A place for the strong pull-up is free in a port's cluster, and no port waits for one (R195). -/
def State.placeFree (s : State) (p : Nat) : Prop := s.spuUsed p < 4 ∧ s.spuQueue p = false

/-- The hold of a numbered command that writes: NV_HOLD in units of 10 µs, no longer than SPU_LIMIT_MS (R194, R230). -/
def State.nvHoldUs (s : State) (p i : Nat) : Nat := min ((s.pos p i).nvHold * 10) (s.port p).spuLimitUs

/-- The payload of a session's next numbered command: MSEQ, its content, its CMAC4 (R230). -/
def TagSession.numbered (h : TagSession) (label : String) (tail : Bytes) : Bytes :=
  leBytes 1 (h.mseq + 1) ++ tail ++ macSeq h.kbt 4 label (h.mseq + 1) tail

/-- The session after it. -/
def TagSession.counted (h : TagSession) : TagSession := { h with mseq := h.mseq + 1 }

/-- The frame of a command to a position, with the position's ACK (R207, R219). -/
def State.frameOut (s : State) (p i op : Nat) (payload : Bytes) : Output :=
  .plaitFrame p (borpinBody i op payload (s.pos p i).parity)

/-- What the end of an enumeration or of a tag's session changes. -/
def lineParts : List Part := .ports :: .rcp :: .spc :: opParts

/-! ## The Proofer at rest -/

/-- A Proofer instance has nothing to begin: it is not to be instantiated, and no reseed of it is due. -/
def Prf.quiet (int : Nat) (x : Prf) : Bool := !x.due && (x.state == 0 || (x.state == 1 && decide (x.since < int)))

/-- The Proofer has nothing to do: no RANDOM gathers, no instance waits, and one that is not OFF is not STOPPED. -/
def State.prfQuiet (s : State) : Prop :=
  (∀ o ∈ s.sch.ops, o.phase ≠ .gather) ∧ (∀ i < 4, (s.inst i).quiet s.reseedInt = true) ∧ s.reseedInt ≤ stopCount
    ∧ ∃ i < 4, s.unitIs (prfUnit i) .off = false

/-- A running block outside Stage step 9, its Proofer at rest, that has not lost every SHA-256 lane to a failed self-test:
no command's end moves a channel or an instance (R250, R251, R258, R273). -/
structure State.Rests (s : State) : Prop where
  running : s.running = true
  proofer : s.prfQuiet
  outside : s.mod.inStep9 = false
  lanes   : ((shaUnits.all fun u => s.unitIs u .off) && shaUnits.any fun u => s.rcp.testOff.contains u) = false

/-- No commit waits for a round that would make a binding durable (R336). -/
def State.noBind (s : State) : Prop := ∀ p i n, Need.bind p i n ∉ s.ldr.needs

end Sys2Proof.Machine
end

