-- ==== Sys2Proof/Certificates/Slice0/Obligations.lean ====
section
/-! DEFINITION. The statements for the provers. A clause `Runs c s changed post` says that the command `c` answers a next
state in which `post` holds and which differs from `s` in the parts `changed` only. -/

open Sys2Proof Sys2Proof.Machine

/-! ## Supplies and detectors -/

/-- R75, R77: the vigil rail in its window, its switch, and the loss of both of its sources.
R74, R81, R82: what VBAT does shows in its two bits only, and no detector of it takes the core to VIGIL. -/
def Obligations.VigilRailAndVbat : Prop :=
  (∀ (s : State) (src : VigilSource), s.mode = .unpowered →
    Runs (.vigilWindowReached src) s [.mode, .vig] fun t =>
      t.mode = .vigil ∧ t.vig.source = src ∧ t.vig.intact = false ∧ t.vig.anchorOk = false ∧ t.vig.buffer = []
        ∧ t.vig.causes = [] ∧ t.vig.record = none ∧ t.vig.latched = 0 ∧ t.vig.armed = 0) ∧
  (∀ (s : State) (dst : VigilSource), s.mode ≠ .unpowered →
    Runs (.vigilSupplySwitch dst) s [.vig] fun t => t.vig = { s.vig with source := dst }) ∧
  (∀ s : State, s.still →
    Runs .totalPowerLoss s (.vig :: coreParts) fun t =>
      t.mode = .unpowered ∧ t.vig.intact = false ∧ t.vig.anchorOk = false ∧ t.vig.buffer = [] ∧ t.vig.causes = []
        ∧ t.vig.record = none ∧ t.vig.latched = 0) ∧
  (∀ s : State, s.mode ≠ .unpowered →
    Runs .vbatLowDetect s [.vig] fun t => t.vig = { s.vig with vbatLow := true }) ∧
  (∀ s : State, s.mode ≠ .unpowered →
    Runs .vbatLowClear s [.vig] fun t => t.vig = { s.vig with vbatLow := false }) ∧
  (∀ (s : State) (b : Bool), s.mode ≠ .unpowered →
    Runs (.vbatPresentChange b) s [.vig] fun t => t.vig = { s.vig with vbatPresent := b })

/-- R47, R81, R83–R85: a detector that fires in a powered mode is recorded after those that fired before it, asserts the
guard-force line and takes the block to VIGIL; a core-voltage excursion of 10 ns always does.
The clauses keep to the model's readings where the spec leaves them open (assumption log 49). -/
def Obligations.DetectorsEnterVigil : Prop :=
  (∀ s : State, s.powered = true → s.still →
    Runs .mainSupplyLoss s (.vig :: coreParts) fun t =>
      t.mode = .vigil ∧ t.vig = { s.vig with fired := insertNew s.vig.fired 1, lastMode := s.mode.lastCode, force := true }
        ∧ t.fab.enabled = 0) ∧
  (∀ (s : State) (ns : Nat), s.powered = true → s.still → 10 ≤ ns →
    Runs (.coreVoltageExcursion ns) s (.vig :: coreParts) fun t =>
      t.mode = .vigil ∧ t.vig = { s.vig with fired := insertNew s.vig.fired 2, lastMode := s.mode.lastCode, force := true }
        ∧ t.fab.enabled = 0) ∧
  (∀ s : State, s.powered = true → s.still →
    Runs .coreclkLoss s (.vig :: coreParts) fun t =>
      t.mode = .vigil ∧ t.vig = { s.vig with fired := insertNew s.vig.fired 3, lastMode := s.mode.lastCode, force := true }
        ∧ t.fab.enabled = 0)

/-- R28, R47, R48, R84, R509: REFCLK lost stops the clock, and the carriers with it: a live guard is safe, a static one
stays as it is until the guard-force line acts; a cold start leaves VIGIL for STAGE with the detector that fired first as
its VIGIL_CAUSE, and clears the record of detectors.
The clauses keep to the model's readings where the spec leaves them open (assumption log 18). -/
def Obligations.RefclkLossAndColdStart : Prop :=
  (∀ s : State, Runs .refclkLoss s [.refclk, .guards] fun t =>
    t.refclk = false ∧ t.running = false ∧ t.fab.carrier = 0 ∧ t.fab.enabledAt = []
      ∧ ∀ i, t.fab.enabled.getLsbD i = true → s.fab.enabled.getLsbD i = true ∧ s.fab.staticMask.getLsbD i = true) ∧
  (∀ s : State, s.mode = .vigil → s.still →
    Runs .coldStart s (.refclk :: .vig :: coreParts) fun t =>
      t.mode = .stage ∧ t.refclk = true ∧ t.tick = 0 ∧ t.mod.done = [] ∧ t.mod.stageStep = 0
        ∧ t.mod.nextCause = { StartCause.none with kind := 1, vigilCause := s.vig.fired.headD 0 } ∧ t.vig.fired = []
        ∧ t.vig.buffer = s.vig.buffer ∧ t.vig.causes = s.vig.causes)

/-- R87–R90, R92: a loop fault of 1 µs on an armed pair whose latch is clear sets its latch, the guard-force line and the
read inhibit, and records the cause TAMPER; a fault of less than 0.5 µs sets no latch (R88). In VIGIL nothing else moves.
The clauses keep to the model's readings where the spec leaves them open (assumption log 49). -/
def Obligations.TamperLatchesInVigil : Prop :=
  (∀ (s : State) (a b : BitVec 8) (ns : Nat), s.mode = .vigil → s.still → 1000 ≤ ns →
    (a ||| b) &&& s.vig.armed &&& ~~~ s.vig.latched ≠ 0 →
    Runs (.tamperLatch a b ns) s [.vig] fun t =>
      t.vig.latched = s.vig.latched ||| ((a ||| b) &&& s.vig.armed &&& ~~~ s.vig.latched) ∧ t.vig.force = true
        ∧ t.vig.inhibit = true ∧ .tamper ∈ t.vig.causes ∧ t.vig.anchorOk = false ∧ t.vig.buffer = []
        ∧ t.vig.armed = s.vig.armed) ∧
  (∀ (s : State) (a b : BitVec 8) (ns : Nat), s.mode = .vigil → ns < 500 →
    Runs (.tamperLatch a b ns) s [.vig] fun t => t.vig = { s.vig with wrongA := a, wrongB := b, wrongLong := 0 })

/-- R104, R105: the end of a zeroization finishes every key block whose marker fuse is blown and clears
ZEROIZE_PENDING. -/
def Obligations.ZeroizationCompletes : Prop :=
  ∀ s : State, s.running = true → s.vig.zeroPending = true → s.life.retireWait = false →
    Runs .zeroizeDone s [.vig, .otp] fun t =>
      t.vig = { s.vig with zeroPending := false }
        ∧ t.otp = { s.otp with blocks := s.otp.blocks.map fun k => if k.marker && k.unblown then k.finished else k }

/-! ## Modes, starts and snapshots -/

/-- R43, R49, R65: GO is held in STAGE, and discarded where it meets a quarantine cause; SNAP in SERVICE captures a snapshot of the next generation and begins to write it to
the next slot, as does the second after the last change of a kept field.
The clauses keep to the model's readings where the spec leaves them open (assumption log 40). -/
def Obligations.GoAndSnapRequests : Prop :=
  (∀ (s : State) (r : GoWrite), s.running = true → s.hears r.by_ = true → s.mode = .stage →
    (r.met = false ∨ s.vig.causes = []) →
    Runs (.modGo r) s [.mod] fun t => t.mod = { s.mod with goReq := true }) ∧
  (∀ (s : State) (r : GoWrite), s.running = true → s.hears r.by_ = true → r.met = true → s.vig.causes ≠ [] →
    Runs (.modGo r) s [.sts, .msp] fun t => t.sts.rejects = satInc s.sts.rejects) ∧
  (∀ (s : State) (r : Requester), s.running = true → s.hears r = true → s.mode = .service →
    s.mod.snapWrite = none → s.vig.snapGen ≠ 0xFFFFFFFF → s.hasKeys = true → s.spw.early = false →
    Runs (.modSnap r) s [.mod] fun t =>
      t.mod = { s.mod with
        snapReq := true
        snapWrite := some { image := s.snapImage, slot := (s.vig.snapSlot + 1) % 16, second := false } }) ∧
  (∀ s : State, s.running = true → s.mod.snapTimer.isSome = true → s.mod.preludeOn = false →
    s.mod.snapWrite = none → s.vig.snapGen ≠ 0xFFFFFFFF → s.hasKeys = true → s.spw.early = false →
    Runs .snapshotIdleTimer s [.mod] fun t =>
      t.mod = { s.mod with
        snapTimer := none
        snapWrite := some { image := s.snapImage, slot := (s.vig.snapSlot + 1) % 16, second := false } })

/-- R66: a verified snapshot stands in its slot, and the pointer and the generation of the vigil domain name it; after a
failed read-back the next slot is tried, once.
The clauses keep to the model's readings where the spec leaves them open (assumption log 40). -/
def Obligations.SnapshotWriteAnchors : Prop :=
  (∀ (s : State) (w : SnapWrite), s.running = true → s.mod.snapWrite = some w → s.mod.snapPending = false →
    Runs (.snapshotWriteDone true) s [.mod, .vig, .flash, .rcp] fun t =>
      t.flash.snaps = tabPut s.flash.snaps w.slot w.image
        ∧ t.vig = { s.vig with snapSlot := w.slot, snapGen := w.image.generation, snapOk := true }
        ∧ t.mod.snapWrite = none ∧ t.mod.snapResult = 1 ∧ t.mod.snapReq = false) ∧
  (∀ (s : State) (w : SnapWrite), s.running = true → s.mod.snapWrite = some w → w.second = false →
    Runs (.snapshotWriteDone false) s [.mod, .flash, .free] fun t =>
      t.mod.snapWrite = some { w with slot := (w.slot + 1) % 16, second := true }) ∧
  (∀ (s : State) (w : SnapWrite), s.running = true → s.mod.snapWrite = some w → w.second = true →
    s.mod.snapPending = false →
    Runs (.snapshotWriteDone false) s [.mod, .flash, .free] fun t =>
      t.mod.snapWrite = none ∧ t.mod.snapResult = 3)

/-! ## Starts, Stage and QUARANTINE -/

/-- R43, R49, R50, R56, R58: RESTART in SERVICE, of either requester or of both in one cycle, and PERST_N falling there,
begin the warm prelude: the guards are safe, host operations end, and the start that will follow carries every source.
The prelude's end begins Stage with every block at its Start value; it does not come while the prelude still writes.
The clauses keep to the model's readings where the spec leaves them open (assumption log 31). -/
def Obligations.WarmStarts : Prop :=
  (∀ (s : State) (pcie msp : Bool), s.running = true → s.hears .msp = true → s.mode = .service → (pcie || msp) = true →
    Runs (.modRestart pcie msp) s warmParts fun t =>
      t.mode = .stage ∧ t.mod.preludeOn = true ∧ t.mod.stageDone = false
        ∧ t.mod.nextCause = { StartCause.none with kind := 2, hostRestart := pcie, mspRestart := msp }
        ∧ t.vig = { s.vig with lastMode := 2 } ∧ t.fab.enabled = 0 ∧ t.sch.ops = [] ∧ t.glz.state = 0
        ∧ ∀ q, (t.queue q).buf = []) ∧
  (∀ s : State, s.running = true → s.mode = .service → s.links.perstN = true →
    Runs (.perstAssert false false) s (.links :: warmParts) fun t =>
      t.mode = .stage ∧ t.mod.preludeOn = true ∧ t.mod.nextCause = { StartCause.none with kind := 2, perst := true }
        ∧ t.links.perstN = false ∧ t.links.linkUp = false ∧ t.links.busMaster = false ∧ t.fab.enabled = 0) ∧
  (∀ s : State, Runs .perstRelease s [.links] fun t => t.links.perstN = true) ∧
  (∀ s : State, s.running = true → s.mode = .stage → s.mod.preludeOn = true → s.still → s.preludeBusy = false →
    Runs .warmPreludeDone s (.vig :: coreParts) fun t =>
      t.mode = .stage ∧ t.mod = { Mod.start with nextCause := s.mod.nextCause, stageBegin := s.tick }
        ∧ t.tick = s.tick ∧ t.kept = .bracket ∧ t.ports = s.startPorts ∧ t.cnt = s.cnt.restarted
        ∧ t.ent.a.retests = s.ent.a.retests ∧ t.vig = { s.vig with forceTamper := false, forceTap := false }) ∧
  (∀ s : State, s.running = true → s.preludeBusy = true →
    Runs .warmPreludeDone s [] fun t => t.mode = s.mode ∧ t.mod = s.mod)

/-- R43, R55, R56: RESTART in QUARANTINE is accepted from a requester that has read the cause, and for ANCHOR_LOST only
after the acknowledgement; it clears the recorded causes and the tamper latches and begins the prelude of a quarantine
exit. One that is not accepted is discarded and counted.
The clauses keep to the model's readings where the spec leaves them open (assumption log 34). -/
def Obligations.QuarantineExit : Prop :=
  (∀ s : State, s.running = true → s.mode = .quarantine → s.mod.readHost = true →
    (s.mod.quarCause ≠ some .anchorLost ∨ s.mod.ackDone = true) → (s.vig.wrongA ||| s.vig.wrongB) &&& s.vig.armed = 0 →
    Runs (.modRestart true false) s warmParts fun t =>
      t.mode = .stage ∧ t.mod.preludeOn = true
        ∧ t.mod.nextCause = { StartCause.none with kind := 2, hostRestart := true, quarExit := true }
        ∧ t.vig.causes = [] ∧ t.vig.latched = 0 ∧ t.vig.lastMode = 3) ∧
  (∀ s : State, s.running = true → s.mode = .quarantine →
    (s.mod.readHost = false ∨ (s.mod.quarCause = some .anchorLost ∧ s.mod.ackDone = false)) →
    Runs (.modRestart true false) s [.sts] fun t => t.sts.rejects = satInc s.sts.rejects)

/-- R43, R52, R53, R54: MOD_CTRL.QUARANTINE in SERVICE records its cause and enters QUARANTINE: the guards are safe and
no host operation holds a context; elsewhere the write is discarded and counted. R57: PERST_N falling in QUARANTINE resets
the link and every queue to its Start values, and the mode, the cause and its read flags stay. -/
def Obligations.QuarantineRequests : Prop :=
  (∀ (s : State) (pcie msp : Bool), s.running = true → s.hears .msp = true → s.mode = .service → (pcie || msp) = true →
    Runs (.modQuarantine pcie msp) s
        ([.mode, .mod, .vig, .rcp, .guards, .ports, .ent, .prf, .cnt, .ldr, .spc, .glz, .msp] ++ talkParts) fun t =>
      t.mode = .quarantine ∧ t.mod.fromMode = 2 ∧ t.fab.enabled = 0 ∧ t.sch.ops = []
        ∧ (pcie = true → .hostRequest ∈ t.vig.causes) ∧ (msp = true → .mspRequest ∈ t.vig.causes)
        ∧ t.mod.quarCause = t.firstCause ∧ t.mod.readHost = false ∧ t.mod.readMsp = false) ∧
  (∀ s : State, s.running = true → s.mode ≠ .service →
    Runs (.modQuarantine true false) s [.sts] fun t => t.sts.rejects = satInc s.sts.rejects) ∧
  (∀ s : State, s.running = true → s.mode = .quarantine → s.links.perstN = true →
    Runs (.perstAssert false false) s talkParts fun t =>
      t.mode = .quarantine ∧ t.mod = s.mod ∧ t.links.perstN = false ∧ t.links.linkUp = false ∧ t.que = [])

/-- R44, R58, R77: Stage step 1, its PLL locked, writes MOD_START_CAUSE with the mode of the run before, as FIRST_POWER
where the vigil domain's integrity word was wrong, and completes; the domain is intact from then on. Where the PLL does
not lock, nothing changes.
R53, R86, R96, R98, R518: Stage step 2 leaves OTP as the pending-transition record finishes it, clears the record, makes
the lifecycle state its shadow's and shows it with the identity, and holds the guard force only for tamper or the test
access port; one whose lifecycle check fails records LIFECYCLE, zeroizes, and completes too.
The clauses keep to the model's readings where the spec leaves them open (assumption log 15, 43). -/
def Obligations.StageSteps1And2 : Prop :=
  (∀ (s : State) (straps : BitVec 6), s.stageNext = some 1 → s.mod.done.length < 9 →
    Runs (.stageStep1 straps true) s [.mod, .vig, .links, .sts, .irq] fun t =>
      t.mod.cause = { s.mod.nextCause with
        firstPower := s.mod.nextCause.firstPower || !s.vig.intact, lastMode := s.vig.lastMode }
        ∧ t.mod.stageStep = 1 ∧ t.mod.done = s.mod.done ++ [1] ∧ t.vig = { s.vig with intact := true }
        ∧ t.links.straps = straps ∧ t.sts = .start ∧ t.irqStat = s.irqStat) ∧
  (∀ (s : State) (straps : BitVec 6), s.running = true →
    Runs (.stageStep1 straps false) s [] fun t => t.mod = s.mod ∧ t.vig = s.vig) ∧
  (∀ s : State, s.stageNext = some 2 → s.mod.done.length < 9 → s.vig.causes = [] →
    ((s.otp.resolve s.vig.record).broken || (s.otp.resolve s.vig.record).skips
      || !s.shadowAgrees (s.otp.resolve s.vig.record).stateOf) = false →
    (s.otp.resolve s.vig.record).stateOf ≠ 4 → (∀ k ∈ s.otp.blocks, k.marker = false) → s.mod.cause.quarExit = false →
    Runs .stageStep2 s [.mod, .vig, .otp, .life] fun t =>
      t.otp = s.otp.resolve s.vig.record
        ∧ t.vig = { s.vig with
            record := none, shadow := some (s.otp.resolve s.vig.record).stateOf, zeroPending := false
            force := s.vig.forceTamper || s.vig.forceTap }
        ∧ t.life.state = (s.otp.resolve s.vig.record).stateOf ∧ t.life.shown = true
        ∧ t.life.completed = (s.otp.resolve s.vig.record != s.otp)
        ∧ t.mod.done = s.mod.done ++ [2] ∧ t.mod.stageStep = 2) ∧
  (∀ s : State, s.stageNext = some 2 → s.mod.done.length < 9 → s.still → s.mod.cause.quarExit = false →
    ((s.otp.resolve s.vig.record).broken || (s.otp.resolve s.vig.record).skips
      || !s.shadowAgrees (s.otp.resolve s.vig.record).stateOf) = true → s.keyBlock.marker = false →
    Runs .stageStep2 s [.mod, .vig, .otp, .life, .ports, .ent, .prf, .cnt, .ldr, .spc, .glz] fun t =>
      .lifecycle ∈ t.vig.causes ∧ t.vig.inhibit = true ∧ t.vig.anchorOk = false ∧ t.keyBlock.marker = true
        ∧ t.life.state = (s.otp.resolve s.vig.record).stateOf ∧ t.life.shown = true
        ∧ t.mod.done = s.mod.done ++ [2] ∧ t.mod.stageStep = 2)

/-- R58, R60: Stage step 3 tries the engines of each kind in order, lane 0 first: those that fail before one passes are
OFF, and the step completes when an ECC engine and a SHA-256 lane pass. With every ECC engine or every SHA-256 lane
failing, Stage is held with NO_BOOT_ENGINE and the step does not complete.
The clauses keep to the model's readings where the spec leaves them open (assumption log 38). -/
def Obligations.StageStep3 : Prop :=
  (∀ (s : State) (ecc sha : BitVec 8) (aes : BitVec 32), s.stageNext = some 3 → s.mod.done.length < 9 →
    ecc ≠ 0xFF → sha ≠ 0xFF →
    Runs (.stageStep3 ecc sha aes) s (.mod :: .rcp :: talkParts) fun t =>
      t.mod = { s.mod with done := s.mod.done ++ [3], stageStep := 3, inStep9 := false }
        ∧ (∀ i < 8, (∀ j ≤ i, ecc.getLsbD j = true) → (t.unit (128 + i)).st = .off)
        ∧ (∀ i < 32, (∀ j ≤ i, aes.getLsbD j = true) → (t.unit (136 + i)).st = .off)
        ∧ (∀ i < 8, (∀ j ≤ i, sha.getLsbD j = true) → (t.unit (168 + i)).st = .off)
        ∧ (∀ i < 8, (∃ j ≤ i, ecc.getLsbD j = false) → t.unit (128 + i) = s.unit (128 + i))
        ∧ (∀ i < 32, (∃ j ≤ i, aes.getLsbD j = false) → t.unit (136 + i) = s.unit (136 + i))
        ∧ (∀ i < 8, (∃ j ≤ i, sha.getLsbD j = false) → t.unit (168 + i) = s.unit (168 + i))) ∧
  (∀ (s : State) (ecc sha : BitVec 8) (aes : BitVec 32), s.stageNext = some 3 → s.vig.causes = [] →
    (ecc = 0xFF ∨ sha = 0xFF) →
    Runs (.stageStep3 ecc sha aes) s (.mod :: .rcp :: talkParts) fun t =>
      t.mod = { s.mod with stageFault := 2, inStep9 := false }
        ∧ (ecc = 0xFF → ∀ u ∈ eccUnits, (t.unit u).st = .off)
        ∧ (sha = 0xFF → ∀ u ∈ shaUnits, (t.unit u).st = .off))

/-- R128, R129, R459, R460: Stage step 4 takes slot A when it verifies, and slot B only when slot A does not; neither, or a
flash that does not offer what the Borpin needs, holds Stage. -/
def Obligations.StageStep4 : Prop :=
  (∀ (s : State) (boot record : Sfdp) (a b : SlotVerdict), s.stepDue 4 = true → s.mod.done.length < 9 →
    sfdpBoot boot = true → sfdpRecord record = true → s.verifySlot s.flash.slotA a = 15 →
    Runs (.stageStep4 boot record a b) s [.mod, .rcp, .flash] fun t =>
      t.rcp = { s.rcp with
        resultA := 15, loadedB := false, gen := imgGeneration s.flash.slotA, loadedFloor := imgFloor s.flash.slotA
        pendingRcp := some (parseRecipe s.flash.slotA) }
        ∧ t.mod.done = s.mod.done ++ [4] ∧ t.mod.cause = { s.mod.cause with slotB := false }) ∧
  (∀ (s : State) (boot record : Sfdp) (a b : SlotVerdict), s.stepDue 4 = true → s.mod.done.length < 9 →
    sfdpBoot boot = true → sfdpRecord record = true → s.verifySlot s.flash.slotA a ≠ 15 →
    s.verifySlot s.flash.slotB b = 15 →
    Runs (.stageStep4 boot record a b) s [.mod, .rcp, .flash] fun t =>
      t.rcp = { s.rcp with
        resultA := s.verifySlot s.flash.slotA a, resultB := 15, loadedB := true, gen := imgGeneration s.flash.slotB
        loadedFloor := imgFloor s.flash.slotB, pendingRcp := some (parseRecipe s.flash.slotB) }
        ∧ t.mod.done = s.mod.done ++ [4] ∧ t.mod.cause = { s.mod.cause with slotB := true }) ∧
  (∀ (s : State) (boot record : Sfdp) (a b : SlotVerdict), s.stepDue 4 = true → s.vig.causes = [] →
    sfdpBoot boot = true → sfdpRecord record = true → s.verifySlot s.flash.slotA a ≠ 15 →
    s.verifySlot s.flash.slotB b ≠ 15 →
    Runs (.stageStep4 boot record a b) s [.mod, .rcp, .flash] fun t =>
      t.mod.stageFault = (if s.mod.stageFault = 0 then 1 else s.mod.stageFault) ∧ t.mod.done = s.mod.done) ∧
  (∀ (s : State) (boot record : Sfdp) (a b : SlotVerdict), s.stepDue 4 = true → s.vig.causes = [] →
    (sfdpBoot boot && sfdpRecord record) = false →
    Runs (.stageStep4 boot record a b) s [.mod, .flash] fun t =>
      t.mod.stageFault = (if s.mod.stageFault = 0 then 5 else s.mod.stageFault) ∧ t.mod.done = s.mod.done)

/-- R58, R59, R89, R119, R136, R147, R457: Stage step 5, which runs alongside step 4, trains DDR4 or is held with DDR, and step 6 loads the recipe into every
unit: outside DEPLOYED the armed pairs are the recipe's, in DEPLOYED none is disarmed, and every populated port is HELD. -/
def Obligations.StageSteps5And6 : Prop :=
  (∀ s : State, s.stepDue 5 = true → s.mod.done.length < 9 → s.links.straps.getLsbD 5 = false →
    strapGib s.links.straps ≤ 16 →
    Runs (.stageStep5 true) s [.mod, .links] fun t =>
      t.links.trained = true ∧ t.mod = { s.mod with done := s.mod.done ++ [5], stageStep := 5, inStep9 := false }) ∧
  (∀ s : State, s.stepDue 5 = true → s.vig.causes = [] →
    Runs (.stageStep5 false) s [.mod] fun t =>
      t.mod = { s.mod with stageFault := if s.mod.stageFault = 0 then 4 else s.mod.stageFault, inStep9 := false }) ∧
  (∀ (s : State) (r : Recipe), s.stageNext = some 6 → s.mod.done.length < 9 → s.rcp.pendingRcp = some r →
    (s.vig.wrongA ||| s.vig.wrongB) &&& (s.vig.armed ||| r.tamperMask) = 0 →
    Runs .stageStep6 s (.mod :: .vig :: .rcp :: .fabric :: .ports :: .spw :: talkParts) fun t =>
      t.rcp = { s.rcp with recipe := some r, pendingRcp := none }
        ∧ t.vig = { s.vig with armed := if s.life.state = 3 then s.vig.armed ||| r.tamperMask else r.tamperMask }
        ∧ t.fab.cells = r.cells ∧ t.fab.guards = r.guards ∧ t.sch.acc = r.acc ∧ t.sch.ctr = r.ctr
        ∧ (∀ e ∈ r.ports, (t.port e.port).state = .held ∧ (t.port e.port).entry.isSome = true)
        ∧ t.spw.running = true ∧ t.mod = { s.mod with done := s.mod.done ++ [6], stageStep := 6, inStep9 := false })

/-- R64, R69, R140: Stage step 7, with device keys, gives every kept field its value in the anchored snapshot when that
passes every check, but for a LEAD above 16, whose pristine value it takes and which SNAP_REJECT shows; a snapshot that
does not pass leaves every kept field pristine, and SNAP_INVALID and SNAP_RECIPE_MISMATCH show why; without an anchored
snapshot, or without device keys, every kept field is pristine. Each such Stage completes step 7.
R64, R302: Stage step 8 without device keys reads no journal and leaves the counters as they are. With keys, an anchor
that is not valid, an erased ring, no checkpoint and no ratchet fuse blown, it starts every counter at its epoch-0 value
and writes the anchor.
The clauses keep to the model's readings where the spec leaves them open (assumption log 41, 43, 48, 87). -/
def Obligations.StageSteps7And8 : Prop :=
  (∀ (s : State) (x : Snapshot), s.stageNext = some 7 → s.mod.done.length < 9 → s.hasKeys = true → s.snapCheck = .accepted x →
    Runs .stageStep7 s [.kept, .mod, .rcp] fun t =>
      t.kept.irqEn = x.irqEn.truncate 13 ∧ t.kept.attnEn = x.attnEn.truncate 4
        ∧ t.kept.lead = (if 16 < x.lead.toNat % 32 then s.pristineKept.lead else x.lead.toNat % 32)
        ∧ t.mod.cause = { s.mod.cause with snapReject := decide (16 < x.lead.toNat % 32) }
        ∧ t.rcp.snapStale = false ∧ t.mod.done = s.mod.done ++ [7] ∧ t.mod.stageStep = 7) ∧
  (∀ (s : State) (invalid mismatch : Bool), s.stageNext = some 7 → s.mod.done.length < 9 → s.hasKeys = true →
    s.snapCheck = .refused invalid mismatch →
    Runs .stageStep7 s [.kept, .mod, .rcp] fun t =>
      t.kept = s.pristineKept
        ∧ t.mod.cause = { s.mod.cause with pristine := true, snapInvalid := invalid, snapMismatch := mismatch }
        ∧ t.mod.done = s.mod.done ++ [7] ∧ t.mod.stageStep = 7) ∧
  (∀ s : State, s.stageNext = some 7 → s.mod.done.length < 9 → s.hasKeys = true → s.snapCheck = .absent →
    Runs .stageStep7 s [.kept, .mod, .rcp] fun t =>
      t.kept = s.pristineKept ∧ t.mod.cause = { s.mod.cause with pristine := true, snapInvalid := s.foreignSnap }
        ∧ t.mod.done = s.mod.done ++ [7] ∧ t.mod.stageStep = 7) ∧
  (∀ s : State, s.stageNext = some 7 → s.mod.done.length < 9 → s.hasKeys = false →
    Runs .stageStep7 s [.kept, .mod, .rcp] fun t =>
      t.kept = s.pristineKept ∧ t.mod.cause = { s.mod.cause with pristine := true }
        ∧ t.mod.done = s.mod.done ++ [7] ∧ t.mod.stageStep = 7) ∧
  (∀ s : State, s.stageNext = some 8 → s.mod.done.length < 9 → s.hasKeys = false →
    Runs .stageStep8 s [.mod] fun t => t.mod.done = s.mod.done ++ [8] ∧ t.mod.stageStep = 8) ∧
  (∀ s : State, s.stageNext = some 8 → s.mod.done.length < 9 → s.hasKeys = true → s.vig.anchorOk = false →
    s.flash.ring = [] → s.flash.ckpt0 = none → s.flash.ckpt1 = none → s.otp.ratchet = 0 →
    Runs .stageStep8 s [.mod, .cnt, .vig] fun t =>
      t.cnt.ready = true ∧ t.cnt.cache = [] ∧ t.cnt.gcache = [] ∧ t.cnt.headSeq = 0
        ∧ t.vig = { s.vig with headSeq := 0, chain := s.chainZero, anchorOk := true, buffer := [] }
        ∧ t.mod.done = s.mod.done ++ [8] ∧ t.mod.stageStep = 8)

/-- R58, R250, R251, R270: Stage step 9 starts every channel the recipe enables and has each Proofer instance that passed
its test wait for its instantiation.
The clauses keep to the model's readings where the spec leaves them open (assumption log 29). -/
def Obligations.StageStep9 : Prop :=
  ∀ s : State, s.stageNext = some 9 → s.mod.inStep9 = false → (∀ i < 4, s.inst i = .start) →
    (∀ o ∈ s.sch.ops, o.phase ≠ .gather) → (∀ u ∈ shaUnits, (s.unit u).st = .active) →
    (s.chanOn .a || s.chanOn .b) = true → s.ent.a.state = 0 → s.ent.b.state = 0 →
    s.ent.a.wasFailed = false → s.ent.b.wasFailed = false →
    Runs (.stageStep9 0 0 0 0 0) s (.mod :: .ent :: .prf :: talkParts) fun t =>
      t.mod.inStep9 = true ∧ t.mod.begun = insertNew s.mod.begun 9 ∧ t.ent.forming = true
        ∧ t.ent.a.state = (if s.chanOn .a then 1 else 0) ∧ t.ent.b.state = (if s.chanOn .b then 1 else 0)
        ∧ ∀ i < 4, t.inst i = { Prf.start with due := true }

/-- R47, R58, R64, R71, R349: Stage step 10 opens the Larder from the header that stands and ends Stage; SERVICE is
entered once Stage is done, no cause is recorded and GO is given where the recipe requires it, and every populated port
begins its reset with a charge period. -/
def Obligations.StageEndsInService : Prop :=
  (∀ s : State, s.stageNext = some 10 → s.mod.done.length = 9 → s.vig.causes = [] → s.hasKeys = false →
    Runs (.stageStep10 ⟨true, true⟩ true) s [.mod, .irq] fun t =>
      t.mod.stageDone = true ∧ t.mod.stageStep = 10 ∧ t.ldr = s.ldr) ∧
  (∀ (s : State) (x : HeaderReads) (i : Nat) (h : Header), s.stageNext = some 10 → s.mod.done.length = 9 → s.vig.causes = [] →
    s.hasKeys = true → s.pickHeader x = some (i, h) →
    Runs (.stageStep10 x true) s [.mod, .ldr, .irq] fun t => t.mod.stageDone = true ∧ t.ldr = s.ldr.opened i h) ∧
  (∀ s : State, s.running = true → s.mode = .stage → s.mod.preludeOn = false → s.mod.stageDone = true →
    s.vig.causes = [] → s.goGiven = true →
    Runs .enterService s (.mode :: .mod :: .ports :: .glz :: .spc :: .ldr :: .msp :: talkParts) fun t =>
      t.mode = .service ∧ t.mod = { s.mod with goReq := false } ∧ t.glz.state = s.glzIdle
        ∧ ∀ p, (s.port p).entry.isSome = true → (t.port p).state = .charge ∧ (t.port p).resetDue = true)

/-! ## Registers -/

/-- R14, R19: a read of an RC field answers its word and leaves the state that the field's clearing leaves; a read of the
lowest word of a wide value latches every word above it for its requester.
The clauses keep to the model's readings where the spec leaves them open (assumption log 27). -/
def Obligations.ReadsHaveTheirSideEffects : Prop :=
  (∀ (s u : State) (r : Requester) (off : Nat) (w : Word), s.running = true → s.hears r = true → off % 4 = 0 →
    s.offLoaded off = true → s.reg r off = some (.clears w u) →
    ∃ t, exec (.rcFieldRead r off false) s = .next t ∧ KeepsBut [.out, .irq] u t ∧ .readData r [w] ∈ t.out) ∧
  (∀ (s u : State) (r : Requester) (off : Nat) (w : Word) (ws : List Word), s.running = true → s.hears r = true →
    off % 4 = 0 → s.offLoaded off = true → s.reg r off = some (.lowest w ws u) →
    ∃ t, exec (.wideValueLowRead r off false) s = .next t ∧ KeepsBut [.out, .irq, .hold] u t
      ∧ .readData r [w] ∈ t.out ∧ ∀ i (h : i < ws.length), t.held r (off + 4 + 4 * i) = ws[i])

/-- R14, R19, R479, R484: reading STS_REG_WRITE_REJECTS answers and clears it, and an 8-byte read of TICK_NOW answers
both of its words in one cycle. -/
def Obligations.CounterAndTickReads : Prop :=
  (∀ (s : State) (r : Requester), s.running = true → s.hears r = true → s.stepDone 1 = true →
    Runs (.rcFieldRead r 0x300000 false) s [.out, .sts] fun t =>
      .readData r [s.sts.rejects] ∈ t.out ∧ t.sts.rejects = 0) ∧
  (∀ (s : State) (r : Requester), s.running = true → s.hears r = true → s.stepDone 1 = true →
    Runs (.wideValueLowRead r 0x8 true) s [.out, .hold] fun t =>
      .readData r [lowWord s.tick, highWord s.tick] ∈ t.out)

/-- R45, R173, R264, R311, R485: the reads with a row of their own: MOD_QUAR_CAUSE records which requester has read the
cause, and FAB_CELL_OUT0, CNT_COUNT_LO, ENT_x_EST_SEQ and STS_CTX_FULL latch the words above theirs. -/
def Obligations.ReadsWithRowsOfTheirOwn : Prop :=
  (∀ (s : State) (r : Requester), s.running = true → s.hears r = true → s.mode = .quarantine →
    Runs (.modQuarCauseRead r) s [.out, .mod] fun t =>
      .readData r [s.quarWord] ∈ t.out
        ∧ t.mod = { s.mod with readHost := s.mod.readHost || r == .pcie, readMsp := s.mod.readMsp || r == .msp }) ∧
  (∀ (s : State) (r : Requester), s.running = true → s.hears r = true → s.rcpLoaded = true →
    Runs (.fabCellOut0Read r) s [.out, .hold] fun t =>
      .readData r [s.cellWord 0] ∈ t.out ∧ ∀ i < 31, t.held r (0x48104 + 4 * i) = s.cellWord (i + 1)) ∧
  (∀ (s : State) (r : Requester), s.running = true → s.hears r = true → s.mod.begun.contains 8 = true →
    Runs (.cntCountLoRead r) s [.out, .hold] fun t =>
      .readData r [BitVec.ofNat 32 (s.visibleCount s.cnt.sel)] ∈ t.out
        ∧ t.held r 0x160028 = high48 (s.visibleCount s.cnt.sel)
        ∧ t.held r 0x16002C = BitVec.ofNat 32 (s.limit s.cnt.sel)) ∧
  (∀ (s : State) (r : Requester) (ch : Channel), s.running = true → s.hears r = true → s.mod.begun.contains 9 = true →
    Runs (.entEstSeqRead r ch) s [.out, .hold] fun t =>
      .readData r [(s.chan ch).estSeq] ∈ t.out
        ∧ t.held r ((if ch = .a then 0x140040 else 0x140060) + 4) = BitVec.ofNat 32 (s.chan ch).estBits
        ∧ t.held r ((if ch = .a then 0x140040 else 0x140060) + 8) = BitVec.ofNat 32 (s.chan ch).estOnes
        ∧ t.held r ((if ch = .a then 0x140040 else 0x140060) + 12) = BitVec.ofNat 32 (s.chan ch).estPairs
        ∧ t.held r ((if ch = .a then 0x140040 else 0x140060) + 16) = BitVec.ofNat 32 (s.chan ch).estAgree) ∧
  (∀ (s : State) (r : Requester), s.running = true → s.hears r = true → s.stepDone 1 = true →
    Runs (.stsCtxFullRead r) s [.out, .hold, .sts] fun t =>
      .readData r [lowWord s.sts.ctxFull] ∈ t.out ∧ t.held r 0x300024 = highWord s.sts.ctxFull ∧ t.sts.ctxFull = 0)

/-- R278, R280: RNG_DATA hands out four octets of the instance that serves its readers, each once, or 0 with the sticky
EMPTY_READ. -/
def Obligations.RngDataReads : Prop :=
  (∀ (s : State) (r : Requester) (i : Nat), s.running = true → s.hears r = true → s.stepDone 9 = true →
    s.server 0 = some i → 4 ≤ (s.inst i).buf.length →
    Runs (.rngDataRead r) s [.out, .prf] fun t =>
      .readData r [BitVec.ofNat 32 (leNat ((s.inst i).buf.take 4))] ∈ t.out
        ∧ t.prf = vecSet s.prf i { s.inst i with buf := (s.inst i).buf.drop 4 }) ∧
  (∀ (s : State) (r : Requester), s.running = true → s.hears r = true → s.stepDone 9 = true →
    (∀ i, s.server 0 = some i → (s.inst i).buf.length < 4) →
    Runs (.rngDataRead r) s [.out, .rng] fun t => .readData r [0] ∈ t.out ∧ t.rngEmpty = true)

/-- R480–R482: a read of a hole gives 0 and a write to one has no effect, and both are counted; a BAR0 request of a wrong
width is refused whole, a read with Completer Abort, and is logged and counted. -/
def Obligations.HolesAndWidths : Prop :=
  (∀ (s : State) (r : Requester) (off : Nat), s.running = true → s.hears r = true → off % 4 = 0 →
    s.reg r off = none → Runs (.holeAccess r off false) s [.out, .sts] fun t =>
      (t.out.filter fun o => !o.due) = (s.out.filter fun o => !o.due) ++ [.readData r [0]]
        ∧ t.sts.unmapped = satInc s.sts.unmapped) ∧
  (∀ (s : State) (r : Requester) (off : Nat), s.running = true → s.hears r = true → off % 4 = 0 →
    s.reg r off = none → Runs (.holeAccess r off true) s [.sts] fun t => t.sts.unmapped = satInc s.sts.unmapped) ∧
  (∀ (s : State) (off : Nat), s.running = true →
    Runs (.bar0BadWidth off true) s [.out, .sts] fun t =>
      .aer aerAbort off ∈ t.out ∧ t.sts.widthErr = satInc s.sts.widthErr) ∧
  (∀ (s : State) (off : Nat), s.running = true →
    Runs (.bar0BadWidth off false) s [.out, .sts] fun t =>
      .aer aerAbort off ∈ t.out ∧ .completerAbort ∈ t.out ∧ t.sts.widthErr = satInc s.sts.widthErr)

/-- R17, R418, R480, R481, R486: what a register write does: RW1C bits of GLB_IRQ_STAT clear where 1 is written; a LEAD
above 16 is discarded whole and counted, one in range is kept and starts the snapshot's second; a write to a hole is
counted; and an 8-byte write applies both of its words (here a ring base of a DISABLED queue) or neither.
The clauses keep to the model's readings where the spec leaves them open (assumption log 69, 70). -/
def Obligations.RegisterWrites : Prop :=
  (∀ (s : State) (w : Word), s.running = true → s.stepDone 1 = true → s.quiet →
    Runs (.registerWrite .pcie 0x10 w none) s [.irq] fun t => t.irqStat = s.irqStat &&& ~~~ (w.truncate 13 : BitVec 13)) ∧
  (∀ (s : State) (w : Word), s.running = true → s.stepDone 6 = true → s.quiet → fld w 4 0 ≤ 16 → fld w 4 0 ≠ s.kept.lead →
    Runs (.registerWrite .pcie 0x2A0000 w none) s [.kept, .mod] fun t =>
      t.kept = { s.kept with lead := fld w 4 0 } ∧ t.mod = { s.mod with snapTimer := some s.tick }) ∧
  (∀ (s : State) (w : Word), s.running = true → s.stepDone 6 = true → s.quiet → 16 < fld w 4 0 →
    Runs (.registerWrite .pcie 0x2A0000 w none) s [.sts] fun t => t.sts.rejects = satInc s.sts.rejects) ∧
  (∀ (s : State) (off : Nat) (w : Word), s.running = true → s.quiet → off % 4 = 0 → s.reg .pcie off = none →
    Runs (.registerWrite .pcie off w none) s [.sts] fun t => t.sts.unmapped = satInc s.sts.unmapped) ∧
  (∀ (s : State) (lo hi : Word), s.running = true → s.quiet → s.stepDone 6 = true → (s.queue 0).state ≠ 0 →
    Runs (.registerWrite .pcie 0x200010 lo (some hi)) s [.sts] fun t => t.sts.rejects = satInc s.sts.rejects) ∧
  (∀ (s : State) (lo hi : Word), s.running = true → s.quiet → s.stepDone 6 = true → (s.queue 0).state = 0 →
    Runs (.registerWrite .pcie 0x200010 lo (some hi)) s [.queues] fun t => (t.queue 0).sqBase = hi ++ lo)

/-- R486, R487: GLB_IRQ_EN takes its 13 bits; a change starts the snapshot's second, and the device vector has a message
when a condition that stands is newly enabled. -/
def Obligations.IrqEnableWrites : Prop :=
  (∀ (s : State) (v : Word), s.running = true → s.stepDone 1 = true →
    (v.truncate 13 : BitVec 13) ≠ s.kept.irqEn → (v.truncate 13 : BitVec 13) &&& ~~~ s.kept.irqEn &&& s.irqStat = 0 →
    Runs (.glbIrqEnWrite .pcie v) s [.kept, .mod] fun t =>
      t.kept = { s.kept with irqEn := v.truncate 13 } ∧ t.mod = { s.mod with snapTimer := some s.tick }) ∧
  (∀ (s : State) (v : Word), s.running = true → s.stepDone 1 = true → s.vectorMasked 1024 = false → s.canMaster = true →
    (v.truncate 13 : BitVec 13) &&& ~~~ s.kept.irqEn &&& s.irqStat ≠ 0 →
    Runs (.glbIrqEnWrite .pcie v) s [.kept, .mod, .irq] fun t =>
      t.kept = { s.kept with irqEn := v.truncate 13 } ∧ .msix 1024 ∈ t.out ∧ t.sts.devMsgs = satInc s.sts.devMsgs) ∧
  (∀ (s : State) (v : Word), s.running = true → s.hears .msp = true →
    Runs (.glbIrqEnWrite .msp v) s [.sts, .msp] fun t =>
      t.sts.rejects = satInc s.sts.rejects ∧ t.msp = { s.msp with reject := true })

/-- R466–R471: a maintenance SPI READ whose header and CHECK are right answers its words and their DCHECK; a WRITE whose
length is right too is judged word by word (here MSP_ATTN_EN); a wrong CHECK has no effect but its error bit and count.
The clauses keep to the model's readings where the spec leaves them open (assumption log 72). -/
def Obligations.MaintenanceFrames : Prop :=
  (∀ (s u : State) (h a : Word), s.running = true → s.hears .msp = true → mspHeaderOk h = true → mspOp h = 1 →
    (s.mspReadWords a.toNat (mspCount h)).2 = u → u.quiet →
    ∃ t, exec (.mspRead [h, a, crc32c (frameOctets [h, a])] (mspLength h)) s = .next t ∧ KeepsBut [.out, .msp, .irq] u t
      ∧ t.msp.frames = satInc u.msp.frames
      ∧ .miso ((s.mspReadWords a.toNat (mspCount h)).1
          ++ [crc32c (frameOctets (s.mspReadWords a.toNat (mspCount h)).1)]) ∈ t.out) ∧
  (∀ (s : State) (w : Word), s.running = true → s.hears .msp = true → s.quiet → (w.truncate 4 : BitVec 4) ≠ s.kept.attnEn →
    Runs (.mspWrite [0x02010000, 0x2E0008, w, crc32c (frameOctets [0x02010000, 0x2E0008, w])] 128) s
        [.msp, .kept, .mod] fun t =>
      t.kept = { s.kept with attnEn := w.truncate 4 } ∧ t.msp = { s.msp with frames := satInc s.msp.frames }
        ∧ t.mod = { s.mod with snapTimer := some s.tick }) ∧
  (∀ (s : State) (h a w c : Word), s.running = true → s.hears .msp = true → s.quiet → mspHeaderOk h = true → mspOp h = 2 →
    mspCount h = 1 → c ≠ crc32c (frameOctets [h, a, w]) →
    Runs (.mspWrite [h, a, w, c] 128) s [.msp] fun t =>
      t.msp = { s.msp with checkErr := true, errors := satInc s.msp.errors })

/-! ## Descriptors -/

/-- R369, R371: a descriptor that fails a check completes with the status of the first check it fails, and has no effect:
it takes no context, and nothing but its queue and its completion changes.
The clauses keep to the model's readings where the spec leaves them open (assumption log 11). -/
def Obligations.DescriptorRefusals : Prop :=
  ∀ (s : State) (q : Nat) (h : Fetched) (st : Status) (b : Option Bytes) (x y : EngineResult) (c : Nat × Instr),
    s.running = true → s.quiet → s.canMaster = true → (s.queue q).buf.head? = some h → s.winner = some q →
    s.hostUsed < 3584 → (∀ f ∈ (s.queue q).buf, opcodeClass f.desc.opcode ≠ none) →
    c ∈ [(0x01, .verify q), (0x10, .consume q), (0x11, .increment q), (0x30, .tagRead q), (0x31, .tagWrite q),
      (0x40, .identify q b), (0x42, .anchorAck q b x), (0x43, .limitSet q), (0x44, .recordRead q),
      (0x45, .recordWrite q b), (0x46, .recordFree q), (0x47, .issuerSet q b x y)] →
    h.desc.opcode = c.1 → s.refusal q h.desc = some st →
    Runs c.2 s talkParts fun t =>
      s.entryOut q h.desc st [] ∈ t.out ∧ (t.queue q).buf = (s.queue q).buf.drop 1 ∧ t.sch.ops = s.sch.ops

/-- R36, R370, R382: an operation on a position that passes its checks holds a context and waits in its port's queue; a
VERIFY MODE 0 takes the place of the authentication that was due.
The clauses keep to the model's readings where the spec leaves them open (assumption log 22). -/
def Obligations.PositionDescriptors : Prop :=
  (∀ (s : State) (q : Nat) (h : Fetched), s.Begins q 0x01 h → s.posGate h.desc h.desc.unverified = none →
    h.desc.param0 = 0 → s.auth h.desc.port h.desc.position = none →
    Runs (.verify q) s [.queues, .sch, .ports] fun t =>
      { s.newOp q h with phase := .auth } ∈ t.sch.ops ∧ s.freeCtx ∈ (t.port h.desc.port).hostq
        ∧ (t.pos h.desc.port h.desc.position).authAt = none ∧ (t.queue q).buf = (s.queue q).buf.drop 1) ∧
  (∀ (s : State) (q : Nat) (h : Fetched), s.Begins q 0x01 h → s.posGate h.desc h.desc.unverified = none →
    h.desc.param0 = 1 → (s.pos h.desc.port h.desc.position).session.isSome = true →
    Runs (.verify q) s [.queues, .sch, .ports] fun t =>
      { s.newOp q h with phase := .port } ∈ t.sch.ops ∧ s.freeCtx ∈ (t.port h.desc.port).hostq
        ∧ (t.queue q).buf = (s.queue q).buf.drop 1) ∧
  (∀ (s : State) (q : Nat) (h : Fetched), s.Begins q 0x30 h → s.posGate h.desc h.desc.unverified = none →
    Runs (.tagRead q) s [.queues, .sch, .ports] fun t =>
      { s.newOp q h with phase := .port } ∈ t.sch.ops ∧ s.freeCtx ∈ (t.port h.desc.port).hostq
        ∧ (t.queue q).buf = (s.queue q).buf.drop 1) ∧
  (∀ (s : State) (q : Nat) (h : Fetched), s.Begins q 0x31 h → s.posGate h.desc h.desc.unverified = none →
    Runs (.tagWrite q) s [.queues, .sch, .ports] fun t =>
      { s.newOp q h with phase := .port } ∈ t.sch.ops ∧ s.freeCtx ∈ (t.port h.desc.port).hostq
        ∧ (t.queue q).buf = (s.queue q).buf.drop 1) ∧
  (∀ (s : State) (q : Nat) (h : Fetched) (st : Status) (c : Nat × Instr),
    c ∈ [(0x01, .verify q), (0x30, .tagRead q), (0x31, .tagWrite q)] → s.Begins q c.1 h →
    s.posGate h.desc h.desc.unverified = some st →
    Runs c.2 s opParts fun t =>
      s.entryOut q h.desc st (if c.1 = 0x01 then s.verifyResult (s.newOp q h) else []) ∈ t.out
        ∧ t.sch.ops = s.sch.ops ∧ t.ldr.records = s.ldr.records)

/-- R29, R286, R294–R296, R306: a CONSUME, an INCREMENT or a LIMIT_SET whose value is in its limits has its journal entry,
of the next SEQ, begun at once by an idle counter unit whose window is open, and is past its point of no return. -/
def Obligations.CounterDescriptors : Prop :=
  (∀ (s : State) (q n : Nat) (h : Fetched), s.Begins q 0x10 h → s.commitsNow →
    s.posGate h.desc (some .retryLater) = none → (s.pos h.desc.port h.desc.position).record = some n →
    s.pageThere (recordPage n) → s.counterExists n = true → s.count n < s.limit n → s.count n < max48 →
    Runs (.consume q) s [.queues, .sch, .cnt, .ldr] fun t =>
      t.cnt.busy = some (s.hostEntry 1 1 n (s.count n + 1)) ∧ t.count n = s.count n ∧ t.ldr.records = s.ldr.records
        ∧ { s.newOp q h with phase := .commit, record := n, pastPoint := true } ∈ t.sch.ops) ∧
  (∀ (s : State) (q : Nat) (h : Fetched), s.Begins q 0x11 h → s.commitsNow →
    s.count h.desc.target.toNat < s.limit h.desc.target.toNat → s.count h.desc.target.toNat < max48 →
    Runs (.increment q) s [.queues, .sch, .cnt] fun t =>
      t.cnt.busy = some (s.hostEntry 1 2 h.desc.target.toNat (s.count h.desc.target.toNat + 1))
        ∧ t.count h.desc.target.toNat = s.count h.desc.target.toNat
        ∧ { s.newOp q h with phase := .commit, record := h.desc.target.toNat, pastPoint := true } ∈ t.sch.ops) ∧
  (∀ (s : State) (q : Nat) (h : Fetched), s.Begins q 0x11 h → s.cnt.queue = [] → s.cnt.busy = none →
    s.cnt.ready = true → s.mode = .service → s.limit h.desc.target.toNat ≤ s.count h.desc.target.toNat →
    Runs (.increment q) s opParts fun t =>
      s.entryOut q h.desc .limitReached (countResult h.desc.target.toNat (s.count h.desc.target.toNat)) ∈ t.out
        ∧ t.sch.ops = s.sch.ops) ∧
  (∀ (s : State) (q : Nat) (h : Fetched), s.Begins q 0x43 h → s.commitsNow → globalBase ≤ h.desc.target.toNat →
    s.count h.desc.target.toNat ≤ h.desc.param1.toNat →
    Runs (.limitSet q) s [.queues, .sch, .cnt] fun t =>
      t.cnt.busy = some (s.hostEntry 2 1 h.desc.target.toNat h.desc.param1.toNat)
        ∧ { s.newOp q h with phase := .commit, record := h.desc.target.toNat, pastPoint := true } ∈ t.sch.ops)

/-- R31, R79, R296: a valid latch makes the entry durable in the commit buffer, and the counter cache takes its value: an
INCREMENT and a LIMIT_SET complete with it; a CONSUME goes on to its port, and its new COUNT does not show yet.
The clauses keep to the model's readings where the spec leaves them open (assumption log 77). -/
def Obligations.CommitsComplete : Prop :=
  (∀ (s : State) (e : Entry) (c : Commit) (o : Op), s.running = true → s.quiet → s.canMaster = true →
    s.cnt.busy = some e → s.cnt.queue = [c] → c.owner = .host o.ctx → s.op o.ctx = some o → o.desc.opcode = 0x11 →
    e.typ = 1 → e.cause = 2 → e.id = o.record → (∀ x ∈ s.sch.ops, x.ctx ≠ o.ctx → x.committed = true → x.record ≠ e.id) →
    Runs .commitEntryValid s (.cnt :: .vig :: opParts) fun t =>
      t.vig = { s.vig with buffer := s.vig.buffer ++ [e] } ∧ t.cnt.busy = none ∧ t.cnt.queue = []
        ∧ t.cnt.headSeq = e.seq ∧ t.cnt.headChain = s.chainNext s.cnt.headChain e ∧ t.count e.id = e.value
        ∧ t.visibleCount e.id = e.value ∧ s.entryOut o.q o.desc .ok (countResult e.id e.value) ∈ t.out
        ∧ t.op o.ctx = none ∧ t.ldr.records = s.ldr.records) ∧
  (∀ (s : State) (e : Entry) (c : Commit) (o : Op), s.running = true → s.quiet → s.canMaster = true →
    s.cnt.busy = some e → s.cnt.queue = [c] → c.owner = .host o.ctx → s.op o.ctx = some o → o.desc.opcode = 0x43 →
    o.committed = false → e.typ = 2 → e.id = o.record →
    Runs .commitEntryValid s (.cnt :: .vig :: opParts) fun t =>
      t.vig = { s.vig with buffer := s.vig.buffer ++ [e] } ∧ t.cnt.busy = none ∧ t.limit e.id = e.value
        ∧ t.count e.id = s.count e.id ∧ s.entryOut o.q o.desc .ok (countResult e.id e.value) ∈ t.out
        ∧ t.op o.ctx = none) ∧
  (∀ (s : State) (e : Entry) (c : Commit) (o : Op), s.running = true → s.quiet →
    s.cnt.busy = some e → s.cnt.queue = [c] → c.owner = .host o.ctx → s.op o.ctx = some o → o.desc.opcode = 0x10 →
    e.typ = 1 → e.cause = 1 → tabFind s.cnt.visible e.id = none → s.unitIs o.desc.port .active = true →
    (s.port o.desc.port).state ≠ .fault → (s.pos o.desc.port o.desc.position).session.isSome = true →
    Runs .commitEntryValid s [.cnt, .vig, .sch, .ports] fun t =>
      t.vig = { s.vig with buffer := s.vig.buffer ++ [e] } ∧ t.cnt.busy = none ∧ t.count e.id = e.value
        ∧ t.visibleCount e.id = s.count e.id ∧ o.ctx ∈ (t.port o.desc.port).hostq
        ∧ { o with committed := true, count := e.value, phase := .port } ∈ t.sch.ops)

/-- R338, R353, R355: RECORD_READ answers its range, RECORD_WRITE changes LABEL and USER of a BOUND record and RECORD_FREE
makes one FREE and drops its index entry, each with its pages in the cache and no other record changed. -/
def Obligations.RecordDescriptors : Prop :=
  (∀ (s : State) (q : Nat) (h : Fetched), s.Begins q 0x44 h → s.ldr.isOpen = true →
    h.desc.param1.toNat + h.desc.bufLen ≤ 256 * s.ldr.capacity → h.desc.param1.toNat + h.desc.bufLen ≤ 0x04000000 →
    h.desc.param1.toNat % 4096 + h.desc.bufLen ≤ 4096 → 0 < h.desc.bufLen → s.pageThere (h.desc.param1.toNat / 4096) →
    Runs (.recordRead q) s opParts fun t =>
      .dmaWrite h.desc.bufAddr ((List.range h.desc.bufLen).map fun i => s.windowByte (h.desc.param1.toNat + i)) ∈ t.out
        ∧ s.entryOut q h.desc .ok (leBytes 4 h.desc.bufLen) ∈ t.out ∧ t.ldr.records = s.ldr.records) ∧
  (∀ (s : State) (q : Nat) (h : Fetched) (b : Bytes), s.Begins q 0x45 h → h.desc.target.toNat < s.ldr.capacity →
    0x80 ≤ h.desc.param0.toNat → h.desc.param0.toNat + h.desc.bufLen ≤ 0x100 →
    (s.record h.desc.target.toNat).state = 1 → s.ldr.locked.contains h.desc.target.toNat = false →
    s.pageThere (recordPage h.desc.target.toNat) →
    Runs (.recordWrite q (some b)) s opParts fun t =>
      t.record h.desc.target.toNat = (s.record h.desc.target.toNat).withTail
          (overlay (s.record h.desc.target.toNat).tail (h.desc.param0.toNat - 0x80) (padTo h.desc.bufLen b))
        ∧ (∀ m, m ≠ h.desc.target.toNat → t.record m = s.record m) ∧ s.entryOut q h.desc .ok [] ∈ t.out) ∧
  (∀ (s : State) (q : Nat) (h : Fetched), s.Begins q 0x46 h → h.desc.target.toNat < s.ldr.capacity →
    (s.record h.desc.target.toNat).state = 1 → s.counterClear h.desc.target.toNat = true →
    s.mappedAt h.desc.target.toNat = none → s.ldr.locked.contains h.desc.target.toNat = false →
    s.pageThere (recordPage h.desc.target.toNat) → s.pageThere (indexPageOf (s.record h.desc.target.toNat).tagId) →
    Runs (.recordFree q) s opParts fun t =>
      t.record h.desc.target.toNat = recordFree ∧ (∀ m, m ≠ h.desc.target.toNat → t.record m = s.record m)
        ∧ t.indexFind (s.record h.desc.target.toNat).tagId = none ∧ s.entryOut q h.desc .ok [] ∈ t.out)

/-- R305, R340: an ISSUER_SET whose block is right changes its one entry of the issuer table, under the next ISSUER_GEN,
and waits for the round that makes it durable; a right ANCHOR_ACK commits the floors above their counts first, and with
none the acknowledgement is done at once. Both with an idle ECC engine of the queue's set.
The clauses keep to the model's readings where the spec leaves them open (assumption log 56, 59, 110). -/
def Obligations.IssuerAndToken : Prop :=
  (∀ (s : State) (q k : Nat) (h : Fetched) (b : Bytes), s.Begins q 0x47 h →
    (s.idleEcc (s.affinity q)).isSome = true → (∀ p ∈ issuerPages, s.pageThere p) → s.issuerJudge b = some k →
    s.spw.early = false → s.ldr.holdoff = none →
    Runs (.issuerSet q (some b) .done .done) s [.queues, .sch, .ldr] fun t =>
      t.ldr.issuerGen = (s.ldr.issuerGen + 1) % 2 ^ 32
        ∧ tabGet issuerEmpty t.ldr.issuers k = (if leAt b 4 1 = 1 then
            { id := leAt b 0x18 2, state := 1, gen := (s.ldr.issuerGen + 1) % 2 ^ 32
              key := BitVec.ofNat 512 (beAt b 0x20 64) }
          else { tabGet issuerEmpty s.ldr.issuers k with state := 2 })
        ∧ (∀ j, j ≠ k → tabGet issuerEmpty t.ldr.issuers j = tabGet issuerEmpty s.ldr.issuers j)
        ∧ { s.newOp q h with
              phase := .round, pastPoint := true, count := (s.ldr.issuerGen + 1) % 2 ^ 32, data := b } ∈ t.sch.ops
        ∧ t.ldr.records = s.ldr.records) ∧
  (∀ (s : State) (q : Nat) (h : Fetched) (b : Bytes), s.Begins q 0x42 h →
    (s.idleEcc (s.affinity q)).isSome = true → s.ackOk b = true → s.commitOpen = true → s.cnt.reinitDue = false →
    (∀ e ∈ ackFloors b, e.2 ≤ s.count e.1) →
    Runs (.anchorAck q (some b) .done) s (.mod :: opParts) fun t =>
      t.mod = { s.mod with ackDone := true } ∧ s.entryOut q h.desc .ok (leBytes 2 0) ∈ t.out ∧ t.sch.ops = s.sch.ops) ∧
  (∀ (s : State) (q id v : Nat) (h : Fetched) (b : Bytes), s.Begins q 0x42 h →
    (s.idleEcc (s.affinity q)).isSome = true → s.ackOk b = true → s.commitOpen = true → s.cnt.reinitDue = false → ackFloors b = [(id, v)] → s.count id < v → s.vig.buffer.length < 64 →
    s.cnt.ready = true → s.cnt.queue = [] → s.cnt.busy = none →
    Runs (.anchorAck q (some b) .done) s [.queues, .sch, .cnt] fun t =>
      t.cnt.busy = some (s.hostEntry 1 4 id v)
        ∧ { s.newOp q h with phase := .commit, pastPoint := true, count := 1, offset := 1, data := b } ∈ t.sch.ops)

/-- R97, R281, R472: IDENTIFY answers its signed message, to a host buffer or to the mailbox, and a RANDOM whose instance
holds enough output takes it, each octet once. -/
def Obligations.IdentifyAndRandom : Prop :=
  (∀ (s : State) (q : Nat) (h : Fetched) (b r : Bytes), s.running = true → s.canMaster = true → s.Takes q 0x40 h →
    (s.idleEcc (s.affinity q)).isSome = true → s.attest b = some r →
    Runs (.identify q (some b)) s opParts fun t =>
      .dmaWrite h.desc.bufAddr r ∈ t.out ∧ s.entryOut q h.desc .ok (leBytes 4 160) ∈ t.out ∧ t.sch.ops = s.sch.ops
        ∧ t.ldr.records = s.ldr.records) ∧
  (∀ (s : State) (r : Bytes), s.running = true → s.msp.mbox = some 1 → s.stepDone 1 = true →
    (s.mode = .stage → s.stepDone 3 = true) → s.attest (s.mboxRead 32) = some r →
    Runs .mboxIdentify s [.msp] fun t =>
      t.msp = { s.msp with
        mbox := none, mboxStat := 0, mboxData := mboxWrite s.msp.mboxData r, attn := setBit s.msp.attn 1 true }) ∧
  (∀ (s : State) (q i : Nat) (h : Fetched), s.running = true → s.canMaster = true → s.Takes q 0x20 h → s.prfQuiet →
    h.desc.fresh = false → s.server (randomInst q) = some i → h.desc.bufLen ≤ (s.inst i).buf.length →
    Runs (.random q) s (.prf :: opParts) fun t =>
      .dmaWrite h.desc.bufAddr ((s.inst i).buf.take h.desc.bufLen) ∈ t.out
        ∧ s.entryOut q h.desc .ok (leBytes 4 h.desc.bufLen) ∈ t.out
        ∧ t.prf = vecSet s.prf i { s.inst i with buf := (s.inst i).buf.drop h.desc.bufLen } ∧ t.sch.ops = s.sch.ops)

/-! ## Queues -/

/-- R359, R361–R363, R366: enabling and disabling a queue, its two doorbells, which take effect on a RUNNING queue, and
the message that a coalescing timeout sends.
The clauses keep to the model's readings where the spec leaves them open (assumption log 64). -/
def Obligations.QueueControl : Prop :=
  (∀ (s : State) (q : Nat), s.running = true → s.quiet → q < 1024 → s.stepDone 6 = true → s.mayEnable q = true →
    Runs (.queueEnable q) s [.queues] fun t => { t.queue q with reading := 0 } = (s.queue q).started) ∧
  (∀ (s : State) (q : Nat) (f : Fetched), s.running = true → s.quiet → s.canMaster = true → q < 1024 →
    s.stepDone 6 = true → (s.queue q).state = 1 → (s.queue q).buf = [f] → (s.queue q).evBufs = [] →
    s.inflight q = 0 → s.heldFor q = 0 → (∀ e ∈ s.sch.store, e.1 ≠ q) →
    Runs (.queueDisable q) s talkParts fun t =>
      s.entryOut q f.desc .cancelled [] ∈ t.out ∧ (t.queue q).state = 0 ∧ (t.queue q).enable = false
        ∧ (t.queue q).buf = []) ∧
  (∀ (s : State) (q : Nat) (v : BitVec 64), s.running = true → q < 1024 → (s.queue q).state = 1 →
    v.toNat % 4096 < (s.queue q).size →
    Runs (.sqTailDoorbell q v 4) s [.queues] fun t =>
      { t.queue q with reading := 0 } = { s.queue q with tail := v.toNat % 4096, reading := 0 }) ∧
  (∀ (s : State) (q : Nat) (v : BitVec 64), s.running = true → q < 1024 → (s.queue q).state = 1 →
    (s.queue q).size ≤ v.toNat % 4096 →
    Runs (.sqTailDoorbell q v 8) s talkParts fun t =>
      (t.queue q).state = 3 ∧ (t.queue q).err = 1 ∧ (t.queue q).tail = (s.queue q).tail) ∧
  (∀ (s : State) (q : Nat) (v : BitVec 64), s.running = true → q < 1024 → (s.queue q).state = 1 →
    v.toNat % 4096 < (s.queue q).size →
    (v.toNat % 4096 + (s.queue q).size - (s.queue q).head) % (s.queue q).size ≤ (s.queue q).unread →
    Runs (.cqHeadDoorbell q v 4) s [.queues] fun t =>
      { t.queue q with reading := 0 } = { s.queue q with
        head := v.toNat % 4096
        unread := (s.queue q).unread
          - (v.toNat % 4096 + (s.queue q).size - (s.queue q).head) % (s.queue q).size
        reading := 0 }) ∧
  (∀ (s : State) (q : Nat), s.running = true → q < 1024 → (s.queue q).irqEn = true → (s.queue q).unsent ≠ 0 →
    s.vectorMasked q = false → s.canMaster = true →
    Runs (.irqCoalesceTimeout q) s [.out, .queues, .irq, .links] fun t =>
      .msix q ∈ t.out
        ∧ { t.queue q with reading := 0 } = { s.queue q with unsent := 0, oldest := none, reading := 0 })

/-- R52, R361, R362, R372, R375, R376, R378: the descriptors that a read brings go to the queue's buffer in ring order, the estimate
of the round trip following the sample, and in QUARANTINE complete QUARANTINED where the queue is not of class 5; an error status stops the queue; and EVENT_BUF gives the queue a buffer, which an
event that waits for one fills at once.
The clauses keep to the model's readings where the spec leaves them open (assumption log 44). -/
def Obligations.DescriptorFetch : Prop :=
  (∀ (s : State) (q rtt : Nat) (ds : List Bytes), s.running = true → (s.mode ≠ .quarantine ∨ s.queueClass q = 5) →
    ds.length ≤ (s.queue q).reading → 0 < (s.queue q).reading → (∀ b ∈ ds, s.isLate (parseDesc b) = false ∧ opcodeClass (parseDesc b).opcode ≠ none) →
    (∀ f ∈ (s.queue q).buf, opcodeClass f.desc.opcode ≠ none) →
    Runs (.descriptorReadComplete q (.descriptors ds) rtt) s [.queues] fun t =>
      { t.queue q with reading := 0 } = { s.queue q with
        reading := 0, fetch := ((s.queue q).fetch + ds.length) % (s.queue q).size
        rttNs := min 65535 (rttNext (s.queue q).rttNs rtt)
        buf := (s.queue q).buf ++ ds.map fun b => ⟨parseDesc b, s.tick⟩ }) ∧
  (∀ (s : State) (q rtt : Nat) (b : Bytes), s.running = true → s.canMaster = true → s.mode = .quarantine →
    s.queueClass q ≠ 5 → 0 < (s.queue q).reading → (∀ f ∈ (s.queue q).buf, opcodeClass f.desc.opcode ≠ none) →
    Runs (.descriptorReadComplete q (.descriptors [b]) rtt) s talkParts fun t =>
      .completion q (s.queue q).write (completionEntry (parseDesc b) (s.tick.toNat % 2 ^ 32)
          (((s.queue q).fetch + 1) % (s.queue q).size) Status.quarantined.code (s.queue q).phase []) ∈ t.out
        ∧ (t.queue q).buf = (s.queue q).buf) ∧
  (∀ (s : State) (q rtt : Nat), s.running = true → 0 < (s.queue q).reading →
    Runs (.descriptorReadComplete q .error rtt) s talkParts fun t =>
      (t.queue q).state = 3 ∧ (t.queue q).err = 2 ∧ (t.queue q).buf = (s.queue q).buf) ∧
  (∀ (s : State) (q : Nat) (h : Fetched), s.running = true → (s.queue q).buf.head? = some h → h.desc.opcode = 0x50 →
    s.formRefusal q h.desc = none → (∀ f ∈ (s.queue q).buf, opcodeClass f.desc.opcode ≠ none) →
    (∀ e ∈ s.sch.store, e.1 ≠ q) →
    Runs (.eventBuf q) s [.queues] fun t =>
      (t.queue q).evBufs = (s.queue q).evBufs ++ [h.desc] ∧ (t.queue q).buf = (s.queue q).buf.drop 1) ∧
  (∀ (s : State) (q : Nat) (h : Fetched) (r : Bytes), s.running = true → s.canMaster = true →
    (s.queue q).buf = [h] → h.desc.opcode = 0x50 → s.formRefusal q h.desc = none → (s.queue q).evBufs = [] →
    s.sch.store = [(q, r)] →
    Runs (.eventBuf q) s talkParts fun t =>
      .dmaWrite h.desc.bufAddr r ∈ t.out
        ∧ s.entryOut q h.desc .ok (leBytes 1 (leAt r 0 1) ++ leBytes 1 r.length) ∈ t.out
        ∧ (t.queue q).evBufs = [] ∧ t.sch.store = [])

/-! ## Pages, rounds, locks and engines -/

/-- R343, R344, R350: a fetched page whose check succeeds is in the record cache; one whose check fails in DDR4 and that
flash cannot replace, for its copy there is older or fails too, is POISONED.
R346–R348, R351, R352: a round that may begin and is due takes every dirty page; a verified one makes its header the
current one, an abandoned one keeps its pages dirty, but for those POISONED meanwhile, and holds the next off for 100 ms,
which an event ends; and a lock held too long ends with its label changes withdrawn.
The clauses keep to the model's readings where the spec leaves them open (assumption log 56, 76, 109). -/
def Obligations.PagesAndRounds : Prop :=
  (∀ (s : State) (page : Nat) (chk : PageCheck), s.running = true → s.quiet → s.ldr.faults = [page] →
    s.poisoned page = false → s.ldr.frames.length < 512 → tabGet 0 s.ldr.versions page ≠ 0 → s.inDdr page = true →
    chk.badNode = none → chk.ddrOk = true → chk.ddrCe = false → chk.ddrUe = false →
    (page < 16384 → ∀ k < 16, s.counterClear (16 * page + k) = true) → (∀ o ∈ s.sch.ops, o.phase ≠ .page page) →
    (∀ e ∈ s.auths, e.2.2.stage ≠ .bind ∧ e.2.2.stage ≠ .issuer) →
    Runs (.pageFaultComplete page chk) s [.ldr] fun t =>
      t.cached page = true ∧ t.ldr.faults = [] ∧ t.ldr.cFaultsDdr = satInc s.ldr.cFaultsDdr
        ∧ t.ldr.records = s.ldr.records) ∧
  (∀ (s : State) (page : Nat) (chk : PageCheck), s.running = true → s.quiet → s.ldr.faults = [page] →
    s.poisoned page = false → s.ldr.frames.length < 512 → tabGet 0 s.ldr.versions page ≠ 0 → s.inDdr page = true →
    chk.badNode = none → chk.ddrOk = false → (s.pageNewer page = true ∨ chk.flashOk = false) → chk.ddrCe = false →
    chk.ddrUe = false → (∀ o ∈ s.sch.ops, o.phase ≠ .page page) →
    (∀ e ∈ s.auths, e.2.2.stage ≠ .bind ∧ e.2.2.stage ≠ .issuer) →
    Runs (.pageFaultComplete page chk) s [.ldr, .irq] fun t =>
      t.poisoned page = true ∧ t.ldr.poisonPage = page ∧ t.ldr.faults = [] ∧ t.ldr.integritySeen = true
        ∧ t.ldr.cIntegrity = satInc s.ldr.cIntegrity ∧ (s.stepDone 1 = true → t.irqStat.getLsbD 8 = true)) ∧
  (∀ s : State, s.running = true → s.roundMay = true → s.roundDue = true → s.ldr.poisoned = [] →
    Runs .writebackRoundStart s [.ldr] fun t =>
      (∃ r, t.ldr.running = some r ∧ r.pages = s.ldr.dirty ∧ r.records = s.ldr.records ∧ r.index = s.ldr.index
        ∧ r.issuers = s.ldr.issuers) ∧ t.ldr.dirty = [] ∧ t.ldr.needs = [] ∧ t.ldr.records = s.ldr.records) ∧
  (∀ (s : State) (r : Round), s.running = true → s.quiet → s.ldr.running = some r → r.needs = [] →
    s.recordSuspended = false →
    Runs (.writebackRoundReadback true) s [.ldr, .flash] fun t =>
      (if 1 - s.ldr.header = 0 then t.flash.hdr0 else t.flash.hdr1) = some (s.roundHeader r)
        ∧ t.ldr = { s.ldr with
            running := none, header := 1 - s.ldr.header, round := s.ldr.round + 1, roundFail := false
            cRounds := satInc s.ldr.cRounds, flushNext := false }) ∧
  (∀ (s : State) (r : Round), s.running = true → s.quiet → s.ldr.running = some r → r.needs = [] → s.ldr.dirty = [] →
    s.recordSuspended = false →
    Runs (.writebackRoundReadback false) s [.ldr, .flash, .free, .irq] fun t =>
      t.ldr = { s.ldr with
        running := none, dirty := r.pages.filter fun e => !s.poisoned e.1, holdoff := some (s.tick + 100000)
        roundFail := true, cRoundFails := satInc s.ldr.cRoundFails, flushNext := false }) ∧
  (∀ s : State, s.running = true → Runs .roundHoldoffEnd s [.ldr] fun t => t.ldr = { s.ldr with holdoff := none }) ∧
  (∀ (s : State) (n : Nat) (old : Record), s.running = true → s.quiet → s.ldr.locked = [n] → s.ldr.lockOld = [(n, old)] →
    s.ldr.lockWait = [] → s.ldr.parked = [] → s.glz.commit = none → (s.record n).label ≠ old.label →
    Runs .lockHoldExpire s [.ldr] fun t =>
      t.ldr.locked = [] ∧ t.record n = { s.record n with label := old.label } ∧ ∀ m, m ≠ n → t.record m = s.record m)

/-- R227, R228, R386, R389: a self-test that fails takes its engine OFF in the same cycle and is counted; an engine that
delivers EPUB and Z of the key drawn for an authentication sends it on to KEY_AGREE, and one that finds the certificate
wrong ends it FAILED with its reason. -/
def Obligations.EnginesReport : Prop :=
  (∀ (s : State) (u : Nat), s.running = true → s.quiet → 128 ≤ u → u < 168 → s.unitIs u .active = true →
    (∀ e ∈ s.auths, e.2.2.unit ≠ some u) →
    Runs (.engineSelftest u false) s (.rcp :: talkParts) fun t =>
      t.unit u = { s.unit u with st := .off, passed := false } ∧ (∀ v, v ≠ u → t.unit v = s.unit v)
        ∧ t.sch.selfFails = satInc s.sch.selfFails ∧ t.sch.lastFail = u
        ∧ (s.stepDone 1 = true → t.irqStat.getLsbD 5 = true)) ∧
  (∀ (s : State) (u : Nat), s.running = true → s.quiet →
    Runs (.engineSelftest u true) s [] fun t => t.unit u = s.unit u) ∧
  (∀ (s : State) (u p i : Nat) (a : Auth) (k : BitVec 256), s.running = true → s.quiet →
    (s.auths.find? fun e => e.2.2.unit == some u) = some (p, i, a) → s.auth p i = some a → a.stage = .keys →
    a.owner = .auth → a.priv = some k →
    Runs (.engineOperationComplete u .done) s [.ports] fun t =>
      t.auth p i = some { a with
        z := Config.ecdh k (certTagPub a.cert), epub := Config.publicKey k, stage := .agree, unit := none }) ∧
  (∀ (s : State) (u p i why : Nat) (a : Auth), s.running = true → s.quiet →
    (s.auths.find? fun e => e.2.2.unit == some u) = some (p, i, a) → s.auth p i = some a → a.stage = .verify →
    a.owner = .auth → certLate (s.port p).profile.spuLimitMs a.key a.cert = some why →
    Runs (.engineOperationComplete u .done) s (.ports :: .spc :: opParts) fun t =>
      (t.pos p i).verdict = 3 ∧ (t.pos p i).reason = why ∧ t.auth p i = none ∧ t.ldr.records = s.ldr.records)

/-! ## The Glaze port -/

/-- R435, R436: a right HELLO is answered by a signed HELLO_REPLY, a wrong one with NOT_PERMITTED, one in QUARANTINE with
QUARANTINED; a right PROVE opens the session that its HELLO asked for; a wrong one, and its timeout, end the handshake.
The clauses keep to the model's readings where the spec leaves them open (assumption log 58). -/
def Obligations.GlazeHandshake : Prop :=
  (∀ (s u : State) (body bs : Bytes), s.running = true → s.quiet → s.glzHears = true →
    s.glz.commit = none → s.glz.hushEnd = none → s.glzSoon = false → s.mode ≠ .quarantine →
    s.engineActive eccUnits 0 = true → s.helloOk body = true → s.draw 48 = some (bs, u) →
    Runs (.glzHello body .done .done) s [.glz, .prf, .out] fun t =>
      t.glz = { s.glz with
          framesOk := satInc s.glz.framesOk, lastHello := some s.tick, state := 2, sending := true, nextRate := none
          hand := some { body := body, reply := some (s.helloReply body bs)
                         bnonce := BitVec.ofNat 128 (beNat (bs.take 16))
                         priv := BitVec.ofNat 256 (beNat (bs.drop 16)) } }
        ∧ .glzFrame (sirFrame ([Config.glzReplyType, 0, 0] ++ s.helloReply body bs)) ∈ t.out
        ∧ .glzLed s.glz.rate (sirCells (sirFrame ([Config.glzReplyType, 0, 0] ++ s.helloReply body bs))) ∈ t.out ∧ t.prf = u.prf) ∧
  (∀ (s : State) (body : Bytes), s.running = true → s.quiet → s.glzHears = true →
    s.glz.commit = none → s.glz.hushEnd = none → s.glzSoon = false →
    (s.mode = .quarantine ∨ s.engineActive eccUnits 0 = true ∧ s.helloOk body = false) → body.length ≤ 317 →
    Runs (.glzHello body .done .done) s [.glz, .out] fun t =>
      .glzFrame (sirFrame ([Config.glzReplyType, 0, 0]
          ++ leBytes 2 (if s.mode = .quarantine then Status.quarantined else .notPermitted).code
          ++ List.replicate 161 0)) ∈ t.out
        ∧ t.glz.hand = none ∧ t.glz.session = s.glz.session
        ∧ t.glz.authFails = (if s.mode = .quarantine then s.glz.authFails else satInc s.glz.authFails)) ∧
  (∀ (s : State) (h : GlzHand) (sigL : Bytes), s.running = true → s.quiet → s.glzHears = true →
    s.glz.hand = some h → s.glz.commit = none → s.glz.hushEnd = none → h.proven sigL = true →
    Runs (.glzProve sigL .done) s [.glz, .out] fun t =>
      t.glz = { s.glz with
          framesOk := satInc s.glz.framesOk, hand := none, state := 3, close := false, sending := true
          nextRate := some (s.glzRate h.body)
          session := some
            { loaderId := helloLoader h.body, rights := helloRights h.body
              klb := (s.glzKeys h >>> 128).truncate 128, kbl := (s.glzKeys h).truncate 128
              rate := s.glzRate h.body, lastSeq := 0, stored := [], drops := 0, lastAt := s.tick, staged := [] } }
        ∧ .glzFrame (sirFrame (glzContent ((s.glzKeys h).truncate 128) 0x04 0 [])) ∈ t.out) ∧
  (∀ (s : State) (h : GlzHand) (sigL : Bytes) (c : Instr), s.running = true → s.quiet → s.glz.hand = some h →
    s.glz.state ≠ 0 → s.glz.commit = none →
    (c = .glzProveTimeout ∨ s.glzHears = true ∧ h.proven sigL = false ∧ c = .glzProve sigL .done) →
    Runs c s [.glz] fun t =>
      t.glz.hand = none ∧ t.glz.authFails = satInc s.glz.authFails ∧ t.glz.session = s.glz.session
        ∧ t.glz.state = if s.glz.session.isSome then 3 else 1) ∧
  (∀ (s : State) (h : GlzHand), s.running = true → { s with glz := { s.glz with hand := none } }.quiet →
    s.glz.hand = some h → h.reply = none → s.glz.hushEnd = none →
    Runs .glzHelloEntropyTimeout s [.glz, .out] fun t =>
      t.glz.hand = none
        ∧ .glzFrame (sirFrame ([Config.glzReplyType, 0, 0] ++ leBytes 2 0x15 ++ List.replicate 161 0)) ∈ t.out)

/-- R437–R439: READ, ATTEST and CERT_READ answer what they ask for, under READ and ATTEST rights; DISCARD clears what is
staged; CLOSE answers and ends the session.
The clauses keep to the model's readings where the spec leaves them open (assumption log 58). -/
def Obligations.GlazeRequests : Prop :=
  (∀ (s : State) (f : GlzFrame) (x : GlzSession) (off len : Nat) (chk : PageCheck), s.GlzAsks f x →
    x.may (some 0) = true → s.ldr.isOpen = true → 4 ≤ len → len ≤ 256 → len % 4 = 0 →
    off + len ≤ 256 * s.ldr.capacity → (∀ p ∈ windowPages off len, s.cached p = true) →
    Runs (.glzRead f off len chk) s [.glz, .out] fun t =>
      .glzFrame (sirFrame (x.reply 0x10 .ok ((List.range len).map fun i => s.windowByte (off + i)))) ∈ t.out
        ∧ t.glz = s.glzSending (s.glzReplied x 0x10 .ok ((List.range len).map fun i => s.windowByte (off + i)))) ∧
  (∀ (s : State) (f : GlzFrame) (x : GlzSession) (c : BitVec 256) (r : Bytes), s.GlzAsks f x → x.may (some 3) = true →
    s.attest (beBytes 32 c.toNat) = some r →
    Runs (.glzAttest f c) s [.glz, .out] fun t =>
      .glzFrame (sirFrame (x.reply 0x11 .ok r)) ∈ t.out ∧ t.glz = s.glzSending (s.glzReplied x 0x11 .ok r)) ∧
  (∀ (s : State) (f : GlzFrame) (x : GlzSession) (k : Nat), s.GlzAsks f x → x.may (some 3) = true → k < 4 →
    Runs (.glzCertRead f k) s [.glz, .out] fun t =>
      .glzFrame (sirFrame (x.reply 0x12 .ok (slice s.certWindow (256 * k) 256))) ∈ t.out
        ∧ t.glz = s.glzSending (s.glzReplied x 0x12 .ok (slice s.certWindow (256 * k) 256))) ∧
  (∀ (s : State) (f : GlzFrame) (x : GlzSession), s.GlzAsks f x →
    Runs (.glzDiscard f) s [.glz, .out] fun t =>
      .glzFrame (sirFrame (x.reply 0x23 .ok [])) ∈ t.out
        ∧ t.glz = s.glzSending { s.glzReplied x 0x23 .ok [] with staged := [] }) ∧
  (∀ (s : State) (f : GlzFrame) (x : GlzSession), s.GlzAsks f x → s.glz.waiting = none → s.glz.hand = none →
    Runs (.glzClose f) s [.glz, .out] fun t =>
      .glzFrame (sirFrame (x.reply 0x2F .ok [])) ∈ t.out ∧ t.glz.session = none ∧ t.glz.state = 1
        ∧ t.glz.nextRate = some 0) ∧
  (∀ (s : State) (f : GlzFrame) (x : GlzSession) (off len : Nat) (chk : PageCheck), s.GlzAsks f x →
    x.may (some 0) = false →
    Runs (.glzRead f off len chk) s [.glz, .out] fun t =>
      .glzFrame (sirFrame (x.reply 0x10 .notPermitted [])) ∈ t.out
        ∧ t.glz = s.glzSending (s.glzReplied x 0x10 .notPermitted []))

/-- R441, R442, R351: STAGE_LABEL and STAGE_TOKEN put their item last among the staged ones; a COMMIT with nothing staged
is OK at once, and one of a label locks its record, writes the label and asks for a round.
The clauses keep to the model's readings where the spec leaves them open (assumption log 57, 58). -/
def Obligations.GlazeStaging : Prop :=
  (∀ (s : State) (f : GlzFrame) (x : GlzSession) (n : Nat) (l : Bytes) (chk : PageCheck), s.GlzAsks f x →
    x.may (some 2) = true → x.staged.length < 8 → n < s.ldr.capacity → s.pageThere (recordPage n) →
    (s.record n).state = 1 → l.length = 32 →
    Runs (.glzStageLabel f n l chk) s [.glz, .out] fun t =>
      .glzFrame (sirFrame (x.reply 0x21 .ok [])) ∈ t.out
        ∧ t.glz = s.glzSending { s.glzReplied x 0x21 .ok [] with
            staged := x.staged ++ [.label n (BitVec.ofNat 256 (beNat l))] }) ∧
  (∀ (s : State) (f : GlzFrame) (x : GlzSession) (k : Bytes) (n : Nat) (chk : PageCheck), s.GlzAsks f x →
    x.may (some 1) = true → x.staged = [] → k.length = 192 → s.tokenOk k = true →
    s.pageThere (indexPageOf (BitVec.ofNat 128 (beAt k 0x18 16))) →
    s.indexFind (BitVec.ofNat 128 (beAt k 0x18 16)) = some n → (s.record n).state = 1 → s.tokenRaise n = true →
    Runs (.glzStageToken f k .done chk) s [.glz, .out] fun t =>
      .glzFrame (sirFrame (x.reply 0x20 .ok [])) ∈ t.out
        ∧ t.glz = s.glzSending { s.glzReplied x 0x20 .ok [] with
            staged := [.token n (BitVec.ofNat 128 (beAt k 0x18 16)) (BitVec.ofNat 32 (leAt k 0x28 4)) (leAt k 0x2C 6)
              (leAt k 0x32 6)] }) ∧
  (∀ (s : State) (f : GlzFrame) (x : GlzSession), s.GlzAsks f x → x.staged = [] → s.spw.early = false →
    Runs (.glzCommit f) s [.glz, .out] fun t =>
      .glzFrame (sirFrame (x.reply 0x22 .ok [0])) ∈ t.out ∧ t.glz = s.glzSending (s.glzReplied x 0x22 .ok [0])) ∧
  (∀ (s : State) (f : GlzFrame) (x : GlzSession) (n : Nat) (l : BitVec 256), s.GlzAsks f x → x.staged = [.label n l] →
    s.spw.early = false → s.pageThere (recordPage n) →
    Runs (.glzCommit f) s [.glz, .ldr] fun t =>
      t.glz.state = 4 ∧ t.ldr.locked = [n] ∧ t.record n = { s.record n with label := l }
        ∧ (∀ m, m ≠ n → t.record m = s.record m) ∧ .glaze ∈ t.ldr.needs
        ∧ t.glz.commit = some { seq := x.lastSeq + 1, items := [.label n l], statuses := [none], labelsIn := true
                                lockEnded := false })

/-- R437: a session frame whose tag is wrong is dropped, and the third in a row closes the session. R437, R444: the idle
timeout and GLZ_CTRL.CLOSE close a session outside a COMMIT. R436: the end of a transmission puts the rate that follows it
in force. R430: a frame is discarded for BLIND, for more than four pulses out of spec, or for what is wrong with its bytes,
in this order, and one counter moves; one with none of these moves none of them. R431: an amplitude rise aborts a frame and
begins the hush of 50 ms, at whose end a response that waited is sent. R424: BLIND rises with an ambient current above
500 µA and falls with one of at most 550 µA.
The clauses keep to the model's readings where the spec leaves them open (assumption log 58). -/
def Obligations.GlazeEvents : Prop :=
  (∀ (s : State) (f : GlzFrame) (x : GlzSession) (typ : Byte), s.running = true → s.quiet → s.glzHears = true →
    s.glz.session = some x → s.glz.commit = none → f.tagOk = false → x.drops < 2 →
    Runs (.glzSessionFrameDrop f typ) s [.glz] fun t =>
      t.glz = { s.glz with framesOk := satInc s.glz.framesOk, session := some { x with drops := x.drops + 1 } }) ∧
  (∀ (s : State) (f : GlzFrame) (x : GlzSession) (typ : Byte), s.running = true → s.quiet → s.glzHears = true →
    s.glz.session = some x → s.glz.commit = none → f.tagOk = false → 2 ≤ x.drops → s.glz.hand = none →
    s.glz.waiting = none →
    Runs (.glzSessionFrameDrop f typ) s [.glz] fun t =>
      t.glz = { s.glz with
        framesOk := satInc s.glz.framesOk, sessDrops := satInc s.glz.sessDrops, session := none, close := false, rate := 0
        state := 1 }) ∧
  (∀ (s : State) (c : Instr), c ∈ [.glzSessionIdleTimeout, .glzCtrlClose .pcie] → s.running = true →
    s.stepDone 6 = true → s.glz.session.isSome = true → s.glz.commit = none → s.glz.state ≠ 0 → s.glz.hand = none →
    s.glz.sending = false → s.glz.waiting = none →
    Runs c s [.glz] fun t =>
      t.glz = { s.glz with session := none, close := false, stalled := none, rate := 0, state := 1 }) ∧
  (∀ s : State, s.running = true → s.glz.sending = true →
    Runs .glzTransmissionEnd s [.glz] fun t =>
      t.glz = { s.glz with sending := false, nextRate := none, rate := s.glz.nextRate.getD s.glz.rate }) ∧
  (∀ (s : State) (why : GlzDiscard) (bad : Nat), s.running = true → s.glz.state ≠ 0 → s.glz.sending = false →
    (why = .blind ∨ s.glz.blind = true) →
    Runs (.glzFrameDiscard why bad) s [.glz] fun t =>
      t.glz = { s.glz with badPulses := satAdd s.glz.badPulses bad, discBlind := satInc s.glz.discBlind }) ∧
  (∀ (s : State) (why : GlzDiscard) (bad : Nat), s.running = true → s.glz.state ≠ 0 → s.glz.sending = false →
    s.glz.blind = false → why ≠ .blind → 4 < bad →
    Runs (.glzFrameDiscard why bad) s [.glz] fun t =>
      t.glz = { s.glz with badPulses := satAdd s.glz.badPulses bad, discPulses := satInc s.glz.discPulses }) ∧
  (∀ (s : State) (bs : Bytes) (framing : Bool) (bad : Nat), s.running = true → s.glz.state ≠ 0 → s.glz.sending = false →
    s.glz.blind = false → bad ≤ 4 → (framing = true ∨ sirContent bs = none) →
    Runs (.glzFrameDiscard (.wire bs framing) bad) s [.glz] fun t =>
      t.glz = { s.glz with badPulses := satAdd s.glz.badPulses bad, fcsErrors := satInc s.glz.fcsErrors }) ∧
  (∀ (s : State) (bs : Bytes) (bad : Nat), s.running = true → s.glz.state ≠ 0 → s.glz.sending = false →
    s.glz.blind = false → bad ≤ 4 → sirContent bs ≠ none →
    Runs (.glzFrameDiscard (.wire bs false) bad) s [.glz] fun t =>
      t.glz = { s.glz with badPulses := satAdd s.glz.badPulses bad }) ∧
  (∀ s : State, s.running = true → s.glz.state ≠ 0 → s.glz.sending = false → s.glz.blind = false →
    Runs .glzAmplitudeAbort s [.glz] fun t =>
      t.glz = { s.glz with abortAmp := satInc s.glz.abortAmp, hushEnd := some (s.tick + 50000) }) ∧
  (∀ (s : State) (w : Bytes) (r : Option Nat), s.running = true → s.glz.waiting = some (w, r) →
    Runs .glzHushEnd s [.glz, .out] fun t =>
      t.glz = { s.glz with hushEnd := none, waiting := none, sending := true, nextRate := r }
        ∧ .glzFrame (sirFrame w) ∈ t.out ∧ .glzLed s.glz.rate (sirCells (sirFrame w)) ∈ t.out) ∧
  (∀ s : State, s.running = true → s.glz.waiting = none →
    Runs .glzHushEnd s [.glz] fun t => t.glz = { s.glz with hushEnd := none }) ∧
  (∀ (s : State) (ua : Nat), s.running = true → s.glz.state ≠ 0 → 500 < ua →
    Runs (.glzBlindRise ua) s [.glz] fun t => t.glz = { s.glz with ambient := min 1023 ua, blind := true }) ∧
  (∀ (s : State) (ua : Nat), s.running = true → s.glz.state ≠ 0 → ua ≤ 550 →
    Runs (.glzBlindFall ua) s [.glz] fun t => t.glz = { s.glz with ambient := min 1023 ua, blind := false })

/-! ## Lifecycle -/

/-- R98–R102, R518: a lifecycle request that R101 accepts is held in its pending-transition record while its fuses blow,
and an accepted RETIRE makes the guards safe; one it does not accept completes NOT_PERMITTED.
R99, R102, R104, R518: the last fuse of a request makes its change whole, clears its record and ends it with the new
lifecycle state; after the fuses of RETIRED zeroization runs at once.
The clauses keep to the model's readings where the spec leaves them open (assumption log 32, 78). -/
def Obligations.LifecycleTransitions : Prop :=
  (∀ (s : State) (c : Nat × Instr), s.running = true → s.msp.mbox = some 2 → s.mode ≠ .quarantine →
    s.life.blowing = none → s.life.retireWait = false → s.spw.early = false →
    c ∈ [(1, .lifecycleOwn .mailbox .done), (2, .lifecycleAddKey .mailbox .done), (3, .lifecycleRevokeKey .mailbox .done),
      (4, .lifecycleDeploy .mailbox .done), (5, .lifecycleRetire .mailbox .done)] →
    reqOp (s.mboxRead 184) = c.1 → s.requestOk (s.mboxRead 184) = true →
    Runs c.2 s [.vig, .life] fun t =>
      t.vig = { s.vig with record := some (requestRecord (s.mboxRead 184)) }
        ∧ t.life = { s.life with blowing := some (none, c.1), retireWait := decide (c.1 = 5) }
        ∧ (c.1 = 5 → t.fab.enabled = 0)) ∧
  (∀ (s : State) (q : Nat) (h : Fetched) (b : Bytes) (c : Nat × Instr), s.running = true → s.canMaster = true →
    s.Takes q 0x41 h → (s.idleEcc (s.affinity q)).isSome = true → s.life.blowing = none → s.life.retireWait = false → s.spw.early = false →
    c ∈ [(1, .lifecycleOwn (.queue q (some b)) .done), (2, .lifecycleAddKey (.queue q (some b)) .done),
      (3, .lifecycleRevokeKey (.queue q (some b)) .done), (4, .lifecycleDeploy (.queue q (some b)) .done),
      (5, .lifecycleRetire (.queue q (some b)) .done)] →
    reqOp b = c.1 → s.requestOk b = true →
    Runs c.2 s [.vig, .life, .queues, .sch] fun t =>
      t.vig = { s.vig with record := some (requestRecord b) }
        ∧ t.life = { s.life with blowing := some (some s.freeCtx, c.1), retireWait := decide (c.1 = 5) }
        ∧ { s.newOp q h with phase := .blow, pastPoint := true } ∈ t.sch.ops) ∧
  (∀ (s : State) (c : Nat × Instr), s.running = true → s.msp.mbox = some 2 → s.mode ≠ .quarantine →
    s.life.blowing = none → s.life.retireWait = false → s.stepDone 1 = true →
    c ∈ [(1, .lifecycleOwn .mailbox .done), (2, .lifecycleAddKey .mailbox .done), (3, .lifecycleRevokeKey .mailbox .done),
      (4, .lifecycleDeploy .mailbox .done), (5, .lifecycleRetire .mailbox .done)] →
    reqOp (s.mboxRead 184) = c.1 → s.requestOk (s.mboxRead 184) = false →
    Runs c.2 s [.msp] fun t =>
      t.msp = { s.msp with mbox := none, mboxStat := 0x22, attn := setBit s.msp.attn 1 true }) ∧
  (∀ (s : State) (op : Nat) (r : PendingRec), s.running = true → s.stepDone 1 = true → s.life.blowing = some (none, op) →
    op ≠ 5 → s.vig.record = some r →
    Runs .lifecycleBlowDone s [.otp, .vig, .life, .msp] fun t =>
      t.otp = s.otp.blow r
        ∧ t.vig = { s.vig with record := none, shadow := some (s.otp.blow r).stateOf }
        ∧ t.life = { s.life with state := (s.otp.blow r).stateOf, blowing := none }
        ∧ t.msp = { s.msp with
            mbox := none, mboxStat := 0, attn := setBit s.msp.attn 1 true
            mboxData := mboxWrite s.msp.mboxData [BitVec.ofNat 8 (s.otp.blow r).stateOf] }) ∧
  (∀ (s : State) (ctx : Option Nat), s.running = true → s.life.blowing = some (ctx, 5) →
    s.vig.record = some (.group 4) → s.cnt.drain = .idle → s.cnt.compaction = .none → s.ldr.running = none →
    Runs .lifecycleBlowDone s [.otp, .vig, .life, .mod, .cnt, .ports, .prf, .ent, .glz, .ldr, .spc] fun t =>
      t.life.state = 4 ∧ t.life.blowing = some (ctx, 5) ∧ t.vig.zeroPending = true ∧ t.vig.inhibit = true
        ∧ t.vig.anchorOk = false ∧ t.vig.buffer = [] ∧ t.vig.snapOk = false ∧ t.hasKeys = false
        ∧ t.ldr.frames = [] ∧ t.ldr.isOpen = false)

/-! ## Recipe commands -/

/-- R17, R131, R133–R135: the RCP_ commands that open, fill and close a write session, and what the end of each flash
operation, verification or fuse leaves; OPEN keeps the other slot, and COMMIT_FLOOR raises the anti-rollback count.
The clauses keep to the model's readings where the spec leaves them open (assumption log 61). -/
def Obligations.RecipeSessions : Prop :=
  (∀ (s : State) (k : Bool), s.running = true → s.rcpLoaded = true → s.rcp.busy = none → s.rcp.session = none →
    s.mode = .service → s.spw.early = false → s.slotStands (1 - k.toNat) s.otp.rollback = true →
    Runs (.rcpOpen .pcie k) s [.rcp] fun t =>
      t.rcp.session = some { slot := k.toNat, owner := .pcie, offset := 0 } ∧ t.rcp.busy = some (.erase k.toNat)
        ∧ t.slotResult k.toNat = 0) ∧
  (∀ (s : State) (k : Bool), s.running = true → s.rcpLoaded = true → s.rcp.busy = none → s.rcp.session = none →
    s.mode = .service → s.spw.early = false → s.slotStands (1 - k.toNat) s.otp.rollback = false →
    Runs (.rcpOpen .pcie k) s [.rcp] fun t => t.rcp.cmdResult = 3 ∧ t.rcp.session = none ∧ t.rcp.busy = none) ∧
  (∀ (s : State) (x : Session) (n : Nat), s.running = true → s.rcpLoaded = true → s.rcp.busy = none →
    s.rcp.session = some x → x.owner = .pcie → s.spw.early = false → 1 ≤ n → n ≤ 4096 → x.offset + n ≤ 3145728 →
    Runs (.rcpAppend .pcie n) s [.rcp] fun t =>
      t.rcp = { s.rcp with busy := some (.program x.slot ((List.range n).map fun i => tabGet 0 s.rcp.win i)) }) ∧
  (∀ (s : State) (x : Session) (d : Bytes), s.running = true → s.rcp.busy = some (.program x.slot d) →
    s.rcp.session = some x →
    Runs (.rcpFlashDone true) s [.rcp, .flash] fun t =>
      t.slotBytes x.slot = (s.slotBytes x.slot).take x.offset ++ d
        ∧ t.rcp.session = some { x with offset := x.offset + d.length } ∧ t.rcp.busy = none ∧ t.rcp.cmdResult = 1) ∧
  (∀ (s : State) (k : Nat), s.running = true → s.rcp.busy = some (.erase k) → s.bootSuspended = false →
    Runs (.rcpFlashDone true) s [.rcp, .flash] fun t =>
      t.slotBytes k = [] ∧ t.rcp.session = s.rcp.session ∧ t.rcp.busy = none ∧ t.rcp.cmdResult = 1) ∧
  (∀ (s : State) (x : Session), s.running = true → s.rcpLoaded = true → s.rcp.busy = none → s.rcp.session = some x →
    x.owner = .pcie →
    Runs (.rcpClose .pcie) s [.rcp] fun t => t.rcp = { s.rcp with session := none, busy := some (.closing x.slot) }) ∧
  (∀ (s : State) (k : Bool), s.running = true → s.rcpLoaded = true → s.rcp.busy = none → s.rcp.session = none →
    s.rcpOpenMode = true →
    Runs (.rcpVerify .pcie k) s [.rcp] fun t => t.rcp = { s.rcp with busy := some (.verifying k.toNat) }) ∧
  (∀ (s : State) (k : Nat) (v : SlotVerdict), s.running = true → s.quiet → k < 2 → s.rcp.busy = some (.verifying k) →
    Runs (.rcpVerifyDone v) s [.rcp] fun t =>
      t.slotResult k = s.verifySlot (s.slotBytes k) v ∧ t.slotResult (1 - k) = s.slotResult (1 - k)
        ∧ t.rcp.busy = none ∧ t.rcp.cmdResult = 1) ∧
  (∀ s : State, s.running = true → s.rcpLoaded = true → s.rcp.busy = none → s.rcp.session = none → s.mode = .service →
    s.spw.early = false → s.slotStands s.spareSlot s.rcp.loadedFloor = true → s.otp.rollback < s.rcp.loadedFloor →
    Runs (.rcpCommitFloor .pcie) s [.rcp] fun t => t.rcp = { s.rcp with busy := some .floor }) ∧
  (∀ s : State, s.running = true → s.rcp.busy = some .floor →
    Runs (.rcpFlashDone true) s [.otp, .rcp] fun t => t.otp = { s.otp with rollback := s.otp.rollback + 1 })

/-- R133, R137–R139: ACTIVATE in SERVICE sets ACTIVATING and verifies slot A; a slot that is not VALID leaves the recipe in
force; a CLASSES change that a record forbids is refused with INVALID before it begins; one that is VALID, newer, and that differs in nothing but its generation is in force at once.
But for R139's, the clauses keep to the model's readings of R133 to R138 (assumption log 61). -/
def Obligations.RecipeActivates : Prop :=
  (∀ s : State, s.running = true → s.rcpLoaded = true → s.rcp.busy = none → s.rcp.session = none → s.mode = .service →
    s.rcp.loadedB = false → (∀ p < 128, s.unitIs p .active = true ∨ s.unitIs p .off = true) →
    Runs (.rcpActivate .pcie) s [.rcp] fun t => t.rcp = { s.rcp with busy := some .activateVerify, actBit := true }) ∧
  (∀ s : State, s.running = true → s.rcpLoaded = true → s.rcp.busy = none → s.rcp.session = none →
    (s.mode ≠ .service ∨ s.rcp.loadedB = true) →
    Runs (.rcpActivate .pcie) s [.rcp] fun t => t.rcp.cmdResult = 2 ∧ t.rcp.actBit = false ∧ t.rcp.recipe = s.rcp.recipe) ∧
  (∀ (s : State) (v : SlotVerdict) (old : Recipe), s.running = true → s.quiet → s.rcp.busy = some .activateVerify →
    s.rcp.recipe = some old → s.verifySlot s.flash.slotA v ≠ 15 → s.verifySlot s.flash.slotA v ≠ 7 →
    Runs (.rcpVerifyDone v) s [.rcp] fun t =>
      t.rcp.resultA = s.verifySlot s.flash.slotA v ∧ t.rcp.recipe = some old ∧ t.rcp.gen = s.rcp.gen
        ∧ t.rcp.busy = none ∧ t.rcp.actBit = false ∧ t.rcp.cmdResult = 5) ∧
  (∀ (s : State) (v : SlotVerdict) (old : Recipe), s.running = true → s.quiet → s.rcp.busy = some .activateVerify →
    s.rcp.recipe = some old → s.verifySlot s.flash.slotA v = 15 → s.fab.newNet = none → s.sch.classesNew = none →
    s.activateRefusal 15 old (parseRecipe s.flash.slotA) = none →
    old.hash 4 = (parseRecipe s.flash.slotA).hash 4 → old.hash 10 = (parseRecipe s.flash.slotA).hash 10 →
    old.ports = (parseRecipe s.flash.slotA).ports →
    Runs (.rcpVerifyDone v) s [.rcp, .ports, .spc, .ldr] fun t =>
      t.rcp.resultA = 15 ∧ t.rcp.recipe = some (parseRecipe s.flash.slotA)
        ∧ t.rcp.gen = (parseRecipe s.flash.slotA).generation ∧ t.rcp.snapStale = true ∧ t.rcp.busy = none
        ∧ t.rcp.actBit = false ∧ t.rcp.cmdResult = 1) ∧
  (∀ (s : State) (v : SlotVerdict) (old : Recipe), s.running = true → s.quiet → s.rcp.busy = some .activateVerify →
    s.rcp.recipe = some old → s.verifySlot s.flash.slotA v = 15 → s.rcp.gen < (parseRecipe s.flash.slotA).generation →
    (∀ t ∈ stageOnly, old.hash t = (parseRecipe s.flash.slotA).hash t) →
    s.classesRefused old (parseRecipe s.flash.slotA) = true →
    Runs (.rcpVerifyDone v) s [.rcp] fun t =>
      t.rcp.resultA = 15 ∧ t.rcp.recipe = some old ∧ t.rcp.gen = s.rcp.gen ∧ t.rcp.busy = none ∧ t.rcp.actBit = false
        ∧ t.rcp.cmdResult = 5)

/-! ## Units -/

/-- R22, R142–R146: RESTART and OFF make an ACTIVE unit DRAINING, under its drain limit; a unit with no accepted work left
is QUIESCED, and OFF at once where it is to be; at the limit a port's operations complete CANCELLED; ON and UNIT_REJOIN
take a unit to REJOINING with no state from before.
The clauses keep to the model's readings where the spec leaves them open (assumption log 62). -/
def Obligations.UnitService : Prop :=
  (∀ (s : State) (u : Nat) (c : DrainFor × Instr), s.running = true → s.quiet → u < 176 → s.mode = .service →
    s.rcp.actBit = false → s.unitIs u .active = true → (c.1 = .off → s.lastOfKind u = false) →
    c ∈ [(.restart, .unitRestart .pcie u), (.off, .unitOff .pcie u)] →
    Runs c.2 s (.rcp :: .ports :: .spc :: opParts) fun t =>
      t.unit u = { st := .draining, drainFor := c.1, drainEnd := s.tick + BitVec.ofNat 64 (s.drainLimit u), passed := false }
        ∧ (∀ v, v ≠ u → t.unit v = s.unit v)) ∧
  (∀ (s : State) (i : Nat), s.running = true → s.quiet → s.prfQuiet → i < 4 → s.mode = .service →
    s.rcp.actBit = false → s.unitIs (176 + i) .active = true → (s.inst i).shadow = none →
    Runs (.unitRestart .pcie (176 + i)) s (.rcp :: .prf :: talkParts) fun t =>
      t.unitIs (176 + i) .draining = true ∧ t.inst i = { Prf.start with
          reseeds := (s.inst i).reseeds, since := (s.inst i).since, lastCh := (s.inst i).lastCh }) ∧
  (∀ (s : State) (u held : Nat), s.running = true → s.quiet → 128 ≤ u → u < 168 → s.unitIs u .draining = true →
    s.unitAtWork u = false → s.rcp.activating = none →
    Runs (.unitQuiesced u held) s (.rcp :: .ports :: .spc :: opParts) fun t =>
      t.unit u = { s.unit u with st := if (s.unit u).drainFor = .off then .off else .quiesced }
        ∧ t.sts.quiesce = satAdd s.sts.quiesce held) ∧
  (∀ (s : State) (u held : Nat), s.running = true → s.quiet → u < 128 → s.unitIs u .draining = true →
    (s.unit u).drainFor ≠ .off → s.unitAtWork u = false → s.rcp.activating = none → (s.port u).newEntry = none →
    (s.port u).entry.isSome = true →
    Runs (.unitQuiesced u held) s [.rcp, .ports, .ldr, .sts] fun t =>
      t.unit u = { s.unit u with st := .quiesced } ∧ (t.port u).state = .stopped
        ∧ t.sts.quiesce = satAdd s.sts.quiesce held) ∧
  (∀ (s : State) (u : Nat) (o : Op), s.running = true → s.quiet → s.canMaster = true → u < 128 →
    s.unitIs u .draining = true → (s.unit u).drainEnd ≤ s.tick → s.sch.ops = [o] → o.desc.opcode = 0x30 →
    o.committed = false → (s.port u).contexts = [o.ctx] →
    Runs (.drainLimitExpire u) s (.ports :: opParts) fun t =>
      s.entryOut o.q o.desc .cancelled [] ∈ t.out ∧ t.sch.ops = [] ∧ t.port u = (s.port u).emptied) ∧
  (∀ (s : State) (u : Nat), s.running = true → s.quiet → 128 ≤ u → u < 176 → s.mode = .service → s.rcp.actBit = false →
    s.unitIs u .off = true →
    Runs (.unitOn .pcie u) s (.rcp :: talkParts) fun t =>
      t.unit u = { st := .rejoining, drainFor := .restart, drainEnd := 0, passed := false }) ∧
  (∀ (s : State) (u : Nat), s.running = true → s.quiet → u < 128 → s.mode = .service → s.rcp.actBit = false →
    s.unitIs u .off = true → (s.port u).entry.isSome = true → s.sch.ops = [] →
    Runs (.unitOn .pcie u) s (.rcp :: .ports :: .spc :: opParts) fun t =>
      t.unitIs u .rejoining = true ∧ (t.port u).state = .charge ∧ (t.port u).resetDue = true
        ∧ (t.port u).entry = (s.port u).entry ∧ (t.port u).chainLen = 0 ∧ (t.port u).present = 0) ∧
  (∀ (s : State) (u : Nat), s.running = true → s.quiet → 128 ≤ u → u < 176 → s.unitIs u .quiesced = true →
    (s.unit u).drainFor = .restart → s.rcp.activating = none →
    Runs (.unitRejoin u true) s (.rcp :: talkParts) fun t =>
      t.unit u = { st := .rejoining, drainFor := .restart, drainEnd := 0, passed := true }) ∧
  (∀ (s : State) (u : Nat), s.running = true → s.quiet → u < 128 → s.unitIs u .quiesced = true →
    (s.unit u).drainFor = .restart → s.rcp.activating = none → (s.port u).entry.isSome = true →
    (s.port u).charge = false → s.sch.ops = [] →
    Runs (.unitRejoin u true) s (.rcp :: .ports :: .spc :: opParts) fun t =>
      t.unitIs u .rejoining = true ∧ (t.port u).state = .stopped ∧ (t.port u).resetDue = true)

/-! ## Fabric and guards -/

/-- R25, R152, R157, R158: a tick increments TICK_NOW, a multiple of 10 being an epoch boundary, and, in SERVICE, evaluates the fabric. A guard is enabled on it only if
its source is true on this tick and was on the tick before, and its fault bit is 0, but for an enabled guard on the first
tick of a netlist; and then it is enabled unless the guard-force line is asserted.
The clauses keep to the model's readings where the spec leaves them open (assumption log 16). -/
def Obligations.TickAndTwoTickRule : Prop :=
  (∀ s : State, s.running = true → s.mode ≠ .service → s.rcp.activating = none →
    Runs .fabricTick s [.tick, .sts, .sch] fun t =>
      t.tick = s.tick + 1
        ∧ t.sch = { s.sch with epochDue := s.sch.epochDue || (s.tick + 1).toNat % 10 == 0 }) ∧
  (∀ s : State, s.running = true → s.mode = .service → s.rcp.activating = none → s.fab.newNet = none →
    Runs .fabricTick s [.tick, .sts, .sch, .fabric, .guards] fun t =>
      t.tick = s.tick + 1
        ∧ t.sch = { s.sch with epochDue := s.sch.epochDue || (s.tick + 1).toNat % 10 == 0 } ∧ t.fab.ticks = s.fab.ticks + 1 ∧ t.fab.fresh = false
        ∧ (∀ i, t.fab.enabled.getLsbD i = true → s.vig.force = false ∧ ∃ g ∈ s.fab.guards, g.guard = i
          ∧ t.fab.out.getLsbD g.source = true ∧ s.fab.fault.getLsbD i = false
          ∧ (s.fab.prevTrue.getLsbD i = true ∨ s.fab.fresh = true ∧ s.fab.enabled.getLsbD i = true))
        ∧ (∀ g ∈ s.fab.guards, g.guard < 256 → s.vig.force = false → s.life.retireWait = false →
          t.fab.out.getLsbD g.source = true → s.fab.fault.getLsbD g.guard = false →
          s.fab.prevTrue.getLsbD g.guard = true → t.fab.enabled.getLsbD g.guard = true)
        ∧ (∀ g ∈ s.fab.guards, g.guard < 256 → t.fab.out.getLsbD g.source = true →
          t.fab.prevTrue.getLsbD g.guard = true))

/-- R156, R161–R163, R167: a stall makes every guard safe and restarts every two-tick count; a live guard's carrier starts in the microsecond of its first rising instant;
a readback fault of a driven guard makes it safe and sets its sticky bit, which a write of 1 clears; and the permit bits take a
PCIe write whole, an MSP write's zeros only, and of both in one cycle the AND. -/
def Obligations.GuardCommands : Prop :=
  (∀ s : State, s.running = true → s.mode = .service →
    Runs .fabricStall s [.fabric, .guards, .sts, .irq] fun t =>
      t.fab.enabled = 0 ∧ t.fab.carrier = 0 ∧ t.fab.prevTrue = 0 ∧ t.fab.stallHold = true
        ∧ t.sts.stalls = satInc s.sts.stalls ∧ (s.stepDone 1 = true → t.irqStat.getLsbD 7 = true)) ∧
  (∀ (s : State) (g n : Nat), s.running = true → s.mode = .service → s.vig.force = false → s.life.retireWait = false →
    tabFind s.fab.enabledAt g = some n → firstRise g n / 1000 = s.tick.toNat →
    Runs (.guardCarrierStart g) s [.guards] fun t =>
      t.fab = { s.fab with carrier := setBit s.fab.carrier g true, enabledAt := tabDel s.fab.enabledAt g }) ∧
  (∀ (s : State) (g : Nat), s.running = true → s.guardDriven g = true →
    Runs (.guardReadbackFault g) s [.fabric, .guards, .sts, .irq] fun t =>
      t.fab.fault = setBit s.fab.fault g true ∧ t.fab.enabled.getLsbD g = false ∧ t.fab.carrier.getLsbD g = false
        ∧ t.sts.grdFaults = satInc s.sts.grdFaults ∧ (s.stepDone 1 = true → t.irqStat.getLsbD 6 = true)) ∧
  (∀ (s : State) (m : Nat) (v : Word), s.running = true → s.stepDone 6 = true → m < 8 →
    Runs (.grdFaultClear m v) s [.fabric] fun t =>
      word256 t.fab.fault m = word256 s.fab.fault m &&& ~~~ v
        ∧ ∀ k < 8, k ≠ m → word256 t.fab.fault k = word256 s.fab.fault k) ∧
  (∀ (s : State) (m : Nat) (x : Option Word × Option Word), s.running = true → s.mode = .service → m < 8 →
    Runs (.grdPermitWrite m x.1 x.2) s [.fabric] fun t =>
      word256 t.fab.permit m = (match x with
        | (none, none) => word256 s.fab.permit m
        | (some p, none) => p
        | (none, some q) => word256 s.fab.permit m &&& q
        | (some p, some q) => p &&& q)
        ∧ ∀ k < 8, k ≠ m → word256 t.fab.permit k = word256 s.fab.permit k) ∧
  (∀ (s : State) (m : Nat) (v : Word), s.running = true → s.mode ≠ .service →
    Runs (.grdPermitWrite m (some v) none) s [.sts] fun t => t.sts.rejects = satInc s.sts.rejects)

/-! ## Entropy -/

/-- R242, R243, R246–R250, R258, R259: the runs of the entropy channels: acquisition, startup test, the frequency check,
the events of the continuous tests, a failure of a HEALTHY channel, and retests.
The clauses keep to the model's readings where the spec leaves them open (assumption log 51, 52). -/
def Obligations.EntropyRuns : Prop :=
  (∀ (s : State) (codes : List Nat), s.running = true → s.ent.a.inRun = true → s.ent.a.acquired = false →
    codes.length = 64 →
    Runs (.acquisitionEnd codes) s [.ent] fun t =>
      t.ent.a = { s.ent.a with acquired := true } ∧ t.ent.trim = codes ∧ t.ent.masked = endMask codes
        ∧ t.ent.b = s.ent.b) ∧
  (∀ (s : State) (ch : Channel), s.Rests → (s.chan ch).inRun = true →
    (s.chan ch).acquired = true → (s.chan ch).tested = false → (s.chan ch).startEvents ≤ 4 →
    (ch = .a → 48 ≤ s.activeLatches) →
    Runs (.startupTestEnd ch) s [.ent] fun t =>
      t.chan ch = { s.chan ch with tested := true, windows := 0, bitsClosed := 0 }) ∧
  (∀ (s : State) (ch : Channel), s.Rests → (s.chan ch).state = 1 →
    (s.chan ch).retesting = false → (s.chan ch).counted = false → (s.chan ch).acquired = true →
    (s.chan ch).tested = false → 4 < (s.chan ch).startEvents →
    Runs (.startupTestEnd ch) s (.ent :: .prf :: .spc :: talkParts) fun t =>
      (t.chan ch).state = 3 ∧ (t.chan ch).cause = (s.chan ch).lastKind
        ∧ (s.stepDone 1 = true → t.irqStat.getLsbD 2 = true)) ∧
  (∀ (s : State) (f k : Nat), s.Rests → s.ent.b.inRun = true →
    s.ent.b.acquired = false → freqOk f k = true →
    Runs (.ringFreqCheck f k) s [.ent] fun t =>
      t.ent = { s.ent with b := { s.ent.b with acquired := true }, fastMhz := f, slowKhz := k }) ∧
  (∀ (s : State) (ch : Channel) (latch sample : Nat) (c : Nat × Instr), s.Rests → (s.chan ch).state = 1 → (s.chan ch).acquired = true → (s.chan ch).tested = false →
    s.streamOk ch latch = true →
    c ∈ [(1, .repetitionEvent ch latch sample (s.chan ch).rct), (2, .proportionEvent ch latch sample (s.chan ch).apt)] →
    Runs c.2 s [.ent] fun t =>
      (t.chan ch).events = satInc (s.chan ch).events ∧ (t.chan ch).lastKind = c.1
        ∧ (t.chan ch).startEvents = (s.chan ch).startEvents + 1 ∧ (t.chan ch).state = 1) ∧
  (∀ (s : State) (ch : Channel) (latch sample : Nat) (c : Nat × Instr), s.Rests → (s.chan ch).state = 2 → (s.chan ch).retesting = false → (s.chan ch).counted = false →
    s.streamOk ch latch = true →
    16 ≤ ((s.chan ch).recent.filter fun i => decide (sample < i + 65536)).length →
    c ∈ [(1, .repetitionEvent ch latch sample (s.chan ch).rct), (2, .proportionEvent ch latch sample (s.chan ch).apt)] →
    Runs c.2 s (.ent :: .prf :: .spc :: talkParts) fun t =>
      (t.chan ch).state = 3 ∧ (t.chan ch).cause = c.1 ∧ (∀ b ∈ (t.chan ch).pool, b.confirmed = true)
        ∧ (s.stepDone 1 = true → t.irqStat.getLsbD 2 = true)) ∧
  (∀ (s : State) (w : Writers) (c : Channel × Instr), s.running = true →
    c ∈ [(.a, .entRetestA w), (.b, .entRetestB w)] → s.retestOk c.1 = true →
    Runs c.2 s [.ent] fun t =>
      (t.chan c.1).retesting = true ∧ (t.chan c.1).retestBit = true ∧ (t.chan c.1).retests = s.tick :: (s.chan c.1).retests
        ∧ (t.chan c.1).acquired = false ∧ (t.chan c.1).tested = false ∧ (t.chan c.1).state = 3) ∧
  (∀ (s : State) (ch : Channel), s.running = true → (s.chan ch).retesting = false → (s.chan ch).counted = false →
    Runs (.retestBudgetExpire ch) s [.ent] fun t =>
      t.chan ch = { s.chan ch with retests := s.recentRetests (s.chan ch) }) ∧
  (∀ (s : State) (ch : Channel) (u : BitVec 64) (l : List (BitVec 64)), s.running = true →
    ((s.chan ch).retesting || (s.chan ch).counted) = true → (s.chan ch).retests = u :: l →
    Runs (.retestBudgetExpire ch) s [.ent] fun t =>
      t.chan ch = { s.chan ch with
        retests := (u :: l).filter fun v => decide (u.toNat ≤ v.toNat + 3600000000) })

/-- R242, R252–R255, R263, R271: a closing window moves the trim loop and confirms the blocks whose windows have all
closed; a block's worth of bits forms the next block of its channel; an estimate window's counts are shown; a generate
request adds 512 octets to its instance's output. -/
def Obligations.EntropyBlocks : Prop :=
  (∀ (s : State) (ones : List Nat), s.Rests → s.ent.b.state = 2 →
    s.ent.b.retesting = false → s.ent.b.tested = true → s.ent.b.taken = [] →
    Runs (.aptWindowClose .b ones) s [.ent] fun t =>
      t.ent.b.windows = s.ent.b.windows + 1 ∧ t.ent.b.bitsClosed = s.ent.b.bitsClosed + 1024
        ∧ t.ent.b.pool = s.ent.b.pool.map fun b =>
          if (b.idx + 1) * 2048 ≤ s.ent.b.bitsClosed + 1024 then { b with confirmed := true } else b) ∧
  (∀ (s : State) (ones : List Nat), s.Rests → s.ent.a.state = 2 →
    s.ent.a.retesting = false → s.ent.a.tested = true → s.ent.a.taken = [] → s.ent.masked = 0 →
    (∀ i < 64, s.ent.atEnd.getD i 0 < 4) → (∀ i < 4, (s.inst i).shadow = none) →
    Runs (.aptWindowClose .a ones) s [.ent] fun t =>
      t.ent.masked = 0 ∧ t.ent.trim = (List.range 64).map (fun i => trimStep (s.ent.trim.getD i 32) (ones.getD i 512))
        ∧ t.ent.a.windows = s.ent.a.windows + 1 ∧ t.ent.a.bitsClosed = s.ent.a.bitsClosed + 65536
        ∧ t.ent.a.pool = s.ent.a.pool.map fun b =>
          if (b.idx + 1) * 2048 ≤ s.ent.a.bitsClosed + 65536 then { b with confirmed := true } else b) ∧
  (∀ (s : State) (ch : Channel) (raw : BitVec 2048), s.Rests →
    (s.chan ch).operational = true → s.ent.forming = true → s.churnLane = true →
    (s.chan ch).marked.contains (s.chan ch).blk = false → (s.chan ch).pool.length < 64 →
    (s.chan ch).bitsClosed < ((s.chan ch).blk + 1) * 2048 →
    (∀ b ∈ (s.chan ch).pool, b.confirmed = false → (s.chan ch).closed b = false) →
    (∀ b ∈ (s.chan ch).taken, (s.chan ch).closed b = false) →
    Runs (.churnBlockFormed ch raw) s [.ent] fun t =>
      (t.chan ch).pool = (s.chan ch).pool ++
          [{ seq := (s.chan ch).nextSeq, idx := (s.chan ch).blk, confirmed := false
             digest := Config.sha256 (chanOctet ch :: (beBytes 7 (s.chan ch).nextSeq ++ beBytes 256 raw.toNat)) }]
        ∧ (t.chan ch).nextSeq = (s.chan ch).nextSeq + 1 ∧ (t.chan ch).blk = (s.chan ch).blk + 1) ∧
  (∀ (s : State) (ch : Channel) (bits ones pairs agree f k : Nat), s.Rests → (s.chan ch).estimated ch = true → (ch = .b → freqOk f k = true) →
    Runs (.estimateWindowEnd ch bits ones pairs agree f k) s [.ent] fun t =>
      t.chan ch = { s.chan ch with
          estSeq := (s.chan ch).estSeq + 1, estBits := if ch = .b then 65536 else bits, estOnes := ones
          estPairs := if ch = .b then 65535 else pairs, estAgree := agree }
        ∧ (ch = .b → t.ent.fastMhz = f ∧ t.ent.slowKhz = k)) ∧
  (∀ (s : State) (i : Nat), s.Rests → i < 4 → s.prfServes i = true → s.aesLane = true →
    (s.inst i).buf.length + 512 ≤ 8192 → (s.inst i).since + 1 < s.reseedInt →
    Runs (.prooferGenerate i) s [.prf] fun t =>
      t.prf = vecSet s.prf i { s.inst i with
        ws := (generate (s.inst i).ws 1).2, since := (s.inst i).since + 1
        buf := (s.inst i).buf ++ (generate (s.inst i).ws 1).1 })

/-! ## The Plait ports -/

/-- R184, R186–R188: the reset low from its charge period, or of a re-enumeration with every position UNVERIFIED and
without a session; the presence window, after which enumeration begins at position 1 or the chain is empty; ASSIGN and
its answer; the extension window, which moves on to the next position, overflows, or ends with the positions found
PRESENT and UNVERIFIED, but for a FAILED one before those now assigned, and those above EMPTY.
The clauses keep to the model's readings where the spec leaves them open (assumption log 23, 53). -/
def Obligations.PlaitEnumerates : Prop :=
  (∀ (s : State) (p : Nat), s.Serves p .reset → (s.port p).state = .charge →
    Runs (.plaitReset p) s [.ports, .out] fun t =>
      t.port p = { s.port p with state := .reset, resetDue := false, charge := false, window := .presence false }
        ∧ .plaitLow p 300 ∈ t.out ∧ ∀ r, r ≠ p → t.port r = s.port r) ∧
  (∀ (s : State) (p : Nat), s.Serves p .reset → (s.port p).state = .running → s.sch.ops = [] →
    Runs (.plaitReset p) s (.ports :: .spc :: opParts) fun t =>
      (t.port p).state = .reset ∧ (t.port p).window = .presence false ∧ (t.port p).jobs = [] ∧ (t.port p).txn = none
        ∧ (t.port p).reenum = (s.port p).reenum ∧ (t.port p).reenumRuns = (s.port p).reenum ∧ .plaitLow p 300 ∈ t.out
        ∧ ∀ i, 1 ≤ i → i ≤ 32 → (t.pos p i).verdict = 1 ∧ (t.pos p i).session = none ∧ (t.pos p i).record = none) ∧
  (∀ (s : State) (p : Nat) (y : Presence), s.running = true → s.quiet → (s.port p).window = .presence false →
    12 ≤ y.fallUs → y.fallUs ≤ 50 → 25 ≤ y.widthUs → y.widthUs ≤ 100 →
    Runs (.presenceWindowClose p (some y) false) s [.ports] fun t =>
      t.port p = { s.port p with
        presFall := y.fallUs, presWidth := y.widthUs, state := .enumerate, enumPos := 1, enumFirst := 1, expect := true
        window := .none }) ∧
  (∀ (s : State) (p : Nat), s.running = true → s.quiet → (s.port p).window = .presence false →
    Runs (.presenceWindowClose p none false) s lineParts fun t =>
      (t.port p).state = .running ∧ (t.port p).window = .none ∧ (t.port p).chainLen = 0 ∧ (t.port p).present = 0
        ∧ ∀ i, 1 ≤ i → i ≤ 32 → (t.pos p i).verdict = 0) ∧
  (∀ (s : State) (p : Nat), s.Serves p .assign → (s.port p).txn = none →
    Runs (.plaitAssign p) s [.ports, .out] fun t =>
      t.port p = { s.port p with
        expect := false, spuOn := false
        txn := some (.first .enum opAssign (s.port p).enumPos [BitVec.ofNat 8 (s.port p).enumPos]) }
        ∧ .plaitFrame p (borpinBody 63 opAssign [BitVec.ofNat 8 (s.port p).enumPos] false) ∈ t.out) ∧
  (∀ (s : State) (p : Nat) (f : RxFrame) (x : Txn) (g : TagFrame), s.Expects p x → x.owner = .enum → x.op = opAssign →
    (s.port p).state = .enumerate → (s.port p).check = none → f.erasures = 0 → parseTagFrame x.pos opAssign f.bits = some g → g.tstat = 0 →
    Runs (.tagAnswerReceived p f) s [.ports] fun t =>
      (t.port p).window = .extension ∧ (t.port p).txn = none ∧ (t.pos p x.pos).session = none
        ∧ (t.pos p x.pos).classId = leAt g.payload 1 1 ∧ (t.pos p x.pos).parity = false) ∧
  (∀ (s : State) (p : Nat) (y : Presence), s.running = true → s.quiet → (s.port p).window = .extension →
    150 ≤ y.fallUs → y.fallUs ≤ 1800 → 25 ≤ y.widthUs → y.widthUs ≤ 100 →
    (s.port p).enumPos < (s.port p).profile.maxPos →
    Runs (.extensionWindowPresence p y) s [.ports] fun t =>
      t.port p = { s.port p with
        presFall := y.fallUs, presWidth := y.widthUs, window := .none, enumPos := (s.port p).enumPos + 1, expect := true }) ∧
  (∀ (s : State) (p : Nat) (y : Presence), s.running = true → s.quiet → (s.port p).window = .extension →
    150 ≤ y.fallUs → y.fallUs ≤ 1800 → 25 ≤ y.widthUs → y.widthUs ≤ 100 →
    (s.port p).profile.maxPos ≤ (s.port p).enumPos →
    Runs (.extensionWindowPresence p y) s lineParts fun t =>
      (t.port p).state = .running ∧ (t.port p).chainLen = (s.port p).enumPos
        ∧ (t.port p).event = setBit (s.port p).event 5 true) ∧
  (∀ (s : State) (p : Nat), s.running = true → s.quiet → (s.port p).window = .extension →
    Runs (.extensionWindowExpire p) s lineParts fun t =>
      (t.port p).state = .running ∧ (t.port p).window = .none ∧ (t.port p).chainLen = (s.port p).enumPos
        ∧ (t.port p).present = BitVec.ofNat 32 (2 ^ (s.port p).enumPos - 1) ∧ t.unitIs p .rejoining = false
        ∧ (∀ i, 1 ≤ i → i ≤ 32 → i ≤ (s.port p).enumPos → ((s.port p).enumFirst ≤ i ∨ (s.pos p i).verdict ≠ 3) →
          (t.pos p i).verdict = 1 ∧ (t.pos p i).authAt.isSome = true)
        ∧ (∀ i, 1 ≤ i → i ≤ 32 → (s.port p).enumFirst ≤ i → (s.port p).enumPos < i → t.pos p i = posEmpty))

/-- R189, R192, R200, R201, R205: PLT_CTRL's two bits where they are accepted and where they are not; a probe's TRIM, its
low and its presence, behind a chain that has room and behind a full one; an unsolicited presence; a line fault, which takes the port to FAULT with no position PRESENT; and
the recovery from FAULT, which the line's level at its release decides.
The clauses keep to the model's readings where the spec leaves them open (assumption log 23, 24, 64, 101). -/
def Obligations.PlaitLines : Prop :=
  (∀ (s : State) (p : Nat), s.running = true → s.quiet → p < 128 → s.mode = .service →
    ((s.port p).state = .running ∨ (s.port p).state = .fault) →
    Runs (.pltReenum .pcie p) s [.ports] fun t => t.port p = { s.port p with reenum := true }) ∧
  (∀ (s : State) (p : Nat), s.running = true → s.quiet → p < 128 → s.mode = .service → (s.port p).state = .running →
    Runs (.pltProbe .pcie p) s [.ports] fun t => t.port p = { s.port p with probeReq := true }) ∧
  (∀ (s : State) (p : Nat) (c : Instr), c ∈ [.pltReenum .pcie p, .pltProbe .pcie p] → s.running = true → s.quiet →
    (s.mode ≠ .service ∨ ((s.port p).state ≠ .running ∧ (s.port p).state ≠ .fault)) →
    Runs c s [.sts] fun t => t.sts.rejects = satInc s.sts.rejects) ∧
  (∀ (s : State) (p : Nat), s.Serves p .probe →
    Runs (.plaitTrim p) s [.ports, .out] fun t =>
      t.port p = { s.port p with trimSent := true }
        ∧ .plaitFrame p (borpinBody 0 opTrim [BitVec.ofNat 8 (s.port p).chainLen] false) ∈ t.out) ∧
  (∀ (s : State) (p : Nat), s.running = true → s.quiet → (s.port p).trimSent = true →
    (s.port p).window = .none →
    Runs (.plaitProbe p) s [.ports, .out] fun t =>
      t.port p = { s.port p with window := .presence true } ∧ .plaitLow p 70 ∈ t.out) ∧
  (∀ (s : State) (p : Nat) (y : Presence), s.running = true → s.quiet → (s.port p).window = .presence true →
    12 ≤ y.fallUs → y.fallUs ≤ 50 → 25 ≤ y.widthUs → y.widthUs ≤ 100 → (s.port p).chainLen < (s.port p).profile.maxPos →
    Runs (.presenceWindowClose p (some y) false) s (.ports :: .spc :: opParts) fun t =>
      (t.port p).state = .enumerate ∧ (t.port p).enumPos = (s.port p).chainLen + 1 ∧ (t.port p).expect = true
        ∧ (t.port p).event = setBit (s.port p).event 0 true ∧ (t.port p).trimSent = false
        ∧ ∀ i, 1 ≤ i → i ≤ (s.port p).chainLen → (t.pos p i).verdict ≠ 2) ∧
  (∀ (s : State) (p : Nat) (y : Presence), s.running = true → s.quiet → (s.port p).window = .presence true →
    12 ≤ y.fallUs → y.fallUs ≤ 50 → 25 ≤ y.widthUs → y.widthUs ≤ 100 → (s.port p).profile.maxPos ≤ (s.port p).chainLen →
    Runs (.presenceWindowClose p (some y) false) s (.ports :: talkParts) fun t =>
      (t.port p).state = (s.port p).state ∧ (t.port p).chainLen = (s.port p).chainLen ∧ (t.port p).window = .none
        ∧ (t.port p).event = setBit (setBit (s.port p).event 0 true) 5 true ∧ (t.port p).trimSent = false) ∧
  (∀ (s : State) (p w : Nat), s.running = true → s.quiet → (s.port p).state = .running → (s.port p).busy = false →
    25 ≤ w → w ≤ 100 →
    Runs (.unsolicitedPresence p w) s (.ports :: talkParts) fun t =>
      t.port p = { s.port p with uprobe := true, event := setBit (s.port p).event 7 true }) ∧
  (∀ (s : State) (p e k : Nat) (c : Nat × Nat × Instr), c ∈ [(1, 2, .lineLow ⟨p, e, k⟩), (2, 3, .lineHigh p)] → s.running = true →
    s.quiet → (s.port p).live = true → (s.port p).txn = none → s.sch.ops = [] →
    Runs c.2.2 s (.ports :: .spc :: opParts) fun t =>
      (t.port p).state = .fault ∧ (t.port p).fault = c.1 ∧ (t.port p).present = 0 ∧ (t.port p).chainLen = 0
        ∧ (t.port p).jobs = [] ∧ (t.port p).event = setBit (s.port p).event c.2.1 true
        ∧ (s.stepDone 1 = true → t.irqStat.getLsbD 12 = true)) ∧
  (∀ (s : State) (p : Nat), s.running = true → s.quiet → s.mode = .service → (s.port p).state = .fault →
    (s.port p).window = .none →
    Runs (.faultRecoveryCheck p) s [.ports] fun t =>
      t.port p = { s.port p with window := .release }) ∧
  (∀ (s : State) (p : Nat), s.running = true → s.quiet → (s.port p).state = .fault → (s.port p).window = .release →
    s.sch.ops = [] →
    Runs (.faultReleaseWindowEnd p true) s (.ports :: .spc :: opParts) fun t =>
      (t.port p).state = .charge ∧ (t.port p).charge = true ∧ (t.port p).resetDue = true ∧ (t.port p).window = .none
        ∧ (t.port p).fault = 0) ∧
  (∀ (s : State) (p : Nat), s.running = true → s.quiet → (s.port p).state = .fault → (s.port p).window = .release →
    Runs (.faultReleaseWindowEnd p false) s [.ports] fun t => t.port p = { s.port p with window := .none, reenum := false })

/-- R183, R193, R207, R212, R216, R224, R226, R228, R230–R235: where a PING, COLLECT, READ_CERT, KEY_AGREE, CHALLENGE,
CATCHUP, CONSUME, WRITE_MEM or READ_MEM is the port's next work and holds what it needs, its command sends its frame with
the work's position and payload and makes it the transaction of the port: READ_CERT and CHALLENGE for the port's own jobs
and for VERIFY, the numbered three with the session's next MSEQ and their CMAC, KEY_AGREE with the session ended. With a
place free for the strong pull-up a command that has a hold takes it; a CONSUME with none waits in the order of the
requests and sends nothing (R195). A FINISH that is due goes out with its hold. ASSIGN and TRIM begin in other statements.
The clauses keep to the model's readings where the spec leaves them open (assumption log 21). -/
def Obligations.PlaitCommandsBegin : Prop :=
  (∀ (s : State) (p : Nat) (c : ChainCheck), s.Serves p (.check c) →
    Runs (.plaitPing p) s [.ports, .out] fun t =>
      t.port p = { s.port p with txn := some (.first .check opPing c.next []), spuOn := false }
        ∧ s.frameOut p c.next opPing [] ∈ t.out) ∧
  (∀ (s : State) (p i : Nat) (l : List Nat) (j : Job), s.Serves p (.job j) → j.kind = jobCollect → j.todo = i :: l →
    Runs (.plaitCollect p) s [.ports, .out] fun t =>
      t.port p = { s.port p with txn := some (.first .collect opCollect i []), spuOn := false }
        ∧ s.frameOut p i opCollect [] ∈ t.out) ∧
  (∀ (s : State) (p : Nat) (j : Job), s.Serves p (.job j) → j.kind = jobPrio →
    Runs (.plaitCollect p) s [.ports, .out] fun t =>
      t.port p = { s.port p with txn := some (.first .prio opCollect j.pos []), spuOn := false }
        ∧ s.frameOut p j.pos opCollect [] ∈ t.out) ∧
  (∀ (s : State) (p k : Nat) (j : Job) (a : Auth), s.Serves p (.job j) → j.kind = jobAuth → s.auth p j.pos = some a →
    a.stage = .cert k →
    Runs (.plaitReadCert p) s [.ports, .out] fun t =>
      (t.port p).txn = some (.first .auth opReadCert j.pos [BitVec.ofNat 8 k])
        ∧ t.auth p j.pos = some { a with begun := true } ∧ s.frameOut p j.pos opReadCert [BitVec.ofNat 8 k] ∈ t.out) ∧
  (∀ (s : State) (p n : Nat) (j : Job) (a : Auth), s.Serves p (.job j) → j.kind = jobAuth → s.auth p j.pos = some a →
    a.stage = .agree → (s.pos p j.pos).record = some n → s.placeFree p →
    Runs (.plaitKeyAgree p) s [.ports, .spc, .ldr, .out] fun t =>
      (t.port p).txn = some ((Txn.first .auth opKeyAgree j.pos (beBytes 64 a.epub.toNat ++ s.bindingBytes
          ++ beBytes 4 (s.record n).epoch.toNat)).held (min (certKaHold a.cert * 1000) (s.port p).spuLimitUs))
        ∧ (t.pos p j.pos).session = none
        ∧ s.frameOut p j.pos opKeyAgree (beBytes 64 a.epub.toNat ++ s.bindingBytes
          ++ beBytes 4 (s.record n).epoch.toNat) ∈ t.out) ∧
  (∀ (s : State) (p : Nat) (j : Job) (b : BeatPrep) (n : BitVec 64), s.Serves p (.job j) → j.kind = jobBeat →
    j.prep = some b → b.nonce = some n →
    Runs (.plaitChallenge p) s [.ports, .out] fun t =>
      t.port p = { s.port p with txn := some (.first .beat opChallenge j.pos (beBytes 8 n.toNat)), spuOn := false }
        ∧ s.frameOut p j.pos opChallenge (beBytes 8 n.toNat) ∈ t.out) ∧
  (∀ (s : State) (p n : Nat) (j : Job) (h : TagSession), s.Serves p (.job j) → j.kind = jobCatchup →
    (s.pos p j.pos).record = some n → (s.pos p j.pos).session = some h → h.mseq + 2 < 2 ^ 32 → s.placeFree p →
    Runs (.plaitCatchup p) s [.ports, .out] fun t =>
      (t.port p).txn = some ((Txn.first .catchup opCatchup j.pos (h.numbered "CU" (beBytes 6 (s.count n)))).held
          (s.nvHoldUs p j.pos))
        ∧ (t.pos p j.pos).session = some h.counted
        ∧ s.frameOut p j.pos opCatchup (h.numbered "CU" (beBytes 6 (s.count n))) ∈ t.out) ∧
  (∀ (s : State) (p : Nat) (o : Op) (h : TagSession), s.Serves p (.host o) → o.desc.opcode = 0x10 →
    o.pastPoint = true → s.aesWait o = some true → (s.pos p o.desc.position).session = some h → h.mseq + 2 < 2 ^ 32 →
    s.placeFree p →
    Runs (.plaitConsume p) s [.ports, .out] fun t =>
      (t.port p).txn = some ((Txn.first (.host o.ctx) opConsume o.desc.position (h.numbered "CN" (beBytes 6 o.count))).held
          (s.nvHoldUs p o.desc.position))
        ∧ (t.pos p o.desc.position).session = some h.counted ∧ o.ctx ∉ (t.port p).hostq
        ∧ s.frameOut p o.desc.position opConsume (h.numbered "CN" (beBytes 6 o.count)) ∈ t.out) ∧
  (∀ (s : State) (p : Nat) (o : Op) (h : TagSession), s.Serves p (.host o) → o.desc.opcode = 0x10 →
    o.pastPoint = true → s.aesWait o = some true → (s.pos p o.desc.position).session = some h → h.mseq + 2 < 2 ^ 32 →
    (4 ≤ s.spuUsed p ∨ s.spuQueue p = true) → s.nvHoldUs p o.desc.position ≠ 0 →
    Runs (.plaitConsume p) s [.ports, .sch] fun t =>
      (t.port p).txn = some { Txn.first (.host o.ctx) opConsume o.desc.position (h.numbered "CN" (beBytes 6 o.count)) with
          holdUs := s.nvHoldUs p o.desc.position }
        ∧ (t.port p).spuWait = some s.sch.spuSeq ∧ t.sch = { s.sch with spuSeq := s.sch.spuSeq + 1 }
        ∧ (t.pos p o.desc.position).session = some h.counted ∧ o.ctx ∉ (t.port p).hostq) ∧
  (∀ (s : State) (p k : Nat) (o : Op), s.Serves p (.host o) → o.fullVerify = true → s.isLate o.desc = false →
    s.posGate o.desc o.desc.unverified = none →
    ((s.auth p o.desc.position).getD (authNew (.host o.ctx))).stage = .cert k →
    Runs (.plaitReadCert p) s [.ports, .out] fun t =>
      (t.port p).txn = some (.first (.host o.ctx) opReadCert o.desc.position [BitVec.ofNat 8 k])
        ∧ o.ctx ∉ (t.port p).hostq ∧ s.frameOut p o.desc.position opReadCert [BitVec.ofNat 8 k] ∈ t.out) ∧
  (∀ (s u : State) (p : Nat) (o : Op) (h : TagSession) (bs : Bytes), s.Serves p (.host o) → o.desc.opcode = 0x01 →
    o.fullVerify = false → s.isLate o.desc = false → s.posGate o.desc o.desc.unverified = none →
    s.aesWait o = some true → (s.pos p o.desc.position).session = some h → s.draw 8 = some (bs, u) →
    Runs (.plaitChallenge p) s [.ports, .prf, .sch, .out] fun t =>
      (t.port p).txn = some (.first (.host o.ctx) opChallenge o.desc.position bs) ∧ t.prf = u.prf
        ∧ o.ctx ∉ (t.port p).hostq ∧ (∀ x ∈ t.sch.ops, x.ctx = o.ctx → x.pastPoint = true)
        ∧ s.frameOut p o.desc.position opChallenge bs ∈ t.out) ∧
  (∀ (s : State) (p : Nat) (o : Op) (h : TagSession), s.Serves p (.host o) → o.desc.opcode = 0x31 →
    s.isLate o.desc = false → s.posGate o.desc (some .retryLater) = none → s.aesWait o = some true →
    (s.pos p o.desc.position).session = some h → h.mseq + 2 < 2 ^ 32 → s.placeFree p → s.nvHoldUs p o.desc.position ≠ 0 →
    Runs (.plaitWriteMem p) s [.ports, .sch, .out] fun t =>
      (t.port p).txn = some ((Txn.first (.host o.ctx) opWriteMem o.desc.position (h.numbered "WM" o.desc.memTail)).held
          (s.nvHoldUs p o.desc.position))
        ∧ (t.port p).spuPlace = true ∧ (t.port p).spuOn = true
        ∧ (t.pos p o.desc.position).session = some h.counted ∧ o.ctx ∉ (t.port p).hostq
        ∧ (∀ x ∈ t.sch.ops, x.ctx = o.ctx → x.pastPoint = true)
        ∧ s.frameOut p o.desc.position opWriteMem (h.numbered "WM" o.desc.memTail) ∈ t.out) ∧
  (∀ (s : State) (p : Nat) (o : Op), s.Serves p (.host o) → o.desc.opcode = 0x30 → s.isLate o.desc = false →
    s.posGate o.desc none = none →
    Runs (.plaitReadMem p) s [.ports, .out] fun t =>
      (t.port p).txn = some (.first (.host o.ctx) opReadMem o.desc.position
          (beBytes 2 (o.desc.param0.toNat + o.offset))) ∧ o.ctx ∉ (t.port p).hostq
        ∧ s.frameOut p o.desc.position opReadMem (beBytes 2 (o.desc.param0.toNat + o.offset)) ∈ t.out) ∧
  (∀ (s : State) (p : Nat) (x : Txn), s.running = true → s.quiet → (s.port p).txn = some x → x.due = true →
    x.finish = true → x.op ≠ opAssign → x.op ≠ opTrim → x.holdUs ≠ 0 → s.placeFree p →
    Runs (.plaitFinish p) s [.ports, .sch, .out] fun t =>
      (t.port p).txn = some { x with holding := true, due := false } ∧ (t.port p).spuPlace = true
        ∧ (t.port p).spuOn = true ∧ s.frameOut p x.pos opFinish [] ∈ t.out)

/-- R182, R194–R196, R215, R216, R219, R220, R231, R233, R396: an attempt that fails is repeated at once while RETRIES
allow; the last of a BEAT is a miss and, with no answer at all, calls for a chain check; a beat answer of the right MAC
clears the misses, one of a wrong MAC ends the session; PENDING leaves a FINISH due; places for the strong pull-up, its end at the hold time, and SPU_SHORT, which ends
the command without a retry.
The clauses keep to the model's readings where the spec leaves them open (assumption log 60). -/
def Obligations.PlaitAnswers : Prop :=
  (∀ (s : State) (p e k : Nat) (x : Txn), s.Expects p x → x.owner = .beat → x.op = opChallenge → x.holdUs = 0 →
    x.finish = false → x.tries < (s.port p).profile.retries →
    Runs (.answerTimeout ⟨p, e, k⟩) s [.ports, .out] fun t =>
      (t.port p).txn = some { x with tries := x.tries + 1, holdUs := 0, holdUsed := 0, holding := false, due := false }
        ∧ (t.port p).noanswer = satInc (s.port p).noanswer
        ∧ (t.port p).contention = satAdd (s.port p).contention k ∧ (t.port p).retries = satInc (s.port p).retries
        ∧ s.frameOut p x.pos opChallenge x.payload ∈ t.out) ∧
  (∀ (s : State) (p : Nat) (x : Txn) (f : RxFrame), s.Expects p x → x.owner = .beat → x.op = opChallenge → x.holdUs = 0 →
    x.finish = false → x.tries < (s.port p).profile.retries →
    (f.erasures ≠ 0 ∨ parseTagFrame x.pos opChallenge f.bits = none) →
    Runs (.tagAnswerReceived p f) s [.ports, .out] fun t =>
      (t.port p).txn = some { x with
          tries := x.tries + 1, holdUs := 0, holdUsed := 0, holding := false, due := false, silent := false }
        ∧ (t.port p).retries = satInc (s.port p).retries
        ∧ (t.port p).erasures = satAdd (s.port p).erasures f.erasures
        ∧ s.frameOut p x.pos opChallenge x.payload ∈ t.out) ∧
  (∀ (s : State) (p e k : Nat) (x : Txn) (c : AccClass), s.Expects p x → x.owner = .beat → x.op = opChallenge →
    x.finish = false → x.silent = true → (s.port p).profile.retries ≤ x.tries → (s.port p).check = none →
    (s.port p).state = .running → (s.port p).isPresent x.pos = true → x.pos < (s.port p).chainLen → s.accClass (s.pos p x.pos).classId = some c →
    (s.pos p x.pos).misses + 1 < c.missLimit → (s.pos p x.pos).misses < 15 →
    Runs (.answerTimeout ⟨p, e, k⟩) s [.ports, .sch, .ldr] fun t =>
      (t.port p).txn = none ∧ (t.pos p x.pos).misses = (s.pos p x.pos).misses + 1
        ∧ t.sch.misses = satInc s.sch.misses ∧ (t.pos p x.pos).verdict = (s.pos p x.pos).verdict
        ∧ (t.port p).check = some { pos := x.pos, next := x.pos + 1, answered := [] } ∧ t.ldr.records = s.ldr.records) ∧
  (∀ (s : State) (p n : Nat) (x : Txn) (f : RxFrame) (g : TagFrame) (h : TagSession), s.Expects p x → x.owner = .beat →
    x.op = opChallenge → f.erasures = 0 → parseTagFrame x.pos opChallenge f.bits = some g → g.tstat = 0 →
    (s.port p).check = none → (s.pos p x.pos).session = some h → (s.pos p x.pos).record = some n →
    beAt g.payload 0 6 = s.count n →
    Runs (.tagAnswerReceived p f) s (.ports :: .spc :: opParts) fun t =>
      (t.port p).txn = none ∧ t.ldr.records = s.ldr.records ∧ (t.pos p x.pos).parity = !(s.pos p x.pos).parity
        ∧ (slice g.payload 6 8 = macBeat h.ktb h.epoch (BitVec.ofNat 64 (beNat x.payload)) (s.count n) h.snap →
          (t.pos p x.pos).misses = 0 ∧ (t.pos p x.pos).verdict = (s.pos p x.pos).verdict
            ∧ (t.pos p x.pos).session = some { h with
                hist := (h.hist <<< 4) + g.crumb.zeroExtend 32, snap := (h.hist <<< 4) + g.crumb.zeroExtend 32 })
        ∧ (slice g.payload 6 8 ≠ macBeat h.ktb h.epoch (BitVec.ofNat 64 (beNat x.payload)) (s.count n) h.snap →
          (t.pos p x.pos).session = none ∧ ((s.pos p x.pos).verdict = 2 → (t.pos p x.pos).verdict = 1))) ∧
  (∀ (s : State) (p : Nat) (x : Txn) (f : RxFrame) (g : TagFrame), s.Expects p x → x.op = opCatchup → f.erasures = 0 →
    parseTagFrame x.pos opCatchup f.bits = some g → g.tstat = 1 → x.holdUsed < (s.port p).spuLimitUs →
    Runs (.tagAnswerReceived p f) s (.ports :: talkParts) fun t =>
      (t.port p).txn = some { x with
        finish := true, due := true, holdUs := (s.port p).spuLimitUs - x.holdUsed, tries := 0, silent := false }
        ∧ (t.port p).spuOn = false) ∧
  (∀ (s : State) (p n : Nat) (x : Txn), s.running = true → s.quiet → (s.port p).txn = some x →
    (s.port p).spuWait = some n → s.spuUsed p < 4 → x.op ≠ opAssign → x.op ≠ opTrim → x.finish = false → x.holdUs ≠ 0 →
    (∀ e ∈ s.ports, e.1 / 16 = p / 16 → e.1 ≠ p → ∀ m, e.2.spuWait = some m → n < m ∨ (n = m ∧ p < e.1)) →
    Runs (.spuPlaceGrant p) s [.ports, .sch, .out] fun t =>
      (t.port p).spuWait = none ∧ (t.port p).spuPlace = true ∧ (t.port p).spuOn = true
        ∧ (t.port p).txn = some { x with holding := true, due := false }
        ∧ s.frameOut p x.pos x.op x.payload ∈ t.out) ∧
  (∀ (s : State) (p : Nat) (x : Txn), s.running = true → s.quiet → (s.port p).txn = some x → x.holding = true →
    Runs (.spuHoldEnd p) s [.ports] fun t =>
      t.port p = { s.port p with
        spuOn := false, txn := some { x with holding := false, holdUsed := x.holdUsed + x.holdUs } }) ∧
  (∀ (s : State) (p : Nat) (x : Txn), s.running = true → s.quiet → (s.port p).txn = some x → x.holding = true →
    x.owner = .catchup → (s.port p).check = none →
    Runs (.spuShort p) s (.ports :: talkParts) fun t =>
      (t.port p).txn = none ∧ (t.port p).spuOn = false ∧ (t.port p).spuPlace = false
        ∧ (t.port p).event = setBit (s.port p).event 4 true ∧ (t.port p).state = (s.port p).state
        ∧ (t.port p).present = (s.port p).present)

/-! ## The journal's drain and compaction -/

/-- R80, R297, R300, R301: a drain program takes what the page and the erased slots allow; verified, it advances the anchor
and releases its entries; a slot that does not read back is programmed PAD, and the third such failure in a row pauses
the drain; a slot that holds a different valid entry is JOURNAL_CHAIN. A compaction programs a checkpoint of the next
epoch into the other slot, unless EARLY_WARNING has it wait, blows one fuse, and erases the old blocks and slot.
The clauses keep to the model's readings where the spec leaves them open (assumption log 10, 47). -/
def Obligations.JournalDrainsAndCompacts : Prop :=
  (∀ s : State, s.running = true → s.cnt.ready = true → s.cnt.drain = .idle → s.drainSize ≠ 0 →
    Runs .drainProgramStart s [.cnt] fun t => t.cnt = { s.cnt with drain := .programming s.drainSize }) ∧
  (∀ (s : State) (n : Nat) (l : List Readback) (e : Entry), s.running = true → s.cnt.drain = .programming n →
    (∀ r ∈ l, r = .equal) → (s.vig.buffer.take n).getLast? = some e →
    Runs (.drainReadbackDone l) s [.cnt, .vig, .flash] fun t =>
      t.flash = { s.flash with ring := writeRing s.flash.ring s.cnt.ringNext (s.vig.buffer.take n) }
        ∧ t.vig = { s.vig with
            headSeq := BitVec.ofNat 64 e.seq, chain := s.chainAfter s.vig.chain (s.vig.buffer.take n), anchorOk := true
            buffer := s.vig.buffer.drop n }
        ∧ t.cnt = { s.cnt with
            drain := .idle, drainFails := 0, drainFail := false, ringNext := (s.cnt.ringNext + n) % ringSlots }) ∧
  (∀ s : State, s.running = true → s.cnt.drain = .programming 1 → s.cnt.drainFails < 2 →
    Runs (.drainReadbackDone [.badMac]) s [.cnt, .flash] fun t =>
      t.flash = { s.flash with ring := tabPut s.flash.ring s.cnt.ringNext .pad }
        ∧ t.cnt = { s.cnt with
            drain := .idle, drainFails := s.cnt.drainFails + 1, ringNext := (s.cnt.ringNext + 1) % ringSlots
            drainRetries := satInc s.cnt.drainRetries }) ∧
  (∀ s : State, s.running = true → s.cnt.drain = .programming 1 → s.cnt.drainFails = 2 →
    Runs (.drainReadbackDone [.badMac]) s [.cnt, .flash, .irq] fun t =>
      t.cnt.drain = .paused (s.tick + 100000) ∧ t.cnt.drainFail = true ∧ t.cnt.drainFails = 0
        ∧ (s.stepDone 1 = true → t.irqStat.getLsbD 9 = true)) ∧
  (∀ s : State, s.running = true → s.mode = .service → s.cnt.drain = .programming 1 → s.cnt.compaction = .none →
    s.ldr.running = none →
    Runs (.drainReadbackDone [.otherValid]) s
        ([.mode, .mod, .vig, .otp, .rcp, .guards, .ports, .ent, .prf, .cnt, .ldr, .spc, .glz, .msp] ++ talkParts) fun t =>
      t.mode = .quarantine ∧ .journalChain ∈ t.vig.causes ∧ t.fab.enabled = 0 ∧ t.cnt.drain = .idle
        ∧ t.sch.ops = []) ∧
  (∀ (s : State) (u : BitVec 64), s.running = true → s.cnt.drain = .paused u →
    Runs .drainPauseEnd s [.cnt] fun t => t.cnt = { s.cnt with drain := .idle }) ∧
  (∀ s : State, s.running = true → s.compactionDue = true → s.spw.early = false →
    Runs .compactionStart s [.cnt, .flash] fun t =>
      (∃ k, t.cnt = { s.cnt with compaction := .program k true } ∧ k.epoch = s.otp.ratchet + 1
        ∧ k.seq = s.vig.headSeq.toNat ∧ k.chain = s.vig.chain ∧ k.binding = s.binding)
        ∧ t.ckptAt s.otherSlot = none ∧ t.flash.ring = s.flash.ring) ∧
  (∀ s : State, s.running = true → s.compactionDue = true → s.spw.early = true →
    Runs .compactionStart s [.cnt] fun t => ∃ k, t.cnt = { s.cnt with compaction := .program k false }) ∧
  (∀ (s : State) (k : Checkpoint), s.running = true → s.cnt.compaction = .program k true →
    Runs (.checkpointProgramDone true) s [.cnt, .flash] fun t =>
      t.ckptAt s.otherSlot = some k ∧ t.cnt = { s.cnt with compaction := .blow k (!s.spw.early) }) ∧
  (∀ (s : State) (k : Checkpoint), s.running = true → s.cnt.compaction = .blow k true → s.otp.ratchet < 65536 →
    Runs .ratchetFuseBlown s [.cnt, .otp, .irq] fun t =>
      t.otp = { s.otp with ratchet := s.otp.ratchet + 1 }
        ∧ t.cnt = { s.cnt with compaction := .erase, ckptSlot := s.otherSlot, ckptSeq := k.seq }
        ∧ (s.otp.ratchet + 1 = 65280 → s.stepDone 1 = true → t.irqStat.getLsbD 9 = true)) ∧
  (∀ s : State, s.running = true → s.cnt.compaction = .erase → s.bootSuspended = true →
    Runs .compactionEraseDone s [] fun t => t.cnt = s.cnt ∧ t.flash = s.flash) ∧
  (∀ s : State, s.running = true → s.cnt.compaction = .erase → s.bootSuspended = false →
    Runs .compactionEraseDone s [.cnt, .flash] fun t =>
      t.flash.ring = eraseOld s.flash.ring s.cnt.ckptSeq ∧ t.ckptAt s.otherSlot = none
        ∧ t.cnt = { s.cnt with compaction := .none, compactions := satInc s.cnt.compactions })

/-! ## Supply Watch -/

/-- R312, R313, R317–R319, R321, R322: a conversion samples the next enabled channel, once in a tick: V8 of a DC channel is
the mean of its latest 8 samples, an AC channel takes its sample less the offset; a BUS channel whose V8 is below WARN
raises EARLY_WARNING, which falls 10 ms after its condition; TRANSIENT ends 1 ms after its last sample; a whole ripple
window gives the range of its samples; and a cycle closes 1.5 periods after the last crossing with no frequency.
The clauses keep to the model's readings where the spec leaves them open (assumption log 63). -/
def Obligations.SupplyWatch : Prop :=
  (∀ (s : State) (nv c : Nat) (e : SupplyEntry), s.running = true → s.spw.running = true →
    s.spw.lastConv ≠ some s.tick → s.spwNext = some c → s.supplyEntry c = some e → e.ac = false → s.noBind →
    Runs (.spwConversion nv) s (.spw :: .msp :: talkParts) fun t =>
      t.spw.next = c + 1 ∧ t.spw.lastConv = some s.tick ∧ (t.spwChan c).count = (s.spwChan c).count + 1
        ∧ (t.spwChan c).level
          = min 65535 (tenths (mean ((supplyMv (spwCode nv) e.scale :: (s.spwChan c).samples).take 8)))
        ∧ (t.spwChan c).clip = (spwCode nv == 0 || spwCode nv == 16383) ∧ ∀ d, d ≠ c → t.spwChan d = s.spwChan d) ∧
  (∀ (s : State) (nv c : Nat) (e : SupplyEntry), s.running = true → s.spw.running = true →
    s.spw.lastConv ≠ some s.tick → s.spwNext = some c → s.supplyEntry c = some e → e.ac = true → s.noBind →
    Runs (.spwConversion nv) s (.spw :: .msp :: talkParts) fun t =>
      t.spw.next = c + 1 ∧ t.spw.lastConv = some s.tick ∧ (t.spwChan c).count = (s.spwChan c).count + 1
        ∧ (t.spwChan c).samples.head? = some (supplyMv (spwCode nv) e.scale - (s.spwChan c).offset)
        ∧ ∀ d, d ≠ c → t.spwChan d = s.spwChan d) ∧
  (∀ (s : State) (nv : Nat), s.running = true → (s.spw.running = false ∨ s.spw.lastConv = some s.tick) →
    Runs (.spwConversion nv) s [] fun t => t.spw = s.spw) ∧
  (∀ (s : State) (nv c : Nat) (e : SupplyEntry), s.running = true → s.spw.running = true →
    s.spw.lastConv ≠ some s.tick → s.spwNext = some c → s.supplyEntry c = some e → e.ac = false → e.bus = true →
    mean ((supplyMv (spwCode nv) e.scale :: (s.spwChan c).samples).take 8) < mv e.warn → s.spw.early = false →
    s.noBind →
    Runs (.spwConversion nv) s (.spw :: .msp :: talkParts) fun t =>
      (t.spwChan c).lost = true ∧ t.spw.early = true ∧ t.spw.rises = satInc s.spw.rises ∧ t.spw.lastRise = s.tick
        ∧ (s.stepDone 1 = true → t.irqStat.getLsbD 4 = true ∧ t.msp.attn.getLsbD 2 = true)) ∧
  (∀ (s : State) (u : BitVec 64), s.running = true → s.quiet → s.spw.early = true → s.spw.clearAt = some u → u ≤ s.tick →
    s.mod.snapDeferred = false → s.cnt.compaction = .none →
    Runs .earlyWarningFall s (.spw :: talkParts) fun t =>
      t.spw = { s.spw with early := false, clearAt := none }) ∧
  (∀ (s : State) (c : Nat) (u : BitVec 64), s.running = true → s.spw.running = true → c < 8 →
    (s.spwChan c).transEnd = some u → u ≤ s.tick →
    Runs (.transientEnd c) s (.spw :: talkParts) fun t =>
      t.spwChan c = { s.spwChan c with transEnd := none, events := setBit (s.spwChan c).events 3 false }
        ∧ ∀ d, d ≠ c → t.spwChan d = s.spwChan d) ∧
  (∀ (s : State) (c : Nat) (e : SupplyEntry) (lo hi : Rat), s.running = true → s.spw.running = true → c < 8 →
    s.supplyEntry c = some e → e.ac = false → s.tick.toNat % 1000 = 0 → (s.spwChan c).winWhole = true →
    (s.spwChan c).winMin = some lo → (s.spwChan c).winMax = some hi →
    Runs (.rippleWindowEnd c) s (.spw :: talkParts) fun t =>
      (t.spwChan c).ripple = min 65535 (tenths (hi - lo)) ∧ (t.spwChan c).winMin = none ∧ (t.spwChan c).winMax = none
        ∧ (mv e.ripple < hi - lo → (s.spwChan c).acquire = false → (s.spwChan c).events.getLsbD 7 = false →
          (t.spwChan c).events.getLsbD 7 = true)) ∧
  (∀ (s : State) (c : Nat) (e : SupplyEntry), s.running = true → s.spw.running = true → c < 8 →
    s.supplyEntry c = some e → e.ac = true → (s.spwChan c).synth = none → s.noBind →
    3000000 ≤ (s.tick - (s.spwChan c).lastCross).toNat * e.hz * 2 →
    Runs (.missingCrossingClose c) s (.spw :: .msp :: talkParts) fun t =>
      (t.spwChan c).synth = some 1 ∧ (t.spwChan c).cycles = (s.spwChan c).cycles + 1 ∧ (t.spwChan c).freq = 0)

/-! ## The window, DDR4, the link and the test access port -/

/-- R51, R352–R355, R451, R453, R454, R458, R477: window reads return what is there, with no side effect, or Completer
Abort and an error record; a window write reaches LABEL and USER of a BOUND record, or is dropped and recorded; what a
scrub finds is counted; the link's rate and width, its reset, bus mastering and the MSI-X masks take their new values, a
pending message leaving with its mask; and a test instruction that could drive the guards forces them safe. -/
def Obligations.WindowAndLinks : Prop :=
  (∀ (s : State) (off len : Nat) (chk : PageCheck), s.running = true → s.ldr.isOpen = true →
    (∀ i < len, s.readable (off + i) = true) → s.readable off = true →
    (∀ g ∈ windowPages off len, s.cached g = true) →
    Runs (.windowRead off len chk) s [.out] fun t =>
      .windowData ((List.range len).map fun i => s.windowByte (off + i)) ∈ t.out) ∧
  (∀ (s : State) (off len : Nat) (chk : PageCheck), s.running = true → s.ldr.isOpen = false →
    Runs (.windowRead off len chk) s [.out] fun t => .windowData (List.replicate len 0) ∈ t.out) ∧
  (∀ (s : State) (off len : Nat) (chk : PageCheck), s.running = true → s.ldr.isOpen = true → s.readable off = false →
    Runs (.windowRead off len chk) s [.out, .ldr] fun t =>
      .completerAbort ∈ t.out ∧ .aer aerAbort off ∈ t.out ∧ t.ldr = (if s.ldr.errValid then
          { s.ldr with cDrops := satInc s.ldr.cDrops, errMore := true }
        else { s.ldr with
          cDrops := satInc s.ldr.cDrops, errAddr := BitVec.ofNat 64 off, errCause := 1, errWrite := false
          errValid := true })) ∧
  (∀ (s : State) (off : Nat) (data : Bytes) (chk : PageCheck), s.running = true → s.mode = .service →
    s.ldr.isOpen = true → (∀ i < data.length, s.writable (off + i) = true) → (data.length = 4 ∨ data.length = 8) →
    off % data.length = 0 → s.cached (recordPage (off / 256)) = true → s.ldr.locked = [] →
    s.ldr.stalled = [] →
    (∀ k < 16, (s.record (16 * recordPage (off / 256) + k)).state = 0 →
      s.counterClear (16 * recordPage (off / 256) + k) = true) →
    Runs (.windowWrite off data chk) s [.ldr] fun t =>
      t.record (off / 256) = (s.record (off / 256)).withTail
          (overlay (s.record (off / 256)).tail (off % 256 - 0x80) data)
        ∧ ∀ m, m ≠ off / 256 → t.record m = s.record m) ∧
  (∀ (s : State) (off : Nat) (data : Bytes) (chk : PageCheck), s.running = true → s.mode ≠ .service →
    s.ldr.errValid = false →
    Runs (.windowWrite off data chk) s [.out, .ldr] fun t =>
      t.ldr = { s.ldr with
        cDrops := satInc s.ldr.cDrops, errAddr := BitVec.ofNat 64 off, errCause := 4, errWrite := true, errValid := true }
        ∧ .aer aerAbort off ∈ t.out) ∧
  (∀ s : State, s.running = true → s.stepDone 10 = true →
    Runs (.ldrFlush .pcie) s [.ldr] fun t => t.ldr = { s.ldr with flush := true, flushNext := s.ldr.flushNext || s.flushRuns }) ∧
  (∀ (s : State) (ce ue : Nat) (a : BitVec 64), s.running = true → s.links.trained = true → ue ≠ 0 →
    Runs (.ddrScrub ce ue a) s [.links, .out] fun t =>
      t.links.ddrCe = satAdd s.links.ddrCe ce ∧ t.links.ddrUe = satAdd s.links.ddrUe ue ∧ t.links.ddrErrAddr = a) ∧
  (∀ s : State, s.running = true → s.links.trained = true →
    Runs .ddrZqCalibration s [.links] fun t => t.links.zqCount = s.links.zqCount + 1) ∧
  (∀ (s : State) (speed : Nat) (width : Nat) (rev : Bool), s.running = true → s.stepDone 2 = true →
    s.links.perstN = true → s.links.linkUp = false → 1 ≤ speed → speed ≤ 4 → width ∈ [1, 2, 4, 8] →
    Runs (.pcieLinkUp speed width rev) s [.links] fun t =>
      t.links.linkUp = true ∧ t.links.speed = speed ∧ t.links.width = width ∧ t.links.reversed = rev) ∧
  (∀ s : State, s.running = true → s.mode = .service → s.links.linkUp = true →
    Runs .pcieHotReset s (.links :: warmParts) fun t =>
      t.mode = .stage ∧ t.mod.preludeOn = true ∧ t.mod.nextCause = { StartCause.none with kind := 2, perst := true }
        ∧ t.links.linkUp = false ∧ t.links.busMaster = false ∧ t.fab.enabled = 0) ∧
  (∀ (s : State) (d3 : Bool), s.running = true → s.quiet → s.links.linkUp = true → s.sch.held = [] → s.links.pba = 0 →
    s.links.busMaster = true →
    Runs (.bmeD3Change false d3) s [.links] fun t =>
      t.links = { s.links with busMaster := false, d3hot := d3 } ∧ t.canMaster = false) ∧
  (∀ (s : State) (v : Nat), s.running = true → s.stepDone 1 = true → v < 1024 → s.links.pba.getLsbD v = true →
    s.links.fnMask = false → s.canMaster = true → tabGet 0 s.links.msixTable (16 * v + 12) = 1 →
    Runs (.msixUnmask (some v)) s [.links, .irq, .out] fun t =>
      .msix v ∈ t.out ∧ t.links.pba = setBit s.links.pba v false ∧ tabGet 0 t.links.msixTable (16 * v + 12) = 0) ∧
  (∀ (s : State) (i : TapInstr), s.running = true → i ∈ [.bypass, .idcode, .sample] →
    Runs (.tapInstructionLoad i) s [.links] fun t => t.links.tap = i) ∧
  (∀ (s : State) (i : TapInstr), s.running = true → i ∈ [.extest, .clamp, .highz, .vendor] → s.otp.stateOf < 3 →
    Runs (.tapInstructionLoad i) s [.links, .vig, .guards] fun t =>
      t.links.tap = i ∧ t.vig = { s.vig with force := true, forceTap := true } ∧ t.fab.enabled = 0) ∧
  (∀ (s : State) (i : TapInstr), s.running = true → i ∈ [.extest, .clamp, .highz, .vendor] → 3 ≤ s.otp.stateOf →
    Runs (.tapInstructionLoad i) s [.links] fun t => t.links.tap = .bypass)

/-! ## The scheduler -/

/-- R25, R138, R234, R391, R393, R395, R396, R402–R406, R416, R417: an epoch, once at a multiple of 10 of
TICK_NOW, puts new classes in force, makes a rejoining engine that
passed ACTIVE, releases the beat that is due with the next one a period on, and drops one that has not begun by its
deadline, which is a miss; a warm class's beat may be prepared before its release, its record copied from the cache, each
pause for confirmed work counted, and one that stands paused is finished; and a class becomes warm two periods after its
first release.
The clauses keep to the model's readings where the spec leaves them open (assumption log 25, 55). -/
def Obligations.SchedulerEpochs : Prop :=
  (∀ s : State, s.running = true → s.quiet → s.sch.epochDue = false → s.rcp.activating = none →
    Runs .schedulerEpoch s [] fun t => t.sch = s.sch ∧ t.ports = s.ports) ∧
  (∀ (s : State) (n : List AccClass × List CtrClass), s.running = true → s.quiet → s.sch.epochDue = true → s.prfQuiet → s.mode ≠ .service → s.que = [] →
    s.sch.ops = [] → s.rcp.activating = none → s.sch.classesNew = some n →
    Runs .schedulerEpoch s (.rcp :: talkParts) fun t => t.sch.acc = n.1 ∧ t.sch.ctr = n.2 ∧ t.sch.classesNew = none) ∧
  (∀ (s : State) (u : Nat), s.running = true → s.quiet → s.sch.epochDue = true → s.prfQuiet → s.ports = [] → s.que = [] → s.sch.ops = [] →
    s.rcp.activating = none → 128 ≤ u → u < 176 → s.unitIs u .rejoining = true → (s.unit u).passed = true →
    Runs .schedulerEpoch s (.rcp :: talkParts) fun t => t.unit u = { s.unit u with st := .active, passed := false }) ∧
  (∀ (s : State) (p i r : Nat) (x : Port) (y : Pos), s.running = true → s.quiet → s.sch.epochDue = true → s.prfQuiet → s.mode = .service → s.que = [] →
    s.sch.ops = [] → s.rcp.activating = none → s.sch.classesNew = none → s.ports = [(p, x)] → x.pos = [(i, y)] →
    s.unitIs p .active = true → x.state = .running → x.jobs = [] → x.probeAt = none → x.collectAt = none →
    y.beatAt = some r → r ≤ s.tick.toNat → y.authAt = none → y.prioAt = none → y.catchupAt = none →
    y.catchupDue = false → y.shadow = none →
    Runs .schedulerEpoch s (.rcp :: .ports :: .prf :: .ldr :: talkParts) fun t =>
      (t.pos p i).beatAt = some (r + s.beatPeriod p i) ∧ (t.pos p i).beatBusy = true
        ∧ t.sch.released = satInc s.sch.released) ∧
  (∀ (s : State) (p i : Nat) (x : Port) (y : Pos) (j : Job) (c : AccClass), s.running = true → s.quiet → s.sch.epochDue = true → s.prfQuiet →
    s.mode = .service → s.que = [] → s.sch.ops = [] → s.rcp.activating = none → s.sch.classesNew = none →
    s.ports = [(p, x)] → x.pos = [(i, y)] → x.jobs = [j] → j.kind = jobBeat → j.pos = i → j.deadline ≤ s.tick.toNat →
    x.txn = none → x.probeAt = none → x.collectAt = none → y.beatAt = none → y.authAt = none → y.prioAt = none →
    y.catchupAt = none → s.accClass y.classId = some c → y.misses + 1 < c.missLimit → y.misses < 15 →
    Runs .schedulerEpoch s (.rcp :: .ports :: .ldr :: talkParts) fun t =>
      (t.port p).jobs = [] ∧ (t.pos p i).misses = y.misses + 1 ∧ (t.pos p i).beatBusy = false
        ∧ t.sch.beatsLate = satInc s.sch.beatsLate ∧ t.sch.misses = satInc s.sch.misses
        ∧ t.ldr.records = s.ldr.records) ∧
  (∀ (s : State) (p i n : Nat) (run : SpecRun) (h : TagSession), s.running = true → s.quiet → s.mayPrepare p i = true →
    (s.pos p i).record = some n → (s.pos p i).session = some h → s.pageThere (recordPage n) → s.server 1 = none →
    Runs (.beatPrepareStart p i run) s [.ports, .spc] fun t =>
      (∃ b, (t.pos p i).shadow = some b ∧ b.copy = some (s.record n) ∧ b.nonce = none ∧ b.page = recordPage n
        ∧ b.frame = false ∧ b.epoch = h.epoch ∧ b.rcpGen = s.rcp.gen)
        ∧ t.spc = { s.spc with started := satInc s.spc.started, preemptions := satAdd s.spc.preemptions run.pauses }) ∧
  (∀ (s : State) (p i l : Nat) (run : SpecRun) (b : BeatPrep) (n : BitVec 64), s.running = true → s.quiet →
    (s.pos p i).shadow = some b → b.lane = some l → b.nonce = some n → run.lane = none →
    Runs (.beatPrepareStart p i run) s [.ports, .spc] fun t =>
      (t.pos p i).shadow = some (s.prepMac p i b n)
        ∧ t.spc = { s.spc with preemptions := satAdd s.spc.preemptions run.pauses }) ∧
  (∀ (s : State) (p i : Nat) (run : SpecRun), s.running = true → s.quiet → s.mayPrepare p i = false →
    (∀ b, (s.pos p i).shadow = some b → b.lane = none) →
    Runs (.beatPrepareStart p i run) s [] fun t => t.pos p i = s.pos p i) ∧
  (∀ (s : State) (c f : Nat) (a : AccClass), s.running = true → s.mode = .service →
    tabFind s.sch.firstBeat c = some f → s.accClass c = some a → f - 1 + 2 * a.beatMs * 1000 ≤ s.tick.toNat →
    Runs (.classWarm c) s [.sch] fun t => t.sch = { s.sch with warm := insertNew s.sch.warm c })

/-! ## The whole block -/

/-- A step takes the command at the front of the queue and runs it with the queue's rest; on an empty queue the block idles
(the model's own choice, assumption log 1). -/
def Obligations.StepRunsTheFront : Prop :=
  (∀ (s : State) (c : Instr) (l : List Instr), step { s with pending := c :: l } = exec c { s with pending := l }) ∧
  (∀ s : State, s.pending = [] → step s = .next s)

/-- Every command completes, and none touches the queue of those that wait: a command for which the state holds no occasion
changes nothing (the model's own choice, assumption log 2). -/
def Obligations.EveryCommandCompletes : Prop :=
  ∀ (c : Instr) (s : State), ∃ t, exec c s = .next t ∧ t.pending = s.pending ∧ ∀ o ∈ s.out, o ∈ t.out

/-- R40, R75: the block before its first power: UNPOWERED, no guard enabled, no command waiting, nothing listed in the
anchor's buffer; R20: the Start value of each kept field. The other values of a part never powered are the model's own
(assumption log 4, 5). -/
def Obligations.ResetState : Prop :=
  State.reset.guardsSafe ∧ State.reset.mode = .unpowered ∧ State.reset.pending = [] ∧ State.reset.running = false
    ∧ State.reset.fab.enabled = 0 ∧ State.reset.vig.intact = false ∧ State.reset.vig.buffer = []
    ∧ State.reset.kept = { irqEn := 0x1FFF, attnEn := 0xF, lead := 16 } ∧ State.reset.mod.stageStep = 0
    ∧ (∀ p i, (State.reset.pos p i).verdict = 0) ∧ ∀ q, (State.reset.queue q).state = 0

/-- R39, R47, R85, R102: whatever a step does, no guard is enabled afterwards outside SERVICE, while the guard-force line is
asserted, or from the acceptance of a RETIRE on.
That a RETIRE counts from its acceptance is the model's reading (assumption log 32). -/
def Obligations.GuardsStaySafe : Prop :=
  ∀ s t : State, s.guardsSafe → step s = .next t → t.guardsSafe
end

