-- ==== Sys2Proof/Laws/State.lean ====
section
/-! SUPPORT. What each update of the state leaves alone: one lemma per field per update, so that no proof unfolds a
record update. -/

namespace Sys2Proof.Machine

variable (s : State)

/-! ## emit -/

@[simp] theorem State.emit_pending (o : Output) : (s.emit o).pending = s.pending := rfl
@[simp] theorem State.emit_free (o : Output) : (s.emit o).free = s.free := rfl
@[simp] theorem State.emit_mode (o : Output) : (s.emit o).mode = s.mode := rfl
@[simp] theorem State.emit_refclk (o : Output) : (s.emit o).refclk = s.refclk := rfl
@[simp] theorem State.emit_tick (o : Output) : (s.emit o).tick = s.tick := rfl
@[simp] theorem State.emit_kept (o : Output) : (s.emit o).kept = s.kept := rfl
@[simp] theorem State.emit_mod (o : Output) : (s.emit o).mod = s.mod := rfl
@[simp] theorem State.emit_vig (o : Output) : (s.emit o).vig = s.vig := rfl
@[simp] theorem State.emit_otp (o : Output) : (s.emit o).otp = s.otp := rfl
@[simp] theorem State.emit_life (o : Output) : (s.emit o).life = s.life := rfl
@[simp] theorem State.emit_rcp (o : Output) : (s.emit o).rcp = s.rcp := rfl
@[simp] theorem State.emit_fab (o : Output) : (s.emit o).fab = s.fab := rfl
@[simp] theorem State.emit_ports (o : Output) : (s.emit o).ports = s.ports := rfl
@[simp] theorem State.emit_ent (o : Output) : (s.emit o).ent = s.ent := rfl
@[simp] theorem State.emit_prf (o : Output) : (s.emit o).prf = s.prf := rfl
@[simp] theorem State.emit_rngEmpty (o : Output) : (s.emit o).rngEmpty = s.rngEmpty := rfl
@[simp] theorem State.emit_cnt (o : Output) : (s.emit o).cnt = s.cnt := rfl
@[simp] theorem State.emit_flash (o : Output) : (s.emit o).flash = s.flash := rfl
@[simp] theorem State.emit_spw (o : Output) : (s.emit o).spw = s.spw := rfl
@[simp] theorem State.emit_ldr (o : Output) : (s.emit o).ldr = s.ldr := rfl
@[simp] theorem State.emit_que (o : Output) : (s.emit o).que = s.que := rfl
@[simp] theorem State.emit_sch (o : Output) : (s.emit o).sch = s.sch := rfl
@[simp] theorem State.emit_spc (o : Output) : (s.emit o).spc = s.spc := rfl
@[simp] theorem State.emit_glz (o : Output) : (s.emit o).glz = s.glz := rfl
@[simp] theorem State.emit_links (o : Output) : (s.emit o).links = s.links := rfl
@[simp] theorem State.emit_msp (o : Output) : (s.emit o).msp = s.msp := rfl
@[simp] theorem State.emit_sts (o : Output) : (s.emit o).sts = s.sts := rfl
@[simp] theorem State.emit_irqStat (o : Output) : (s.emit o).irqStat = s.irqStat := rfl
@[simp] theorem State.emit_holdPcie (o : Output) : (s.emit o).holdPcie = s.holdPcie := rfl
@[simp] theorem State.emit_holdMsp (o : Output) : (s.emit o).holdMsp = s.holdMsp := rfl

/-! ## setPort -/

@[simp] theorem State.setPort_pending (p : Nat) (x : Port) : (s.setPort p x).pending = s.pending := rfl
@[simp] theorem State.setPort_out (p : Nat) (x : Port) : (s.setPort p x).out = s.out := rfl
@[simp] theorem State.setPort_free (p : Nat) (x : Port) : (s.setPort p x).free = s.free := rfl
@[simp] theorem State.setPort_mode (p : Nat) (x : Port) : (s.setPort p x).mode = s.mode := rfl
@[simp] theorem State.setPort_refclk (p : Nat) (x : Port) : (s.setPort p x).refclk = s.refclk := rfl
@[simp] theorem State.setPort_tick (p : Nat) (x : Port) : (s.setPort p x).tick = s.tick := rfl
@[simp] theorem State.setPort_kept (p : Nat) (x : Port) : (s.setPort p x).kept = s.kept := rfl
@[simp] theorem State.setPort_mod (p : Nat) (x : Port) : (s.setPort p x).mod = s.mod := rfl
@[simp] theorem State.setPort_vig (p : Nat) (x : Port) : (s.setPort p x).vig = s.vig := rfl
@[simp] theorem State.setPort_otp (p : Nat) (x : Port) : (s.setPort p x).otp = s.otp := rfl
@[simp] theorem State.setPort_life (p : Nat) (x : Port) : (s.setPort p x).life = s.life := rfl
@[simp] theorem State.setPort_rcp (p : Nat) (x : Port) : (s.setPort p x).rcp = s.rcp := rfl
@[simp] theorem State.setPort_fab (p : Nat) (x : Port) : (s.setPort p x).fab = s.fab := rfl
@[simp] theorem State.setPort_ent (p : Nat) (x : Port) : (s.setPort p x).ent = s.ent := rfl
@[simp] theorem State.setPort_prf (p : Nat) (x : Port) : (s.setPort p x).prf = s.prf := rfl
@[simp] theorem State.setPort_rngEmpty (p : Nat) (x : Port) : (s.setPort p x).rngEmpty = s.rngEmpty := rfl
@[simp] theorem State.setPort_cnt (p : Nat) (x : Port) : (s.setPort p x).cnt = s.cnt := rfl
@[simp] theorem State.setPort_flash (p : Nat) (x : Port) : (s.setPort p x).flash = s.flash := rfl
@[simp] theorem State.setPort_spw (p : Nat) (x : Port) : (s.setPort p x).spw = s.spw := rfl
@[simp] theorem State.setPort_ldr (p : Nat) (x : Port) : (s.setPort p x).ldr = s.ldr := rfl
@[simp] theorem State.setPort_que (p : Nat) (x : Port) : (s.setPort p x).que = s.que := rfl
@[simp] theorem State.setPort_sch (p : Nat) (x : Port) : (s.setPort p x).sch = s.sch := rfl
@[simp] theorem State.setPort_spc (p : Nat) (x : Port) : (s.setPort p x).spc = s.spc := rfl
@[simp] theorem State.setPort_glz (p : Nat) (x : Port) : (s.setPort p x).glz = s.glz := rfl
@[simp] theorem State.setPort_links (p : Nat) (x : Port) : (s.setPort p x).links = s.links := rfl
@[simp] theorem State.setPort_msp (p : Nat) (x : Port) : (s.setPort p x).msp = s.msp := rfl
@[simp] theorem State.setPort_sts (p : Nat) (x : Port) : (s.setPort p x).sts = s.sts := rfl
@[simp] theorem State.setPort_irqStat (p : Nat) (x : Port) : (s.setPort p x).irqStat = s.irqStat := rfl
@[simp] theorem State.setPort_holdPcie (p : Nat) (x : Port) : (s.setPort p x).holdPcie = s.holdPcie := rfl
@[simp] theorem State.setPort_holdMsp (p : Nat) (x : Port) : (s.setPort p x).holdMsp = s.holdMsp := rfl

/-! ## setPos -/

@[simp] theorem State.setPos_pending (p i : Nat) (x : Pos) : (s.setPos p i x).pending = s.pending := rfl
@[simp] theorem State.setPos_out (p i : Nat) (x : Pos) : (s.setPos p i x).out = s.out := rfl
@[simp] theorem State.setPos_free (p i : Nat) (x : Pos) : (s.setPos p i x).free = s.free := rfl
@[simp] theorem State.setPos_mode (p i : Nat) (x : Pos) : (s.setPos p i x).mode = s.mode := rfl
@[simp] theorem State.setPos_refclk (p i : Nat) (x : Pos) : (s.setPos p i x).refclk = s.refclk := rfl
@[simp] theorem State.setPos_tick (p i : Nat) (x : Pos) : (s.setPos p i x).tick = s.tick := rfl
@[simp] theorem State.setPos_kept (p i : Nat) (x : Pos) : (s.setPos p i x).kept = s.kept := rfl
@[simp] theorem State.setPos_mod (p i : Nat) (x : Pos) : (s.setPos p i x).mod = s.mod := rfl
@[simp] theorem State.setPos_vig (p i : Nat) (x : Pos) : (s.setPos p i x).vig = s.vig := rfl
@[simp] theorem State.setPos_otp (p i : Nat) (x : Pos) : (s.setPos p i x).otp = s.otp := rfl
@[simp] theorem State.setPos_life (p i : Nat) (x : Pos) : (s.setPos p i x).life = s.life := rfl
@[simp] theorem State.setPos_rcp (p i : Nat) (x : Pos) : (s.setPos p i x).rcp = s.rcp := rfl
@[simp] theorem State.setPos_fab (p i : Nat) (x : Pos) : (s.setPos p i x).fab = s.fab := rfl
@[simp] theorem State.setPos_ent (p i : Nat) (x : Pos) : (s.setPos p i x).ent = s.ent := rfl
@[simp] theorem State.setPos_prf (p i : Nat) (x : Pos) : (s.setPos p i x).prf = s.prf := rfl
@[simp] theorem State.setPos_rngEmpty (p i : Nat) (x : Pos) : (s.setPos p i x).rngEmpty = s.rngEmpty := rfl
@[simp] theorem State.setPos_cnt (p i : Nat) (x : Pos) : (s.setPos p i x).cnt = s.cnt := rfl
@[simp] theorem State.setPos_flash (p i : Nat) (x : Pos) : (s.setPos p i x).flash = s.flash := rfl
@[simp] theorem State.setPos_spw (p i : Nat) (x : Pos) : (s.setPos p i x).spw = s.spw := rfl
@[simp] theorem State.setPos_ldr (p i : Nat) (x : Pos) : (s.setPos p i x).ldr = s.ldr := rfl
@[simp] theorem State.setPos_que (p i : Nat) (x : Pos) : (s.setPos p i x).que = s.que := rfl
@[simp] theorem State.setPos_sch (p i : Nat) (x : Pos) : (s.setPos p i x).sch = s.sch := rfl
@[simp] theorem State.setPos_spc (p i : Nat) (x : Pos) : (s.setPos p i x).spc = s.spc := rfl
@[simp] theorem State.setPos_glz (p i : Nat) (x : Pos) : (s.setPos p i x).glz = s.glz := rfl
@[simp] theorem State.setPos_links (p i : Nat) (x : Pos) : (s.setPos p i x).links = s.links := rfl
@[simp] theorem State.setPos_msp (p i : Nat) (x : Pos) : (s.setPos p i x).msp = s.msp := rfl
@[simp] theorem State.setPos_sts (p i : Nat) (x : Pos) : (s.setPos p i x).sts = s.sts := rfl
@[simp] theorem State.setPos_irqStat (p i : Nat) (x : Pos) : (s.setPos p i x).irqStat = s.irqStat := rfl
@[simp] theorem State.setPos_holdPcie (p i : Nat) (x : Pos) : (s.setPos p i x).holdPcie = s.holdPcie := rfl
@[simp] theorem State.setPos_holdMsp (p i : Nat) (x : Pos) : (s.setPos p i x).holdMsp = s.holdMsp := rfl

/-! ## setQueue -/

@[simp] theorem State.setQueue_pending (q : Nat) (x : Queue) : (s.setQueue q x).pending = s.pending := rfl
@[simp] theorem State.setQueue_out (q : Nat) (x : Queue) : (s.setQueue q x).out = s.out := rfl
@[simp] theorem State.setQueue_free (q : Nat) (x : Queue) : (s.setQueue q x).free = s.free := rfl
@[simp] theorem State.setQueue_mode (q : Nat) (x : Queue) : (s.setQueue q x).mode = s.mode := rfl
@[simp] theorem State.setQueue_refclk (q : Nat) (x : Queue) : (s.setQueue q x).refclk = s.refclk := rfl
@[simp] theorem State.setQueue_tick (q : Nat) (x : Queue) : (s.setQueue q x).tick = s.tick := rfl
@[simp] theorem State.setQueue_kept (q : Nat) (x : Queue) : (s.setQueue q x).kept = s.kept := rfl
@[simp] theorem State.setQueue_mod (q : Nat) (x : Queue) : (s.setQueue q x).mod = s.mod := rfl
@[simp] theorem State.setQueue_vig (q : Nat) (x : Queue) : (s.setQueue q x).vig = s.vig := rfl
@[simp] theorem State.setQueue_otp (q : Nat) (x : Queue) : (s.setQueue q x).otp = s.otp := rfl
@[simp] theorem State.setQueue_life (q : Nat) (x : Queue) : (s.setQueue q x).life = s.life := rfl
@[simp] theorem State.setQueue_rcp (q : Nat) (x : Queue) : (s.setQueue q x).rcp = s.rcp := rfl
@[simp] theorem State.setQueue_fab (q : Nat) (x : Queue) : (s.setQueue q x).fab = s.fab := rfl
@[simp] theorem State.setQueue_ports (q : Nat) (x : Queue) : (s.setQueue q x).ports = s.ports := rfl
@[simp] theorem State.setQueue_ent (q : Nat) (x : Queue) : (s.setQueue q x).ent = s.ent := rfl
@[simp] theorem State.setQueue_prf (q : Nat) (x : Queue) : (s.setQueue q x).prf = s.prf := rfl
@[simp] theorem State.setQueue_rngEmpty (q : Nat) (x : Queue) : (s.setQueue q x).rngEmpty = s.rngEmpty := rfl
@[simp] theorem State.setQueue_cnt (q : Nat) (x : Queue) : (s.setQueue q x).cnt = s.cnt := rfl
@[simp] theorem State.setQueue_flash (q : Nat) (x : Queue) : (s.setQueue q x).flash = s.flash := rfl
@[simp] theorem State.setQueue_spw (q : Nat) (x : Queue) : (s.setQueue q x).spw = s.spw := rfl
@[simp] theorem State.setQueue_ldr (q : Nat) (x : Queue) : (s.setQueue q x).ldr = s.ldr := rfl
@[simp] theorem State.setQueue_sch (q : Nat) (x : Queue) : (s.setQueue q x).sch = s.sch := rfl
@[simp] theorem State.setQueue_spc (q : Nat) (x : Queue) : (s.setQueue q x).spc = s.spc := rfl
@[simp] theorem State.setQueue_glz (q : Nat) (x : Queue) : (s.setQueue q x).glz = s.glz := rfl
@[simp] theorem State.setQueue_links (q : Nat) (x : Queue) : (s.setQueue q x).links = s.links := rfl
@[simp] theorem State.setQueue_msp (q : Nat) (x : Queue) : (s.setQueue q x).msp = s.msp := rfl
@[simp] theorem State.setQueue_sts (q : Nat) (x : Queue) : (s.setQueue q x).sts = s.sts := rfl
@[simp] theorem State.setQueue_irqStat (q : Nat) (x : Queue) : (s.setQueue q x).irqStat = s.irqStat := rfl
@[simp] theorem State.setQueue_holdPcie (q : Nat) (x : Queue) : (s.setQueue q x).holdPcie = s.holdPcie := rfl
@[simp] theorem State.setQueue_holdMsp (q : Nat) (x : Queue) : (s.setQueue q x).holdMsp = s.holdMsp := rfl

/-! ## setUnit -/

@[simp] theorem State.setUnit_pending (u : Nat) (x : UnitSt) : (s.setUnit u x).pending = s.pending := rfl
@[simp] theorem State.setUnit_out (u : Nat) (x : UnitSt) : (s.setUnit u x).out = s.out := rfl
@[simp] theorem State.setUnit_free (u : Nat) (x : UnitSt) : (s.setUnit u x).free = s.free := rfl
@[simp] theorem State.setUnit_mode (u : Nat) (x : UnitSt) : (s.setUnit u x).mode = s.mode := rfl
@[simp] theorem State.setUnit_refclk (u : Nat) (x : UnitSt) : (s.setUnit u x).refclk = s.refclk := rfl
@[simp] theorem State.setUnit_tick (u : Nat) (x : UnitSt) : (s.setUnit u x).tick = s.tick := rfl
@[simp] theorem State.setUnit_kept (u : Nat) (x : UnitSt) : (s.setUnit u x).kept = s.kept := rfl
@[simp] theorem State.setUnit_mod (u : Nat) (x : UnitSt) : (s.setUnit u x).mod = s.mod := rfl
@[simp] theorem State.setUnit_vig (u : Nat) (x : UnitSt) : (s.setUnit u x).vig = s.vig := rfl
@[simp] theorem State.setUnit_otp (u : Nat) (x : UnitSt) : (s.setUnit u x).otp = s.otp := rfl
@[simp] theorem State.setUnit_life (u : Nat) (x : UnitSt) : (s.setUnit u x).life = s.life := rfl
@[simp] theorem State.setUnit_fab (u : Nat) (x : UnitSt) : (s.setUnit u x).fab = s.fab := rfl
@[simp] theorem State.setUnit_ports (u : Nat) (x : UnitSt) : (s.setUnit u x).ports = s.ports := rfl
@[simp] theorem State.setUnit_ent (u : Nat) (x : UnitSt) : (s.setUnit u x).ent = s.ent := rfl
@[simp] theorem State.setUnit_prf (u : Nat) (x : UnitSt) : (s.setUnit u x).prf = s.prf := rfl
@[simp] theorem State.setUnit_rngEmpty (u : Nat) (x : UnitSt) : (s.setUnit u x).rngEmpty = s.rngEmpty := rfl
@[simp] theorem State.setUnit_cnt (u : Nat) (x : UnitSt) : (s.setUnit u x).cnt = s.cnt := rfl
@[simp] theorem State.setUnit_flash (u : Nat) (x : UnitSt) : (s.setUnit u x).flash = s.flash := rfl
@[simp] theorem State.setUnit_spw (u : Nat) (x : UnitSt) : (s.setUnit u x).spw = s.spw := rfl
@[simp] theorem State.setUnit_ldr (u : Nat) (x : UnitSt) : (s.setUnit u x).ldr = s.ldr := rfl
@[simp] theorem State.setUnit_que (u : Nat) (x : UnitSt) : (s.setUnit u x).que = s.que := rfl
@[simp] theorem State.setUnit_sch (u : Nat) (x : UnitSt) : (s.setUnit u x).sch = s.sch := rfl
@[simp] theorem State.setUnit_spc (u : Nat) (x : UnitSt) : (s.setUnit u x).spc = s.spc := rfl
@[simp] theorem State.setUnit_glz (u : Nat) (x : UnitSt) : (s.setUnit u x).glz = s.glz := rfl
@[simp] theorem State.setUnit_links (u : Nat) (x : UnitSt) : (s.setUnit u x).links = s.links := rfl
@[simp] theorem State.setUnit_msp (u : Nat) (x : UnitSt) : (s.setUnit u x).msp = s.msp := rfl
@[simp] theorem State.setUnit_sts (u : Nat) (x : UnitSt) : (s.setUnit u x).sts = s.sts := rfl
@[simp] theorem State.setUnit_irqStat (u : Nat) (x : UnitSt) : (s.setUnit u x).irqStat = s.irqStat := rfl
@[simp] theorem State.setUnit_holdPcie (u : Nat) (x : UnitSt) : (s.setUnit u x).holdPcie = s.holdPcie := rfl
@[simp] theorem State.setUnit_holdMsp (u : Nat) (x : UnitSt) : (s.setUnit u x).holdMsp = s.holdMsp := rfl

/-! ## setOp -/

@[simp] theorem State.setOp_pending (o : Op) : (s.setOp o).pending = s.pending := rfl
@[simp] theorem State.setOp_out (o : Op) : (s.setOp o).out = s.out := rfl
@[simp] theorem State.setOp_free (o : Op) : (s.setOp o).free = s.free := rfl
@[simp] theorem State.setOp_mode (o : Op) : (s.setOp o).mode = s.mode := rfl
@[simp] theorem State.setOp_refclk (o : Op) : (s.setOp o).refclk = s.refclk := rfl
@[simp] theorem State.setOp_tick (o : Op) : (s.setOp o).tick = s.tick := rfl
@[simp] theorem State.setOp_kept (o : Op) : (s.setOp o).kept = s.kept := rfl
@[simp] theorem State.setOp_mod (o : Op) : (s.setOp o).mod = s.mod := rfl
@[simp] theorem State.setOp_vig (o : Op) : (s.setOp o).vig = s.vig := rfl
@[simp] theorem State.setOp_otp (o : Op) : (s.setOp o).otp = s.otp := rfl
@[simp] theorem State.setOp_life (o : Op) : (s.setOp o).life = s.life := rfl
@[simp] theorem State.setOp_rcp (o : Op) : (s.setOp o).rcp = s.rcp := rfl
@[simp] theorem State.setOp_fab (o : Op) : (s.setOp o).fab = s.fab := rfl
@[simp] theorem State.setOp_ports (o : Op) : (s.setOp o).ports = s.ports := rfl
@[simp] theorem State.setOp_ent (o : Op) : (s.setOp o).ent = s.ent := rfl
@[simp] theorem State.setOp_prf (o : Op) : (s.setOp o).prf = s.prf := rfl
@[simp] theorem State.setOp_rngEmpty (o : Op) : (s.setOp o).rngEmpty = s.rngEmpty := rfl
@[simp] theorem State.setOp_cnt (o : Op) : (s.setOp o).cnt = s.cnt := rfl
@[simp] theorem State.setOp_flash (o : Op) : (s.setOp o).flash = s.flash := rfl
@[simp] theorem State.setOp_spw (o : Op) : (s.setOp o).spw = s.spw := rfl
@[simp] theorem State.setOp_ldr (o : Op) : (s.setOp o).ldr = s.ldr := rfl
@[simp] theorem State.setOp_que (o : Op) : (s.setOp o).que = s.que := rfl
@[simp] theorem State.setOp_spc (o : Op) : (s.setOp o).spc = s.spc := rfl
@[simp] theorem State.setOp_glz (o : Op) : (s.setOp o).glz = s.glz := rfl
@[simp] theorem State.setOp_links (o : Op) : (s.setOp o).links = s.links := rfl
@[simp] theorem State.setOp_msp (o : Op) : (s.setOp o).msp = s.msp := rfl
@[simp] theorem State.setOp_sts (o : Op) : (s.setOp o).sts = s.sts := rfl
@[simp] theorem State.setOp_irqStat (o : Op) : (s.setOp o).irqStat = s.irqStat := rfl
@[simp] theorem State.setOp_holdPcie (o : Op) : (s.setOp o).holdPcie = s.holdPcie := rfl
@[simp] theorem State.setOp_holdMsp (o : Op) : (s.setOp o).holdMsp = s.holdMsp := rfl

/-! ## setSpw -/

@[simp] theorem State.setSpw_pending (c : Nat) (x : SpwChan) : (s.setSpw c x).pending = s.pending := rfl
@[simp] theorem State.setSpw_out (c : Nat) (x : SpwChan) : (s.setSpw c x).out = s.out := rfl
@[simp] theorem State.setSpw_free (c : Nat) (x : SpwChan) : (s.setSpw c x).free = s.free := rfl
@[simp] theorem State.setSpw_mode (c : Nat) (x : SpwChan) : (s.setSpw c x).mode = s.mode := rfl
@[simp] theorem State.setSpw_refclk (c : Nat) (x : SpwChan) : (s.setSpw c x).refclk = s.refclk := rfl
@[simp] theorem State.setSpw_tick (c : Nat) (x : SpwChan) : (s.setSpw c x).tick = s.tick := rfl
@[simp] theorem State.setSpw_kept (c : Nat) (x : SpwChan) : (s.setSpw c x).kept = s.kept := rfl
@[simp] theorem State.setSpw_mod (c : Nat) (x : SpwChan) : (s.setSpw c x).mod = s.mod := rfl
@[simp] theorem State.setSpw_vig (c : Nat) (x : SpwChan) : (s.setSpw c x).vig = s.vig := rfl
@[simp] theorem State.setSpw_otp (c : Nat) (x : SpwChan) : (s.setSpw c x).otp = s.otp := rfl
@[simp] theorem State.setSpw_life (c : Nat) (x : SpwChan) : (s.setSpw c x).life = s.life := rfl
@[simp] theorem State.setSpw_rcp (c : Nat) (x : SpwChan) : (s.setSpw c x).rcp = s.rcp := rfl
@[simp] theorem State.setSpw_fab (c : Nat) (x : SpwChan) : (s.setSpw c x).fab = s.fab := rfl
@[simp] theorem State.setSpw_ports (c : Nat) (x : SpwChan) : (s.setSpw c x).ports = s.ports := rfl
@[simp] theorem State.setSpw_ent (c : Nat) (x : SpwChan) : (s.setSpw c x).ent = s.ent := rfl
@[simp] theorem State.setSpw_prf (c : Nat) (x : SpwChan) : (s.setSpw c x).prf = s.prf := rfl
@[simp] theorem State.setSpw_rngEmpty (c : Nat) (x : SpwChan) : (s.setSpw c x).rngEmpty = s.rngEmpty := rfl
@[simp] theorem State.setSpw_cnt (c : Nat) (x : SpwChan) : (s.setSpw c x).cnt = s.cnt := rfl
@[simp] theorem State.setSpw_flash (c : Nat) (x : SpwChan) : (s.setSpw c x).flash = s.flash := rfl
@[simp] theorem State.setSpw_ldr (c : Nat) (x : SpwChan) : (s.setSpw c x).ldr = s.ldr := rfl
@[simp] theorem State.setSpw_que (c : Nat) (x : SpwChan) : (s.setSpw c x).que = s.que := rfl
@[simp] theorem State.setSpw_sch (c : Nat) (x : SpwChan) : (s.setSpw c x).sch = s.sch := rfl
@[simp] theorem State.setSpw_spc (c : Nat) (x : SpwChan) : (s.setSpw c x).spc = s.spc := rfl
@[simp] theorem State.setSpw_glz (c : Nat) (x : SpwChan) : (s.setSpw c x).glz = s.glz := rfl
@[simp] theorem State.setSpw_links (c : Nat) (x : SpwChan) : (s.setSpw c x).links = s.links := rfl
@[simp] theorem State.setSpw_msp (c : Nat) (x : SpwChan) : (s.setSpw c x).msp = s.msp := rfl
@[simp] theorem State.setSpw_sts (c : Nat) (x : SpwChan) : (s.setSpw c x).sts = s.sts := rfl
@[simp] theorem State.setSpw_irqStat (c : Nat) (x : SpwChan) : (s.setSpw c x).irqStat = s.irqStat := rfl
@[simp] theorem State.setSpw_holdPcie (c : Nat) (x : SpwChan) : (s.setSpw c x).holdPcie = s.holdPcie := rfl
@[simp] theorem State.setSpw_holdMsp (c : Nat) (x : SpwChan) : (s.setSpw c x).holdMsp = s.holdMsp := rfl

/-! ## setInst -/

@[simp] theorem State.setInst_pending (i : Nat) (x : Prf) : (s.setInst i x).pending = s.pending := rfl
@[simp] theorem State.setInst_out (i : Nat) (x : Prf) : (s.setInst i x).out = s.out := rfl
@[simp] theorem State.setInst_free (i : Nat) (x : Prf) : (s.setInst i x).free = s.free := rfl
@[simp] theorem State.setInst_mode (i : Nat) (x : Prf) : (s.setInst i x).mode = s.mode := rfl
@[simp] theorem State.setInst_refclk (i : Nat) (x : Prf) : (s.setInst i x).refclk = s.refclk := rfl
@[simp] theorem State.setInst_tick (i : Nat) (x : Prf) : (s.setInst i x).tick = s.tick := rfl
@[simp] theorem State.setInst_kept (i : Nat) (x : Prf) : (s.setInst i x).kept = s.kept := rfl
@[simp] theorem State.setInst_mod (i : Nat) (x : Prf) : (s.setInst i x).mod = s.mod := rfl
@[simp] theorem State.setInst_vig (i : Nat) (x : Prf) : (s.setInst i x).vig = s.vig := rfl
@[simp] theorem State.setInst_otp (i : Nat) (x : Prf) : (s.setInst i x).otp = s.otp := rfl
@[simp] theorem State.setInst_life (i : Nat) (x : Prf) : (s.setInst i x).life = s.life := rfl
@[simp] theorem State.setInst_rcp (i : Nat) (x : Prf) : (s.setInst i x).rcp = s.rcp := rfl
@[simp] theorem State.setInst_fab (i : Nat) (x : Prf) : (s.setInst i x).fab = s.fab := rfl
@[simp] theorem State.setInst_ports (i : Nat) (x : Prf) : (s.setInst i x).ports = s.ports := rfl
@[simp] theorem State.setInst_ent (i : Nat) (x : Prf) : (s.setInst i x).ent = s.ent := rfl
@[simp] theorem State.setInst_rngEmpty (i : Nat) (x : Prf) : (s.setInst i x).rngEmpty = s.rngEmpty := rfl
@[simp] theorem State.setInst_cnt (i : Nat) (x : Prf) : (s.setInst i x).cnt = s.cnt := rfl
@[simp] theorem State.setInst_flash (i : Nat) (x : Prf) : (s.setInst i x).flash = s.flash := rfl
@[simp] theorem State.setInst_spw (i : Nat) (x : Prf) : (s.setInst i x).spw = s.spw := rfl
@[simp] theorem State.setInst_ldr (i : Nat) (x : Prf) : (s.setInst i x).ldr = s.ldr := rfl
@[simp] theorem State.setInst_que (i : Nat) (x : Prf) : (s.setInst i x).que = s.que := rfl
@[simp] theorem State.setInst_sch (i : Nat) (x : Prf) : (s.setInst i x).sch = s.sch := rfl
@[simp] theorem State.setInst_spc (i : Nat) (x : Prf) : (s.setInst i x).spc = s.spc := rfl
@[simp] theorem State.setInst_glz (i : Nat) (x : Prf) : (s.setInst i x).glz = s.glz := rfl
@[simp] theorem State.setInst_links (i : Nat) (x : Prf) : (s.setInst i x).links = s.links := rfl
@[simp] theorem State.setInst_msp (i : Nat) (x : Prf) : (s.setInst i x).msp = s.msp := rfl
@[simp] theorem State.setInst_sts (i : Nat) (x : Prf) : (s.setInst i x).sts = s.sts := rfl
@[simp] theorem State.setInst_irqStat (i : Nat) (x : Prf) : (s.setInst i x).irqStat = s.irqStat := rfl
@[simp] theorem State.setInst_holdPcie (i : Nat) (x : Prf) : (s.setInst i x).holdPcie = s.holdPcie := rfl
@[simp] theorem State.setInst_holdMsp (i : Nat) (x : Prf) : (s.setInst i x).holdMsp = s.holdMsp := rfl

/-! ## reject -/

@[simp] theorem State.reject_pending (r : Requester) : (s.reject r).pending = s.pending := rfl
@[simp] theorem State.reject_out (r : Requester) : (s.reject r).out = s.out := rfl
@[simp] theorem State.reject_free (r : Requester) : (s.reject r).free = s.free := rfl
@[simp] theorem State.reject_mode (r : Requester) : (s.reject r).mode = s.mode := rfl
@[simp] theorem State.reject_refclk (r : Requester) : (s.reject r).refclk = s.refclk := rfl
@[simp] theorem State.reject_tick (r : Requester) : (s.reject r).tick = s.tick := rfl
@[simp] theorem State.reject_kept (r : Requester) : (s.reject r).kept = s.kept := rfl
@[simp] theorem State.reject_mod (r : Requester) : (s.reject r).mod = s.mod := rfl
@[simp] theorem State.reject_vig (r : Requester) : (s.reject r).vig = s.vig := rfl
@[simp] theorem State.reject_otp (r : Requester) : (s.reject r).otp = s.otp := rfl
@[simp] theorem State.reject_life (r : Requester) : (s.reject r).life = s.life := rfl
@[simp] theorem State.reject_rcp (r : Requester) : (s.reject r).rcp = s.rcp := rfl
@[simp] theorem State.reject_fab (r : Requester) : (s.reject r).fab = s.fab := rfl
@[simp] theorem State.reject_ports (r : Requester) : (s.reject r).ports = s.ports := rfl
@[simp] theorem State.reject_ent (r : Requester) : (s.reject r).ent = s.ent := rfl
@[simp] theorem State.reject_prf (r : Requester) : (s.reject r).prf = s.prf := rfl
@[simp] theorem State.reject_rngEmpty (r : Requester) : (s.reject r).rngEmpty = s.rngEmpty := rfl
@[simp] theorem State.reject_cnt (r : Requester) : (s.reject r).cnt = s.cnt := rfl
@[simp] theorem State.reject_flash (r : Requester) : (s.reject r).flash = s.flash := rfl
@[simp] theorem State.reject_spw (r : Requester) : (s.reject r).spw = s.spw := rfl
@[simp] theorem State.reject_ldr (r : Requester) : (s.reject r).ldr = s.ldr := rfl
@[simp] theorem State.reject_que (r : Requester) : (s.reject r).que = s.que := rfl
@[simp] theorem State.reject_sch (r : Requester) : (s.reject r).sch = s.sch := rfl
@[simp] theorem State.reject_spc (r : Requester) : (s.reject r).spc = s.spc := rfl
@[simp] theorem State.reject_glz (r : Requester) : (s.reject r).glz = s.glz := rfl
@[simp] theorem State.reject_links (r : Requester) : (s.reject r).links = s.links := rfl
@[simp] theorem State.reject_irqStat (r : Requester) : (s.reject r).irqStat = s.irqStat := rfl
@[simp] theorem State.reject_holdPcie (r : Requester) : (s.reject r).holdPcie = s.holdPcie := rfl
@[simp] theorem State.reject_holdMsp (r : Requester) : (s.reject r).holdMsp = s.holdMsp := rfl

/-! ## countStatus -/

@[simp] theorem State.countStatus_pending (st : Status) : (s.countStatus st).pending = s.pending := rfl
@[simp] theorem State.countStatus_out (st : Status) : (s.countStatus st).out = s.out := rfl
@[simp] theorem State.countStatus_free (st : Status) : (s.countStatus st).free = s.free := rfl
@[simp] theorem State.countStatus_mode (st : Status) : (s.countStatus st).mode = s.mode := rfl
@[simp] theorem State.countStatus_refclk (st : Status) : (s.countStatus st).refclk = s.refclk := rfl
@[simp] theorem State.countStatus_tick (st : Status) : (s.countStatus st).tick = s.tick := rfl
@[simp] theorem State.countStatus_kept (st : Status) : (s.countStatus st).kept = s.kept := rfl
@[simp] theorem State.countStatus_mod (st : Status) : (s.countStatus st).mod = s.mod := rfl
@[simp] theorem State.countStatus_vig (st : Status) : (s.countStatus st).vig = s.vig := rfl
@[simp] theorem State.countStatus_otp (st : Status) : (s.countStatus st).otp = s.otp := rfl
@[simp] theorem State.countStatus_life (st : Status) : (s.countStatus st).life = s.life := rfl
@[simp] theorem State.countStatus_rcp (st : Status) : (s.countStatus st).rcp = s.rcp := rfl
@[simp] theorem State.countStatus_fab (st : Status) : (s.countStatus st).fab = s.fab := rfl
@[simp] theorem State.countStatus_ports (st : Status) : (s.countStatus st).ports = s.ports := rfl
@[simp] theorem State.countStatus_ent (st : Status) : (s.countStatus st).ent = s.ent := rfl
@[simp] theorem State.countStatus_prf (st : Status) : (s.countStatus st).prf = s.prf := rfl
@[simp] theorem State.countStatus_rngEmpty (st : Status) : (s.countStatus st).rngEmpty = s.rngEmpty := rfl
@[simp] theorem State.countStatus_cnt (st : Status) : (s.countStatus st).cnt = s.cnt := rfl
@[simp] theorem State.countStatus_flash (st : Status) : (s.countStatus st).flash = s.flash := rfl
@[simp] theorem State.countStatus_spw (st : Status) : (s.countStatus st).spw = s.spw := rfl
@[simp] theorem State.countStatus_ldr (st : Status) : (s.countStatus st).ldr = s.ldr := rfl
@[simp] theorem State.countStatus_que (st : Status) : (s.countStatus st).que = s.que := rfl
@[simp] theorem State.countStatus_sch (st : Status) : (s.countStatus st).sch = s.sch := rfl
@[simp] theorem State.countStatus_spc (st : Status) : (s.countStatus st).spc = s.spc := rfl
@[simp] theorem State.countStatus_glz (st : Status) : (s.countStatus st).glz = s.glz := rfl
@[simp] theorem State.countStatus_links (st : Status) : (s.countStatus st).links = s.links := rfl
@[simp] theorem State.countStatus_msp (st : Status) : (s.countStatus st).msp = s.msp := rfl
@[simp] theorem State.countStatus_irqStat (st : Status) : (s.countStatus st).irqStat = s.irqStat := rfl
@[simp] theorem State.countStatus_holdPcie (st : Status) : (s.countStatus st).holdPcie = s.holdPcie := rfl
@[simp] theorem State.countStatus_holdMsp (st : Status) : (s.countStatus st).holdMsp = s.holdMsp := rfl

/-! ## beginStep -/

@[simp] theorem State.beginStep_pending (n : Nat) : (s.beginStep n).pending = s.pending := rfl
@[simp] theorem State.beginStep_out (n : Nat) : (s.beginStep n).out = s.out := rfl
@[simp] theorem State.beginStep_free (n : Nat) : (s.beginStep n).free = s.free := rfl
@[simp] theorem State.beginStep_mode (n : Nat) : (s.beginStep n).mode = s.mode := rfl
@[simp] theorem State.beginStep_refclk (n : Nat) : (s.beginStep n).refclk = s.refclk := rfl
@[simp] theorem State.beginStep_tick (n : Nat) : (s.beginStep n).tick = s.tick := rfl
@[simp] theorem State.beginStep_kept (n : Nat) : (s.beginStep n).kept = s.kept := rfl
@[simp] theorem State.beginStep_vig (n : Nat) : (s.beginStep n).vig = s.vig := rfl
@[simp] theorem State.beginStep_otp (n : Nat) : (s.beginStep n).otp = s.otp := rfl
@[simp] theorem State.beginStep_life (n : Nat) : (s.beginStep n).life = s.life := rfl
@[simp] theorem State.beginStep_rcp (n : Nat) : (s.beginStep n).rcp = s.rcp := rfl
@[simp] theorem State.beginStep_fab (n : Nat) : (s.beginStep n).fab = s.fab := rfl
@[simp] theorem State.beginStep_ports (n : Nat) : (s.beginStep n).ports = s.ports := rfl
@[simp] theorem State.beginStep_ent (n : Nat) : (s.beginStep n).ent = s.ent := rfl
@[simp] theorem State.beginStep_prf (n : Nat) : (s.beginStep n).prf = s.prf := rfl
@[simp] theorem State.beginStep_rngEmpty (n : Nat) : (s.beginStep n).rngEmpty = s.rngEmpty := rfl
@[simp] theorem State.beginStep_cnt (n : Nat) : (s.beginStep n).cnt = s.cnt := rfl
@[simp] theorem State.beginStep_flash (n : Nat) : (s.beginStep n).flash = s.flash := rfl
@[simp] theorem State.beginStep_spw (n : Nat) : (s.beginStep n).spw = s.spw := rfl
@[simp] theorem State.beginStep_ldr (n : Nat) : (s.beginStep n).ldr = s.ldr := rfl
@[simp] theorem State.beginStep_que (n : Nat) : (s.beginStep n).que = s.que := rfl
@[simp] theorem State.beginStep_sch (n : Nat) : (s.beginStep n).sch = s.sch := rfl
@[simp] theorem State.beginStep_spc (n : Nat) : (s.beginStep n).spc = s.spc := rfl
@[simp] theorem State.beginStep_glz (n : Nat) : (s.beginStep n).glz = s.glz := rfl
@[simp] theorem State.beginStep_links (n : Nat) : (s.beginStep n).links = s.links := rfl
@[simp] theorem State.beginStep_msp (n : Nat) : (s.beginStep n).msp = s.msp := rfl
@[simp] theorem State.beginStep_sts (n : Nat) : (s.beginStep n).sts = s.sts := rfl
@[simp] theorem State.beginStep_irqStat (n : Nat) : (s.beginStep n).irqStat = s.irqStat := rfl
@[simp] theorem State.beginStep_holdPcie (n : Nat) : (s.beginStep n).holdPcie = s.holdPcie := rfl
@[simp] theorem State.beginStep_holdMsp (n : Nat) : (s.beginStep n).holdMsp = s.holdMsp := rfl

/-! ## keptChanged -/

@[simp] theorem State.keptChanged_pending : (s.keptChanged).pending = s.pending := rfl
@[simp] theorem State.keptChanged_out : (s.keptChanged).out = s.out := rfl
@[simp] theorem State.keptChanged_free : (s.keptChanged).free = s.free := rfl
@[simp] theorem State.keptChanged_mode : (s.keptChanged).mode = s.mode := rfl
@[simp] theorem State.keptChanged_refclk : (s.keptChanged).refclk = s.refclk := rfl
@[simp] theorem State.keptChanged_tick : (s.keptChanged).tick = s.tick := rfl
@[simp] theorem State.keptChanged_kept : (s.keptChanged).kept = s.kept := rfl
@[simp] theorem State.keptChanged_vig : (s.keptChanged).vig = s.vig := rfl
@[simp] theorem State.keptChanged_otp : (s.keptChanged).otp = s.otp := rfl
@[simp] theorem State.keptChanged_life : (s.keptChanged).life = s.life := rfl
@[simp] theorem State.keptChanged_rcp : (s.keptChanged).rcp = s.rcp := rfl
@[simp] theorem State.keptChanged_fab : (s.keptChanged).fab = s.fab := rfl
@[simp] theorem State.keptChanged_ports : (s.keptChanged).ports = s.ports := rfl
@[simp] theorem State.keptChanged_ent : (s.keptChanged).ent = s.ent := rfl
@[simp] theorem State.keptChanged_prf : (s.keptChanged).prf = s.prf := rfl
@[simp] theorem State.keptChanged_rngEmpty : (s.keptChanged).rngEmpty = s.rngEmpty := rfl
@[simp] theorem State.keptChanged_cnt : (s.keptChanged).cnt = s.cnt := rfl
@[simp] theorem State.keptChanged_flash : (s.keptChanged).flash = s.flash := rfl
@[simp] theorem State.keptChanged_spw : (s.keptChanged).spw = s.spw := rfl
@[simp] theorem State.keptChanged_ldr : (s.keptChanged).ldr = s.ldr := rfl
@[simp] theorem State.keptChanged_que : (s.keptChanged).que = s.que := rfl
@[simp] theorem State.keptChanged_sch : (s.keptChanged).sch = s.sch := rfl
@[simp] theorem State.keptChanged_spc : (s.keptChanged).spc = s.spc := rfl
@[simp] theorem State.keptChanged_glz : (s.keptChanged).glz = s.glz := rfl
@[simp] theorem State.keptChanged_links : (s.keptChanged).links = s.links := rfl
@[simp] theorem State.keptChanged_msp : (s.keptChanged).msp = s.msp := rfl
@[simp] theorem State.keptChanged_sts : (s.keptChanged).sts = s.sts := rfl
@[simp] theorem State.keptChanged_irqStat : (s.keptChanged).irqStat = s.irqStat := rfl
@[simp] theorem State.keptChanged_holdPcie : (s.keptChanged).holdPcie = s.holdPcie := rfl
@[simp] theorem State.keptChanged_holdMsp : (s.keptChanged).holdMsp = s.holdMsp := rfl

/-! ## recordCause -/

@[simp] theorem State.recordCause_pending (c : QuarCause) : (s.recordCause c).pending = s.pending := rfl
@[simp] theorem State.recordCause_out (c : QuarCause) : (s.recordCause c).out = s.out := rfl
@[simp] theorem State.recordCause_free (c : QuarCause) : (s.recordCause c).free = s.free := rfl
@[simp] theorem State.recordCause_mode (c : QuarCause) : (s.recordCause c).mode = s.mode := rfl
@[simp] theorem State.recordCause_refclk (c : QuarCause) : (s.recordCause c).refclk = s.refclk := rfl
@[simp] theorem State.recordCause_tick (c : QuarCause) : (s.recordCause c).tick = s.tick := rfl
@[simp] theorem State.recordCause_kept (c : QuarCause) : (s.recordCause c).kept = s.kept := rfl
@[simp] theorem State.recordCause_mod (c : QuarCause) : (s.recordCause c).mod = s.mod := rfl
@[simp] theorem State.recordCause_otp (c : QuarCause) : (s.recordCause c).otp = s.otp := rfl
@[simp] theorem State.recordCause_life (c : QuarCause) : (s.recordCause c).life = s.life := rfl
@[simp] theorem State.recordCause_rcp (c : QuarCause) : (s.recordCause c).rcp = s.rcp := rfl
@[simp] theorem State.recordCause_fab (c : QuarCause) : (s.recordCause c).fab = s.fab := rfl
@[simp] theorem State.recordCause_ports (c : QuarCause) : (s.recordCause c).ports = s.ports := rfl
@[simp] theorem State.recordCause_ent (c : QuarCause) : (s.recordCause c).ent = s.ent := rfl
@[simp] theorem State.recordCause_prf (c : QuarCause) : (s.recordCause c).prf = s.prf := rfl
@[simp] theorem State.recordCause_rngEmpty (c : QuarCause) : (s.recordCause c).rngEmpty = s.rngEmpty := rfl
@[simp] theorem State.recordCause_cnt (c : QuarCause) : (s.recordCause c).cnt = s.cnt := rfl
@[simp] theorem State.recordCause_flash (c : QuarCause) : (s.recordCause c).flash = s.flash := rfl
@[simp] theorem State.recordCause_spw (c : QuarCause) : (s.recordCause c).spw = s.spw := rfl
@[simp] theorem State.recordCause_ldr (c : QuarCause) : (s.recordCause c).ldr = s.ldr := rfl
@[simp] theorem State.recordCause_que (c : QuarCause) : (s.recordCause c).que = s.que := rfl
@[simp] theorem State.recordCause_sch (c : QuarCause) : (s.recordCause c).sch = s.sch := rfl
@[simp] theorem State.recordCause_spc (c : QuarCause) : (s.recordCause c).spc = s.spc := rfl
@[simp] theorem State.recordCause_glz (c : QuarCause) : (s.recordCause c).glz = s.glz := rfl
@[simp] theorem State.recordCause_links (c : QuarCause) : (s.recordCause c).links = s.links := rfl
@[simp] theorem State.recordCause_msp (c : QuarCause) : (s.recordCause c).msp = s.msp := rfl
@[simp] theorem State.recordCause_sts (c : QuarCause) : (s.recordCause c).sts = s.sts := rfl
@[simp] theorem State.recordCause_irqStat (c : QuarCause) : (s.recordCause c).irqStat = s.irqStat := rfl
@[simp] theorem State.recordCause_holdPcie (c : QuarCause) : (s.recordCause c).holdPcie = s.holdPcie := rfl
@[simp] theorem State.recordCause_holdMsp (c : QuarCause) : (s.recordCause c).holdMsp = s.holdMsp := rfl

/-! ## cmdEnd -/

@[simp] theorem State.cmdEnd_pending (n : Nat) : (s.cmdEnd n).pending = s.pending := rfl
@[simp] theorem State.cmdEnd_out (n : Nat) : (s.cmdEnd n).out = s.out := rfl
@[simp] theorem State.cmdEnd_free (n : Nat) : (s.cmdEnd n).free = s.free := rfl
@[simp] theorem State.cmdEnd_mode (n : Nat) : (s.cmdEnd n).mode = s.mode := rfl
@[simp] theorem State.cmdEnd_refclk (n : Nat) : (s.cmdEnd n).refclk = s.refclk := rfl
@[simp] theorem State.cmdEnd_tick (n : Nat) : (s.cmdEnd n).tick = s.tick := rfl
@[simp] theorem State.cmdEnd_kept (n : Nat) : (s.cmdEnd n).kept = s.kept := rfl
@[simp] theorem State.cmdEnd_mod (n : Nat) : (s.cmdEnd n).mod = s.mod := rfl
@[simp] theorem State.cmdEnd_vig (n : Nat) : (s.cmdEnd n).vig = s.vig := rfl
@[simp] theorem State.cmdEnd_otp (n : Nat) : (s.cmdEnd n).otp = s.otp := rfl
@[simp] theorem State.cmdEnd_life (n : Nat) : (s.cmdEnd n).life = s.life := rfl
@[simp] theorem State.cmdEnd_fab (n : Nat) : (s.cmdEnd n).fab = s.fab := rfl
@[simp] theorem State.cmdEnd_ports (n : Nat) : (s.cmdEnd n).ports = s.ports := rfl
@[simp] theorem State.cmdEnd_ent (n : Nat) : (s.cmdEnd n).ent = s.ent := rfl
@[simp] theorem State.cmdEnd_prf (n : Nat) : (s.cmdEnd n).prf = s.prf := rfl
@[simp] theorem State.cmdEnd_rngEmpty (n : Nat) : (s.cmdEnd n).rngEmpty = s.rngEmpty := rfl
@[simp] theorem State.cmdEnd_cnt (n : Nat) : (s.cmdEnd n).cnt = s.cnt := rfl
@[simp] theorem State.cmdEnd_flash (n : Nat) : (s.cmdEnd n).flash = s.flash := rfl
@[simp] theorem State.cmdEnd_spw (n : Nat) : (s.cmdEnd n).spw = s.spw := rfl
@[simp] theorem State.cmdEnd_ldr (n : Nat) : (s.cmdEnd n).ldr = s.ldr := rfl
@[simp] theorem State.cmdEnd_que (n : Nat) : (s.cmdEnd n).que = s.que := rfl
@[simp] theorem State.cmdEnd_sch (n : Nat) : (s.cmdEnd n).sch = s.sch := rfl
@[simp] theorem State.cmdEnd_spc (n : Nat) : (s.cmdEnd n).spc = s.spc := rfl
@[simp] theorem State.cmdEnd_glz (n : Nat) : (s.cmdEnd n).glz = s.glz := rfl
@[simp] theorem State.cmdEnd_links (n : Nat) : (s.cmdEnd n).links = s.links := rfl
@[simp] theorem State.cmdEnd_msp (n : Nat) : (s.cmdEnd n).msp = s.msp := rfl
@[simp] theorem State.cmdEnd_sts (n : Nat) : (s.cmdEnd n).sts = s.sts := rfl
@[simp] theorem State.cmdEnd_irqStat (n : Nat) : (s.cmdEnd n).irqStat = s.irqStat := rfl
@[simp] theorem State.cmdEnd_holdPcie (n : Nat) : (s.cmdEnd n).holdPcie = s.holdPcie := rfl
@[simp] theorem State.cmdEnd_holdMsp (n : Nat) : (s.cmdEnd n).holdMsp = s.holdMsp := rfl

/-! ## cmdBegin -/

@[simp] theorem State.cmdBegin_pending (j : RcpJob) : (s.cmdBegin j).pending = s.pending := rfl
@[simp] theorem State.cmdBegin_out (j : RcpJob) : (s.cmdBegin j).out = s.out := rfl
@[simp] theorem State.cmdBegin_free (j : RcpJob) : (s.cmdBegin j).free = s.free := rfl
@[simp] theorem State.cmdBegin_mode (j : RcpJob) : (s.cmdBegin j).mode = s.mode := rfl
@[simp] theorem State.cmdBegin_refclk (j : RcpJob) : (s.cmdBegin j).refclk = s.refclk := rfl
@[simp] theorem State.cmdBegin_tick (j : RcpJob) : (s.cmdBegin j).tick = s.tick := rfl
@[simp] theorem State.cmdBegin_kept (j : RcpJob) : (s.cmdBegin j).kept = s.kept := rfl
@[simp] theorem State.cmdBegin_mod (j : RcpJob) : (s.cmdBegin j).mod = s.mod := rfl
@[simp] theorem State.cmdBegin_vig (j : RcpJob) : (s.cmdBegin j).vig = s.vig := rfl
@[simp] theorem State.cmdBegin_otp (j : RcpJob) : (s.cmdBegin j).otp = s.otp := rfl
@[simp] theorem State.cmdBegin_life (j : RcpJob) : (s.cmdBegin j).life = s.life := rfl
@[simp] theorem State.cmdBegin_fab (j : RcpJob) : (s.cmdBegin j).fab = s.fab := rfl
@[simp] theorem State.cmdBegin_ports (j : RcpJob) : (s.cmdBegin j).ports = s.ports := rfl
@[simp] theorem State.cmdBegin_ent (j : RcpJob) : (s.cmdBegin j).ent = s.ent := rfl
@[simp] theorem State.cmdBegin_prf (j : RcpJob) : (s.cmdBegin j).prf = s.prf := rfl
@[simp] theorem State.cmdBegin_rngEmpty (j : RcpJob) : (s.cmdBegin j).rngEmpty = s.rngEmpty := rfl
@[simp] theorem State.cmdBegin_cnt (j : RcpJob) : (s.cmdBegin j).cnt = s.cnt := rfl
@[simp] theorem State.cmdBegin_flash (j : RcpJob) : (s.cmdBegin j).flash = s.flash := rfl
@[simp] theorem State.cmdBegin_spw (j : RcpJob) : (s.cmdBegin j).spw = s.spw := rfl
@[simp] theorem State.cmdBegin_ldr (j : RcpJob) : (s.cmdBegin j).ldr = s.ldr := rfl
@[simp] theorem State.cmdBegin_que (j : RcpJob) : (s.cmdBegin j).que = s.que := rfl
@[simp] theorem State.cmdBegin_sch (j : RcpJob) : (s.cmdBegin j).sch = s.sch := rfl
@[simp] theorem State.cmdBegin_spc (j : RcpJob) : (s.cmdBegin j).spc = s.spc := rfl
@[simp] theorem State.cmdBegin_glz (j : RcpJob) : (s.cmdBegin j).glz = s.glz := rfl
@[simp] theorem State.cmdBegin_links (j : RcpJob) : (s.cmdBegin j).links = s.links := rfl
@[simp] theorem State.cmdBegin_msp (j : RcpJob) : (s.cmdBegin j).msp = s.msp := rfl
@[simp] theorem State.cmdBegin_sts (j : RcpJob) : (s.cmdBegin j).sts = s.sts := rfl
@[simp] theorem State.cmdBegin_irqStat (j : RcpJob) : (s.cmdBegin j).irqStat = s.irqStat := rfl
@[simp] theorem State.cmdBegin_holdPcie (j : RcpJob) : (s.cmdBegin j).holdPcie = s.holdPcie := rfl
@[simp] theorem State.cmdBegin_holdMsp (j : RcpJob) : (s.cmdBegin j).holdMsp = s.holdMsp := rfl

/-! ## countHole -/

@[simp] theorem State.countHole_pending : (s.countHole).pending = s.pending := rfl
@[simp] theorem State.countHole_out : (s.countHole).out = s.out := rfl
@[simp] theorem State.countHole_free : (s.countHole).free = s.free := rfl
@[simp] theorem State.countHole_mode : (s.countHole).mode = s.mode := rfl
@[simp] theorem State.countHole_refclk : (s.countHole).refclk = s.refclk := rfl
@[simp] theorem State.countHole_tick : (s.countHole).tick = s.tick := rfl
@[simp] theorem State.countHole_kept : (s.countHole).kept = s.kept := rfl
@[simp] theorem State.countHole_mod : (s.countHole).mod = s.mod := rfl
@[simp] theorem State.countHole_vig : (s.countHole).vig = s.vig := rfl
@[simp] theorem State.countHole_otp : (s.countHole).otp = s.otp := rfl
@[simp] theorem State.countHole_life : (s.countHole).life = s.life := rfl
@[simp] theorem State.countHole_rcp : (s.countHole).rcp = s.rcp := rfl
@[simp] theorem State.countHole_fab : (s.countHole).fab = s.fab := rfl
@[simp] theorem State.countHole_ports : (s.countHole).ports = s.ports := rfl
@[simp] theorem State.countHole_ent : (s.countHole).ent = s.ent := rfl
@[simp] theorem State.countHole_prf : (s.countHole).prf = s.prf := rfl
@[simp] theorem State.countHole_rngEmpty : (s.countHole).rngEmpty = s.rngEmpty := rfl
@[simp] theorem State.countHole_cnt : (s.countHole).cnt = s.cnt := rfl
@[simp] theorem State.countHole_flash : (s.countHole).flash = s.flash := rfl
@[simp] theorem State.countHole_spw : (s.countHole).spw = s.spw := rfl
@[simp] theorem State.countHole_ldr : (s.countHole).ldr = s.ldr := rfl
@[simp] theorem State.countHole_que : (s.countHole).que = s.que := rfl
@[simp] theorem State.countHole_sch : (s.countHole).sch = s.sch := rfl
@[simp] theorem State.countHole_spc : (s.countHole).spc = s.spc := rfl
@[simp] theorem State.countHole_glz : (s.countHole).glz = s.glz := rfl
@[simp] theorem State.countHole_links : (s.countHole).links = s.links := rfl
@[simp] theorem State.countHole_msp : (s.countHole).msp = s.msp := rfl
@[simp] theorem State.countHole_irqStat : (s.countHole).irqStat = s.irqStat := rfl
@[simp] theorem State.countHole_holdPcie : (s.countHole).holdPcie = s.holdPcie := rfl
@[simp] theorem State.countHole_holdMsp : (s.countHole).holdMsp = s.holdMsp := rfl

/-! ## raise -/

@[simp] theorem State.raise_pending (i : Irq) : (s.raise i).pending = s.pending := by unfold State.raise; split <;> rfl
@[simp] theorem State.raise_out (i : Irq) : (s.raise i).out = s.out := by unfold State.raise; split <;> rfl
@[simp] theorem State.raise_free (i : Irq) : (s.raise i).free = s.free := by unfold State.raise; split <;> rfl
@[simp] theorem State.raise_mode (i : Irq) : (s.raise i).mode = s.mode := by unfold State.raise; split <;> rfl
@[simp] theorem State.raise_refclk (i : Irq) : (s.raise i).refclk = s.refclk := by unfold State.raise; split <;> rfl
@[simp] theorem State.raise_tick (i : Irq) : (s.raise i).tick = s.tick := by unfold State.raise; split <;> rfl
@[simp] theorem State.raise_kept (i : Irq) : (s.raise i).kept = s.kept := by unfold State.raise; split <;> rfl
@[simp] theorem State.raise_mod (i : Irq) : (s.raise i).mod = s.mod := by unfold State.raise; split <;> rfl
@[simp] theorem State.raise_vig (i : Irq) : (s.raise i).vig = s.vig := by unfold State.raise; split <;> rfl
@[simp] theorem State.raise_otp (i : Irq) : (s.raise i).otp = s.otp := by unfold State.raise; split <;> rfl
@[simp] theorem State.raise_life (i : Irq) : (s.raise i).life = s.life := by unfold State.raise; split <;> rfl
@[simp] theorem State.raise_rcp (i : Irq) : (s.raise i).rcp = s.rcp := by unfold State.raise; split <;> rfl
@[simp] theorem State.raise_fab (i : Irq) : (s.raise i).fab = s.fab := by unfold State.raise; split <;> rfl
@[simp] theorem State.raise_ports (i : Irq) : (s.raise i).ports = s.ports := by unfold State.raise; split <;> rfl
@[simp] theorem State.raise_ent (i : Irq) : (s.raise i).ent = s.ent := by unfold State.raise; split <;> rfl
@[simp] theorem State.raise_prf (i : Irq) : (s.raise i).prf = s.prf := by unfold State.raise; split <;> rfl
@[simp] theorem State.raise_rngEmpty (i : Irq) : (s.raise i).rngEmpty = s.rngEmpty := by unfold State.raise; split <;> rfl
@[simp] theorem State.raise_cnt (i : Irq) : (s.raise i).cnt = s.cnt := by unfold State.raise; split <;> rfl
@[simp] theorem State.raise_flash (i : Irq) : (s.raise i).flash = s.flash := by unfold State.raise; split <;> rfl
@[simp] theorem State.raise_spw (i : Irq) : (s.raise i).spw = s.spw := by unfold State.raise; split <;> rfl
@[simp] theorem State.raise_ldr (i : Irq) : (s.raise i).ldr = s.ldr := by unfold State.raise; split <;> rfl
@[simp] theorem State.raise_que (i : Irq) : (s.raise i).que = s.que := by unfold State.raise; split <;> rfl
@[simp] theorem State.raise_sch (i : Irq) : (s.raise i).sch = s.sch := by unfold State.raise; split <;> rfl
@[simp] theorem State.raise_spc (i : Irq) : (s.raise i).spc = s.spc := by unfold State.raise; split <;> rfl
@[simp] theorem State.raise_glz (i : Irq) : (s.raise i).glz = s.glz := by unfold State.raise; split <;> rfl
@[simp] theorem State.raise_links (i : Irq) : (s.raise i).links = s.links := by unfold State.raise; split <;> rfl
@[simp] theorem State.raise_msp (i : Irq) : (s.raise i).msp = s.msp := by unfold State.raise; split <;> rfl
@[simp] theorem State.raise_sts (i : Irq) : (s.raise i).sts = s.sts := by unfold State.raise; split <;> rfl
@[simp] theorem State.raise_holdPcie (i : Irq) : (s.raise i).holdPcie = s.holdPcie := by unfold State.raise; split <;> rfl
@[simp] theorem State.raise_holdMsp (i : Irq) : (s.raise i).holdMsp = s.holdMsp := by unfold State.raise; split <;> rfl

/-! ## attend -/

@[simp] theorem State.attend_pending (i : Nat) : (s.attend i).pending = s.pending := by unfold State.attend; split <;> rfl
@[simp] theorem State.attend_out (i : Nat) : (s.attend i).out = s.out := by unfold State.attend; split <;> rfl
@[simp] theorem State.attend_free (i : Nat) : (s.attend i).free = s.free := by unfold State.attend; split <;> rfl
@[simp] theorem State.attend_mode (i : Nat) : (s.attend i).mode = s.mode := by unfold State.attend; split <;> rfl
@[simp] theorem State.attend_refclk (i : Nat) : (s.attend i).refclk = s.refclk := by unfold State.attend; split <;> rfl
@[simp] theorem State.attend_tick (i : Nat) : (s.attend i).tick = s.tick := by unfold State.attend; split <;> rfl
@[simp] theorem State.attend_kept (i : Nat) : (s.attend i).kept = s.kept := by unfold State.attend; split <;> rfl
@[simp] theorem State.attend_mod (i : Nat) : (s.attend i).mod = s.mod := by unfold State.attend; split <;> rfl
@[simp] theorem State.attend_vig (i : Nat) : (s.attend i).vig = s.vig := by unfold State.attend; split <;> rfl
@[simp] theorem State.attend_otp (i : Nat) : (s.attend i).otp = s.otp := by unfold State.attend; split <;> rfl
@[simp] theorem State.attend_life (i : Nat) : (s.attend i).life = s.life := by unfold State.attend; split <;> rfl
@[simp] theorem State.attend_rcp (i : Nat) : (s.attend i).rcp = s.rcp := by unfold State.attend; split <;> rfl
@[simp] theorem State.attend_fab (i : Nat) : (s.attend i).fab = s.fab := by unfold State.attend; split <;> rfl
@[simp] theorem State.attend_ports (i : Nat) : (s.attend i).ports = s.ports := by unfold State.attend; split <;> rfl
@[simp] theorem State.attend_ent (i : Nat) : (s.attend i).ent = s.ent := by unfold State.attend; split <;> rfl
@[simp] theorem State.attend_prf (i : Nat) : (s.attend i).prf = s.prf := by unfold State.attend; split <;> rfl
@[simp] theorem State.attend_rngEmpty (i : Nat) : (s.attend i).rngEmpty = s.rngEmpty := by unfold State.attend; split <;> rfl
@[simp] theorem State.attend_cnt (i : Nat) : (s.attend i).cnt = s.cnt := by unfold State.attend; split <;> rfl
@[simp] theorem State.attend_flash (i : Nat) : (s.attend i).flash = s.flash := by unfold State.attend; split <;> rfl
@[simp] theorem State.attend_spw (i : Nat) : (s.attend i).spw = s.spw := by unfold State.attend; split <;> rfl
@[simp] theorem State.attend_ldr (i : Nat) : (s.attend i).ldr = s.ldr := by unfold State.attend; split <;> rfl
@[simp] theorem State.attend_que (i : Nat) : (s.attend i).que = s.que := by unfold State.attend; split <;> rfl
@[simp] theorem State.attend_sch (i : Nat) : (s.attend i).sch = s.sch := by unfold State.attend; split <;> rfl
@[simp] theorem State.attend_spc (i : Nat) : (s.attend i).spc = s.spc := by unfold State.attend; split <;> rfl
@[simp] theorem State.attend_glz (i : Nat) : (s.attend i).glz = s.glz := by unfold State.attend; split <;> rfl
@[simp] theorem State.attend_links (i : Nat) : (s.attend i).links = s.links := by unfold State.attend; split <;> rfl
@[simp] theorem State.attend_sts (i : Nat) : (s.attend i).sts = s.sts := by unfold State.attend; split <;> rfl
@[simp] theorem State.attend_irqStat (i : Nat) : (s.attend i).irqStat = s.irqStat := by unfold State.attend; split <;> rfl
@[simp] theorem State.attend_holdPcie (i : Nat) : (s.attend i).holdPcie = s.holdPcie := by unfold State.attend; split <;> rfl
@[simp] theorem State.attend_holdMsp (i : Nat) : (s.attend i).holdMsp = s.holdMsp := by unfold State.attend; split <;> rfl

/-! ## setChan -/

@[simp] theorem State.setChan_pending (ch : Channel) (c : Chan) : (s.setChan ch c).pending = s.pending := by cases ch <;> rfl
@[simp] theorem State.setChan_out (ch : Channel) (c : Chan) : (s.setChan ch c).out = s.out := by cases ch <;> rfl
@[simp] theorem State.setChan_free (ch : Channel) (c : Chan) : (s.setChan ch c).free = s.free := by cases ch <;> rfl
@[simp] theorem State.setChan_mode (ch : Channel) (c : Chan) : (s.setChan ch c).mode = s.mode := by cases ch <;> rfl
@[simp] theorem State.setChan_refclk (ch : Channel) (c : Chan) : (s.setChan ch c).refclk = s.refclk := by cases ch <;> rfl
@[simp] theorem State.setChan_tick (ch : Channel) (c : Chan) : (s.setChan ch c).tick = s.tick := by cases ch <;> rfl
@[simp] theorem State.setChan_kept (ch : Channel) (c : Chan) : (s.setChan ch c).kept = s.kept := by cases ch <;> rfl
@[simp] theorem State.setChan_mod (ch : Channel) (c : Chan) : (s.setChan ch c).mod = s.mod := by cases ch <;> rfl
@[simp] theorem State.setChan_vig (ch : Channel) (c : Chan) : (s.setChan ch c).vig = s.vig := by cases ch <;> rfl
@[simp] theorem State.setChan_otp (ch : Channel) (c : Chan) : (s.setChan ch c).otp = s.otp := by cases ch <;> rfl
@[simp] theorem State.setChan_life (ch : Channel) (c : Chan) : (s.setChan ch c).life = s.life := by cases ch <;> rfl
@[simp] theorem State.setChan_rcp (ch : Channel) (c : Chan) : (s.setChan ch c).rcp = s.rcp := by cases ch <;> rfl
@[simp] theorem State.setChan_fab (ch : Channel) (c : Chan) : (s.setChan ch c).fab = s.fab := by cases ch <;> rfl
@[simp] theorem State.setChan_ports (ch : Channel) (c : Chan) : (s.setChan ch c).ports = s.ports := by cases ch <;> rfl
@[simp] theorem State.setChan_prf (ch : Channel) (c : Chan) : (s.setChan ch c).prf = s.prf := by cases ch <;> rfl
@[simp] theorem State.setChan_rngEmpty (ch : Channel) (c : Chan) : (s.setChan ch c).rngEmpty = s.rngEmpty := by cases ch <;> rfl
@[simp] theorem State.setChan_cnt (ch : Channel) (c : Chan) : (s.setChan ch c).cnt = s.cnt := by cases ch <;> rfl
@[simp] theorem State.setChan_flash (ch : Channel) (c : Chan) : (s.setChan ch c).flash = s.flash := by cases ch <;> rfl
@[simp] theorem State.setChan_spw (ch : Channel) (c : Chan) : (s.setChan ch c).spw = s.spw := by cases ch <;> rfl
@[simp] theorem State.setChan_ldr (ch : Channel) (c : Chan) : (s.setChan ch c).ldr = s.ldr := by cases ch <;> rfl
@[simp] theorem State.setChan_que (ch : Channel) (c : Chan) : (s.setChan ch c).que = s.que := by cases ch <;> rfl
@[simp] theorem State.setChan_sch (ch : Channel) (c : Chan) : (s.setChan ch c).sch = s.sch := by cases ch <;> rfl
@[simp] theorem State.setChan_spc (ch : Channel) (c : Chan) : (s.setChan ch c).spc = s.spc := by cases ch <;> rfl
@[simp] theorem State.setChan_glz (ch : Channel) (c : Chan) : (s.setChan ch c).glz = s.glz := by cases ch <;> rfl
@[simp] theorem State.setChan_links (ch : Channel) (c : Chan) : (s.setChan ch c).links = s.links := by cases ch <;> rfl
@[simp] theorem State.setChan_msp (ch : Channel) (c : Chan) : (s.setChan ch c).msp = s.msp := by cases ch <;> rfl
@[simp] theorem State.setChan_sts (ch : Channel) (c : Chan) : (s.setChan ch c).sts = s.sts := by cases ch <;> rfl
@[simp] theorem State.setChan_irqStat (ch : Channel) (c : Chan) : (s.setChan ch c).irqStat = s.irqStat := by cases ch <;> rfl
@[simp] theorem State.setChan_holdPcie (ch : Channel) (c : Chan) : (s.setChan ch c).holdPcie = s.holdPcie := by cases ch <;> rfl
@[simp] theorem State.setChan_holdMsp (ch : Channel) (c : Chan) : (s.setChan ch c).holdMsp = s.holdMsp := by cases ch <;> rfl

/-! ## setSlotResult -/

@[simp] theorem State.setSlotResult_pending (k v : Nat) : (s.setSlotResult k v).pending = s.pending := by unfold State.setSlotResult; split <;> rfl
@[simp] theorem State.setSlotResult_out (k v : Nat) : (s.setSlotResult k v).out = s.out := by unfold State.setSlotResult; split <;> rfl
@[simp] theorem State.setSlotResult_free (k v : Nat) : (s.setSlotResult k v).free = s.free := by unfold State.setSlotResult; split <;> rfl
@[simp] theorem State.setSlotResult_mode (k v : Nat) : (s.setSlotResult k v).mode = s.mode := by unfold State.setSlotResult; split <;> rfl
@[simp] theorem State.setSlotResult_refclk (k v : Nat) : (s.setSlotResult k v).refclk = s.refclk := by unfold State.setSlotResult; split <;> rfl
@[simp] theorem State.setSlotResult_tick (k v : Nat) : (s.setSlotResult k v).tick = s.tick := by unfold State.setSlotResult; split <;> rfl
@[simp] theorem State.setSlotResult_kept (k v : Nat) : (s.setSlotResult k v).kept = s.kept := by unfold State.setSlotResult; split <;> rfl
@[simp] theorem State.setSlotResult_mod (k v : Nat) : (s.setSlotResult k v).mod = s.mod := by unfold State.setSlotResult; split <;> rfl
@[simp] theorem State.setSlotResult_vig (k v : Nat) : (s.setSlotResult k v).vig = s.vig := by unfold State.setSlotResult; split <;> rfl
@[simp] theorem State.setSlotResult_otp (k v : Nat) : (s.setSlotResult k v).otp = s.otp := by unfold State.setSlotResult; split <;> rfl
@[simp] theorem State.setSlotResult_life (k v : Nat) : (s.setSlotResult k v).life = s.life := by unfold State.setSlotResult; split <;> rfl
@[simp] theorem State.setSlotResult_fab (k v : Nat) : (s.setSlotResult k v).fab = s.fab := by unfold State.setSlotResult; split <;> rfl
@[simp] theorem State.setSlotResult_ports (k v : Nat) : (s.setSlotResult k v).ports = s.ports := by unfold State.setSlotResult; split <;> rfl
@[simp] theorem State.setSlotResult_ent (k v : Nat) : (s.setSlotResult k v).ent = s.ent := by unfold State.setSlotResult; split <;> rfl
@[simp] theorem State.setSlotResult_prf (k v : Nat) : (s.setSlotResult k v).prf = s.prf := by unfold State.setSlotResult; split <;> rfl
@[simp] theorem State.setSlotResult_rngEmpty (k v : Nat) : (s.setSlotResult k v).rngEmpty = s.rngEmpty := by unfold State.setSlotResult; split <;> rfl
@[simp] theorem State.setSlotResult_cnt (k v : Nat) : (s.setSlotResult k v).cnt = s.cnt := by unfold State.setSlotResult; split <;> rfl
@[simp] theorem State.setSlotResult_flash (k v : Nat) : (s.setSlotResult k v).flash = s.flash := by unfold State.setSlotResult; split <;> rfl
@[simp] theorem State.setSlotResult_spw (k v : Nat) : (s.setSlotResult k v).spw = s.spw := by unfold State.setSlotResult; split <;> rfl
@[simp] theorem State.setSlotResult_ldr (k v : Nat) : (s.setSlotResult k v).ldr = s.ldr := by unfold State.setSlotResult; split <;> rfl
@[simp] theorem State.setSlotResult_que (k v : Nat) : (s.setSlotResult k v).que = s.que := by unfold State.setSlotResult; split <;> rfl
@[simp] theorem State.setSlotResult_sch (k v : Nat) : (s.setSlotResult k v).sch = s.sch := by unfold State.setSlotResult; split <;> rfl
@[simp] theorem State.setSlotResult_spc (k v : Nat) : (s.setSlotResult k v).spc = s.spc := by unfold State.setSlotResult; split <;> rfl
@[simp] theorem State.setSlotResult_glz (k v : Nat) : (s.setSlotResult k v).glz = s.glz := by unfold State.setSlotResult; split <;> rfl
@[simp] theorem State.setSlotResult_links (k v : Nat) : (s.setSlotResult k v).links = s.links := by unfold State.setSlotResult; split <;> rfl
@[simp] theorem State.setSlotResult_msp (k v : Nat) : (s.setSlotResult k v).msp = s.msp := by unfold State.setSlotResult; split <;> rfl
@[simp] theorem State.setSlotResult_sts (k v : Nat) : (s.setSlotResult k v).sts = s.sts := by unfold State.setSlotResult; split <;> rfl
@[simp] theorem State.setSlotResult_irqStat (k v : Nat) : (s.setSlotResult k v).irqStat = s.irqStat := by unfold State.setSlotResult; split <;> rfl
@[simp] theorem State.setSlotResult_holdPcie (k v : Nat) : (s.setSlotResult k v).holdPcie = s.holdPcie := by unfold State.setSlotResult; split <;> rfl
@[simp] theorem State.setSlotResult_holdMsp (k v : Nat) : (s.setSlotResult k v).holdMsp = s.holdMsp := by unfold State.setSlotResult; split <;> rfl

end Sys2Proof.Machine
end

