-- ==== Sys2Proof/Laws/Events.lean ====
section
/-! SUPPORT. Completions, messages and events change what leaves the block, the queues, the scheduler's stores, the
statistics, the device conditions and the MSI-X bits, and nothing else. -/

namespace Sys2Proof.Machine

/-- Nothing differs but outputs, queues, scheduler stores, statistics, device conditions and links. -/
def TalksOnly (s t : State) : Prop :=
  { t with out := s.out, que := s.que, sch := s.sch, sts := s.sts, irqStat := s.irqStat, links := s.links } = s

theorem TalksOnly.refl (s : State) : TalksOnly s s := rfl

theorem TalksOnly.trans {s t u : State} (h : TalksOnly s t) (k : TalksOnly t u) : TalksOnly s u := by
  unfold TalksOnly at *
  have := congrArg (fun t : State => { t with
    out := s.out, que := s.que, sch := s.sch, sts := s.sts, irqStat := s.irqStat, links := s.links }) k
  exact this.trans h

theorem TalksOnly.ite {s t : State} {c : Prop} [Decidable c] (h : TalksOnly s t) : TalksOnly s (if c then t else s) := by
  split
  · exact h
  · rfl

theorem TalksOnly.foldl {α : Type} (f : State → α → State) (hf : ∀ s a, TalksOnly s (f s a)) (l : List α) (s : State) :
    TalksOnly s (l.foldl f s) := by
  induction l generalizing s with
  | nil => exact .refl s
  | cons a l ih => exact (hf s a).trans (ih _)

theorem State.raise_talks (s : State) (i : Irq) : TalksOnly s (s.raise i) := by
  unfold State.raise; split <;> rfl

theorem State.message_talks (s : State) (v : Nat) : TalksOnly s (s.message v) := by
  unfold State.message; simp only; split <;> rfl

theorem State.signal_talks (s : State) (v : Nat) : TalksOnly s (s.signal v) := by
  unfold State.signal; split
  · rfl
  · exact s.message_talks v

theorem State.eventLost_talks (s : State) : TalksOnly s s.eventLost := by
  unfold State.eventLost
  exact TalksOnly.trans (t := { s with sts := { s.sts with evDrops := satInc s.sts.evDrops } }) rfl (State.raise_talks _ _)

theorem State.queueVector_talks (s : State) (q : Nat) : TalksOnly s (s.queueVector q) := by
  unfold State.queueVector
  exact TalksOnly.ite (TalksOnly.trans (t := s.setQueue q _) rfl (State.signal_talks _ _))

theorem State.settleQueue_talks (s : State) (q : Nat) : TalksOnly s (s.settleQueue q) := by
  unfold State.settleQueue; simp only; split <;> rfl

theorem State.writeEntry_talks (s : State) (q : Nat) (d : Desc) (st : Status) (r : Bytes) (b : Option Bytes) :
    TalksOnly s (s.writeEntry q d st r b) := by
  unfold State.writeEntry
  simp only
  refine TalksOnly.trans ?_ (State.settleQueue_talks _ _)
  refine TalksOnly.trans ?_ (State.queueVector_talks _ _)
  cases b <;> rfl

theorem State.complete_talks (s : State) (q : Nat) (d : Desc) (st : Status) (r : Bytes) (b : Option Bytes) (h : Bool) :
    TalksOnly s (s.complete q d st r b h) := by
  unfold State.complete
  split
  · exact s.writeEntry_talks ..
  · simp only; split <;> rfl

theorem State.fillBuffer_talks (s : State) (q : Nat) (r : Bytes) : TalksOnly s (s.fillBuffer q r) := by
  unfold State.fillBuffer
  simp only
  split
  · rfl
  · exact TalksOnly.trans (t := s.setQueue q _) rfl (State.complete_talks ..)

theorem State.route_talks (s : State) (k : Nat) (b : Bytes) : TalksOnly s (s.route k b).1 := by
  unfold State.route
  simp only
  split
  · rfl
  · split
    · exact TalksOnly.trans (t := { s with sch := { s.sch with evSeq := s.sch.evSeq + 1 } }) rfl (State.fillBuffer_talks ..)
    · split
      · rfl
      · exact TalksOnly.trans (t := { s with sch := { s.sch with evSeq := s.sch.evSeq + 1 } }) rfl (State.eventLost_talks _)

theorem State.report_talks (s : State) (k : Nat) (b : Bytes) : TalksOnly s (s.report k b) := by
  unfold State.report
  simp only
  split
  · exact s.route_talks k b
  · exact (s.route_talks k b).trans (State.eventLost_talks _)

theorem State.dropStore_talks (s : State) (q : Nat) : TalksOnly s (s.dropStore q) := by
  unfold State.dropStore
  exact TalksOnly.trans (t := { s with sch := { s.sch with store := s.sch.store.filter (·.1 != q) } }) rfl
    (TalksOnly.foldl (fun s _ => s.eventLost) (fun s _ => s.eventLost_talks) _ _)

theorem State.queueError_talks (s : State) (q c : Nat) : TalksOnly s (s.queueError q c) := by
  unfold State.queueError
  refine TalksOnly.trans ?_ (State.report_talks ..)
  refine TalksOnly.trans ?_ (State.raise_talks ..)
  exact TalksOnly.trans (t := s.setQueue q _) rfl (State.dropStore_talks ..)

theorem State.rejectUnknown_talks (s : State) (q : Nat) : TalksOnly s (s.rejectUnknown q) := by
  unfold State.rejectUnknown
  refine TalksOnly.foldl _ (fun s f => ?_) _ _
  split
  · exact TalksOnly.trans (t := s.popHead q) rfl (State.complete_talks ..)
  · rfl

/-! ## report -/

@[simp] theorem State.report_pending (s : State) (k : Nat) (b : Bytes) : (s.report k b).pending = s.pending :=
  (congrArg State.pending (s.report_talks k b) :)
@[simp] theorem State.report_free (s : State) (k : Nat) (b : Bytes) : (s.report k b).free = s.free :=
  (congrArg State.free (s.report_talks k b) :)
@[simp] theorem State.report_mode (s : State) (k : Nat) (b : Bytes) : (s.report k b).mode = s.mode :=
  (congrArg State.mode (s.report_talks k b) :)
@[simp] theorem State.report_refclk (s : State) (k : Nat) (b : Bytes) : (s.report k b).refclk = s.refclk :=
  (congrArg State.refclk (s.report_talks k b) :)
@[simp] theorem State.report_tick (s : State) (k : Nat) (b : Bytes) : (s.report k b).tick = s.tick :=
  (congrArg State.tick (s.report_talks k b) :)
@[simp] theorem State.report_kept (s : State) (k : Nat) (b : Bytes) : (s.report k b).kept = s.kept :=
  (congrArg State.kept (s.report_talks k b) :)
@[simp] theorem State.report_mod (s : State) (k : Nat) (b : Bytes) : (s.report k b).mod = s.mod :=
  (congrArg State.mod (s.report_talks k b) :)
@[simp] theorem State.report_vig (s : State) (k : Nat) (b : Bytes) : (s.report k b).vig = s.vig :=
  (congrArg State.vig (s.report_talks k b) :)
@[simp] theorem State.report_otp (s : State) (k : Nat) (b : Bytes) : (s.report k b).otp = s.otp :=
  (congrArg State.otp (s.report_talks k b) :)
@[simp] theorem State.report_life (s : State) (k : Nat) (b : Bytes) : (s.report k b).life = s.life :=
  (congrArg State.life (s.report_talks k b) :)
@[simp] theorem State.report_rcp (s : State) (k : Nat) (b : Bytes) : (s.report k b).rcp = s.rcp :=
  (congrArg State.rcp (s.report_talks k b) :)
@[simp] theorem State.report_fab (s : State) (k : Nat) (b : Bytes) : (s.report k b).fab = s.fab :=
  (congrArg State.fab (s.report_talks k b) :)
@[simp] theorem State.report_ports (s : State) (k : Nat) (b : Bytes) : (s.report k b).ports = s.ports :=
  (congrArg State.ports (s.report_talks k b) :)
@[simp] theorem State.report_ent (s : State) (k : Nat) (b : Bytes) : (s.report k b).ent = s.ent :=
  (congrArg State.ent (s.report_talks k b) :)
@[simp] theorem State.report_prf (s : State) (k : Nat) (b : Bytes) : (s.report k b).prf = s.prf :=
  (congrArg State.prf (s.report_talks k b) :)
@[simp] theorem State.report_rngEmpty (s : State) (k : Nat) (b : Bytes) : (s.report k b).rngEmpty = s.rngEmpty :=
  (congrArg State.rngEmpty (s.report_talks k b) :)
@[simp] theorem State.report_cnt (s : State) (k : Nat) (b : Bytes) : (s.report k b).cnt = s.cnt :=
  (congrArg State.cnt (s.report_talks k b) :)
@[simp] theorem State.report_flash (s : State) (k : Nat) (b : Bytes) : (s.report k b).flash = s.flash :=
  (congrArg State.flash (s.report_talks k b) :)
@[simp] theorem State.report_spw (s : State) (k : Nat) (b : Bytes) : (s.report k b).spw = s.spw :=
  (congrArg State.spw (s.report_talks k b) :)
@[simp] theorem State.report_ldr (s : State) (k : Nat) (b : Bytes) : (s.report k b).ldr = s.ldr :=
  (congrArg State.ldr (s.report_talks k b) :)
@[simp] theorem State.report_glz (s : State) (k : Nat) (b : Bytes) : (s.report k b).glz = s.glz :=
  (congrArg State.glz (s.report_talks k b) :)
@[simp] theorem State.report_spc (s : State) (k : Nat) (b : Bytes) : (s.report k b).spc = s.spc :=
  (congrArg State.spc (s.report_talks k b) :)
@[simp] theorem State.report_msp (s : State) (k : Nat) (b : Bytes) : (s.report k b).msp = s.msp :=
  (congrArg State.msp (s.report_talks k b) :)
@[simp] theorem State.report_holdPcie (s : State) (k : Nat) (b : Bytes) : (s.report k b).holdPcie = s.holdPcie :=
  (congrArg State.holdPcie (s.report_talks k b) :)
@[simp] theorem State.report_holdMsp (s : State) (k : Nat) (b : Bytes) : (s.report k b).holdMsp = s.holdMsp :=
  (congrArg State.holdMsp (s.report_talks k b) :)

/-! ## complete -/

@[simp] theorem State.complete_pending (s : State) (q : Nat) (d : Desc) (st : Status) (r : Bytes) (b : Option Bytes) (h : Bool) : (s.complete q d st r b h).pending = s.pending :=
  (congrArg State.pending (s.complete_talks q d st r b h) :)
@[simp] theorem State.complete_free (s : State) (q : Nat) (d : Desc) (st : Status) (r : Bytes) (b : Option Bytes) (h : Bool) : (s.complete q d st r b h).free = s.free :=
  (congrArg State.free (s.complete_talks q d st r b h) :)
@[simp] theorem State.complete_mode (s : State) (q : Nat) (d : Desc) (st : Status) (r : Bytes) (b : Option Bytes) (h : Bool) : (s.complete q d st r b h).mode = s.mode :=
  (congrArg State.mode (s.complete_talks q d st r b h) :)
@[simp] theorem State.complete_refclk (s : State) (q : Nat) (d : Desc) (st : Status) (r : Bytes) (b : Option Bytes) (h : Bool) : (s.complete q d st r b h).refclk = s.refclk :=
  (congrArg State.refclk (s.complete_talks q d st r b h) :)
@[simp] theorem State.complete_tick (s : State) (q : Nat) (d : Desc) (st : Status) (r : Bytes) (b : Option Bytes) (h : Bool) : (s.complete q d st r b h).tick = s.tick :=
  (congrArg State.tick (s.complete_talks q d st r b h) :)
@[simp] theorem State.complete_kept (s : State) (q : Nat) (d : Desc) (st : Status) (r : Bytes) (b : Option Bytes) (h : Bool) : (s.complete q d st r b h).kept = s.kept :=
  (congrArg State.kept (s.complete_talks q d st r b h) :)
@[simp] theorem State.complete_mod (s : State) (q : Nat) (d : Desc) (st : Status) (r : Bytes) (b : Option Bytes) (h : Bool) : (s.complete q d st r b h).mod = s.mod :=
  (congrArg State.mod (s.complete_talks q d st r b h) :)
@[simp] theorem State.complete_vig (s : State) (q : Nat) (d : Desc) (st : Status) (r : Bytes) (b : Option Bytes) (h : Bool) : (s.complete q d st r b h).vig = s.vig :=
  (congrArg State.vig (s.complete_talks q d st r b h) :)
@[simp] theorem State.complete_otp (s : State) (q : Nat) (d : Desc) (st : Status) (r : Bytes) (b : Option Bytes) (h : Bool) : (s.complete q d st r b h).otp = s.otp :=
  (congrArg State.otp (s.complete_talks q d st r b h) :)
@[simp] theorem State.complete_life (s : State) (q : Nat) (d : Desc) (st : Status) (r : Bytes) (b : Option Bytes) (h : Bool) : (s.complete q d st r b h).life = s.life :=
  (congrArg State.life (s.complete_talks q d st r b h) :)
@[simp] theorem State.complete_rcp (s : State) (q : Nat) (d : Desc) (st : Status) (r : Bytes) (b : Option Bytes) (h : Bool) : (s.complete q d st r b h).rcp = s.rcp :=
  (congrArg State.rcp (s.complete_talks q d st r b h) :)
@[simp] theorem State.complete_fab (s : State) (q : Nat) (d : Desc) (st : Status) (r : Bytes) (b : Option Bytes) (h : Bool) : (s.complete q d st r b h).fab = s.fab :=
  (congrArg State.fab (s.complete_talks q d st r b h) :)
@[simp] theorem State.complete_ports (s : State) (q : Nat) (d : Desc) (st : Status) (r : Bytes) (b : Option Bytes) (h : Bool) : (s.complete q d st r b h).ports = s.ports :=
  (congrArg State.ports (s.complete_talks q d st r b h) :)
@[simp] theorem State.complete_ent (s : State) (q : Nat) (d : Desc) (st : Status) (r : Bytes) (b : Option Bytes) (h : Bool) : (s.complete q d st r b h).ent = s.ent :=
  (congrArg State.ent (s.complete_talks q d st r b h) :)
@[simp] theorem State.complete_prf (s : State) (q : Nat) (d : Desc) (st : Status) (r : Bytes) (b : Option Bytes) (h : Bool) : (s.complete q d st r b h).prf = s.prf :=
  (congrArg State.prf (s.complete_talks q d st r b h) :)
@[simp] theorem State.complete_rngEmpty (s : State) (q : Nat) (d : Desc) (st : Status) (r : Bytes) (b : Option Bytes) (h : Bool) : (s.complete q d st r b h).rngEmpty = s.rngEmpty :=
  (congrArg State.rngEmpty (s.complete_talks q d st r b h) :)
@[simp] theorem State.complete_cnt (s : State) (q : Nat) (d : Desc) (st : Status) (r : Bytes) (b : Option Bytes) (h : Bool) : (s.complete q d st r b h).cnt = s.cnt :=
  (congrArg State.cnt (s.complete_talks q d st r b h) :)
@[simp] theorem State.complete_flash (s : State) (q : Nat) (d : Desc) (st : Status) (r : Bytes) (b : Option Bytes) (h : Bool) : (s.complete q d st r b h).flash = s.flash :=
  (congrArg State.flash (s.complete_talks q d st r b h) :)
@[simp] theorem State.complete_spw (s : State) (q : Nat) (d : Desc) (st : Status) (r : Bytes) (b : Option Bytes) (h : Bool) : (s.complete q d st r b h).spw = s.spw :=
  (congrArg State.spw (s.complete_talks q d st r b h) :)
@[simp] theorem State.complete_ldr (s : State) (q : Nat) (d : Desc) (st : Status) (r : Bytes) (b : Option Bytes) (h : Bool) : (s.complete q d st r b h).ldr = s.ldr :=
  (congrArg State.ldr (s.complete_talks q d st r b h) :)
@[simp] theorem State.complete_glz (s : State) (q : Nat) (d : Desc) (st : Status) (r : Bytes) (b : Option Bytes) (h : Bool) : (s.complete q d st r b h).glz = s.glz :=
  (congrArg State.glz (s.complete_talks q d st r b h) :)
@[simp] theorem State.complete_spc (s : State) (q : Nat) (d : Desc) (st : Status) (r : Bytes) (b : Option Bytes) (h : Bool) : (s.complete q d st r b h).spc = s.spc :=
  (congrArg State.spc (s.complete_talks q d st r b h) :)
@[simp] theorem State.complete_msp (s : State) (q : Nat) (d : Desc) (st : Status) (r : Bytes) (b : Option Bytes) (h : Bool) : (s.complete q d st r b h).msp = s.msp :=
  (congrArg State.msp (s.complete_talks q d st r b h) :)
@[simp] theorem State.complete_holdPcie (s : State) (q : Nat) (d : Desc) (st : Status) (r : Bytes) (b : Option Bytes) (h : Bool) : (s.complete q d st r b h).holdPcie = s.holdPcie :=
  (congrArg State.holdPcie (s.complete_talks q d st r b h) :)
@[simp] theorem State.complete_holdMsp (s : State) (q : Nat) (d : Desc) (st : Status) (r : Bytes) (b : Option Bytes) (h : Bool) : (s.complete q d st r b h).holdMsp = s.holdMsp :=
  (congrArg State.holdMsp (s.complete_talks q d st r b h) :)

/-! ## dropStore -/

@[simp] theorem State.dropStore_pending (s : State) (q : Nat) : (s.dropStore q).pending = s.pending :=
  (congrArg State.pending (s.dropStore_talks q) :)
@[simp] theorem State.dropStore_free (s : State) (q : Nat) : (s.dropStore q).free = s.free :=
  (congrArg State.free (s.dropStore_talks q) :)
@[simp] theorem State.dropStore_mode (s : State) (q : Nat) : (s.dropStore q).mode = s.mode :=
  (congrArg State.mode (s.dropStore_talks q) :)
@[simp] theorem State.dropStore_refclk (s : State) (q : Nat) : (s.dropStore q).refclk = s.refclk :=
  (congrArg State.refclk (s.dropStore_talks q) :)
@[simp] theorem State.dropStore_tick (s : State) (q : Nat) : (s.dropStore q).tick = s.tick :=
  (congrArg State.tick (s.dropStore_talks q) :)
@[simp] theorem State.dropStore_kept (s : State) (q : Nat) : (s.dropStore q).kept = s.kept :=
  (congrArg State.kept (s.dropStore_talks q) :)
@[simp] theorem State.dropStore_mod (s : State) (q : Nat) : (s.dropStore q).mod = s.mod :=
  (congrArg State.mod (s.dropStore_talks q) :)
@[simp] theorem State.dropStore_vig (s : State) (q : Nat) : (s.dropStore q).vig = s.vig :=
  (congrArg State.vig (s.dropStore_talks q) :)
@[simp] theorem State.dropStore_otp (s : State) (q : Nat) : (s.dropStore q).otp = s.otp :=
  (congrArg State.otp (s.dropStore_talks q) :)
@[simp] theorem State.dropStore_life (s : State) (q : Nat) : (s.dropStore q).life = s.life :=
  (congrArg State.life (s.dropStore_talks q) :)
@[simp] theorem State.dropStore_rcp (s : State) (q : Nat) : (s.dropStore q).rcp = s.rcp :=
  (congrArg State.rcp (s.dropStore_talks q) :)
@[simp] theorem State.dropStore_fab (s : State) (q : Nat) : (s.dropStore q).fab = s.fab :=
  (congrArg State.fab (s.dropStore_talks q) :)
@[simp] theorem State.dropStore_ports (s : State) (q : Nat) : (s.dropStore q).ports = s.ports :=
  (congrArg State.ports (s.dropStore_talks q) :)
@[simp] theorem State.dropStore_ent (s : State) (q : Nat) : (s.dropStore q).ent = s.ent :=
  (congrArg State.ent (s.dropStore_talks q) :)
@[simp] theorem State.dropStore_prf (s : State) (q : Nat) : (s.dropStore q).prf = s.prf :=
  (congrArg State.prf (s.dropStore_talks q) :)
@[simp] theorem State.dropStore_rngEmpty (s : State) (q : Nat) : (s.dropStore q).rngEmpty = s.rngEmpty :=
  (congrArg State.rngEmpty (s.dropStore_talks q) :)
@[simp] theorem State.dropStore_cnt (s : State) (q : Nat) : (s.dropStore q).cnt = s.cnt :=
  (congrArg State.cnt (s.dropStore_talks q) :)
@[simp] theorem State.dropStore_flash (s : State) (q : Nat) : (s.dropStore q).flash = s.flash :=
  (congrArg State.flash (s.dropStore_talks q) :)
@[simp] theorem State.dropStore_spw (s : State) (q : Nat) : (s.dropStore q).spw = s.spw :=
  (congrArg State.spw (s.dropStore_talks q) :)
@[simp] theorem State.dropStore_ldr (s : State) (q : Nat) : (s.dropStore q).ldr = s.ldr :=
  (congrArg State.ldr (s.dropStore_talks q) :)
@[simp] theorem State.dropStore_glz (s : State) (q : Nat) : (s.dropStore q).glz = s.glz :=
  (congrArg State.glz (s.dropStore_talks q) :)
@[simp] theorem State.dropStore_spc (s : State) (q : Nat) : (s.dropStore q).spc = s.spc :=
  (congrArg State.spc (s.dropStore_talks q) :)
@[simp] theorem State.dropStore_msp (s : State) (q : Nat) : (s.dropStore q).msp = s.msp :=
  (congrArg State.msp (s.dropStore_talks q) :)
@[simp] theorem State.dropStore_holdPcie (s : State) (q : Nat) : (s.dropStore q).holdPcie = s.holdPcie :=
  (congrArg State.holdPcie (s.dropStore_talks q) :)
@[simp] theorem State.dropStore_holdMsp (s : State) (q : Nat) : (s.dropStore q).holdMsp = s.holdMsp :=
  (congrArg State.holdMsp (s.dropStore_talks q) :)

/-! ## eventLost -/

@[simp] theorem State.eventLost_pending (s : State) : (s.eventLost).pending = s.pending :=
  (congrArg State.pending (s.eventLost_talks) :)
@[simp] theorem State.eventLost_free (s : State) : (s.eventLost).free = s.free :=
  (congrArg State.free (s.eventLost_talks) :)
@[simp] theorem State.eventLost_mode (s : State) : (s.eventLost).mode = s.mode :=
  (congrArg State.mode (s.eventLost_talks) :)
@[simp] theorem State.eventLost_refclk (s : State) : (s.eventLost).refclk = s.refclk :=
  (congrArg State.refclk (s.eventLost_talks) :)
@[simp] theorem State.eventLost_tick (s : State) : (s.eventLost).tick = s.tick :=
  (congrArg State.tick (s.eventLost_talks) :)
@[simp] theorem State.eventLost_kept (s : State) : (s.eventLost).kept = s.kept :=
  (congrArg State.kept (s.eventLost_talks) :)
@[simp] theorem State.eventLost_mod (s : State) : (s.eventLost).mod = s.mod :=
  (congrArg State.mod (s.eventLost_talks) :)
@[simp] theorem State.eventLost_vig (s : State) : (s.eventLost).vig = s.vig :=
  (congrArg State.vig (s.eventLost_talks) :)
@[simp] theorem State.eventLost_otp (s : State) : (s.eventLost).otp = s.otp :=
  (congrArg State.otp (s.eventLost_talks) :)
@[simp] theorem State.eventLost_life (s : State) : (s.eventLost).life = s.life :=
  (congrArg State.life (s.eventLost_talks) :)
@[simp] theorem State.eventLost_rcp (s : State) : (s.eventLost).rcp = s.rcp :=
  (congrArg State.rcp (s.eventLost_talks) :)
@[simp] theorem State.eventLost_fab (s : State) : (s.eventLost).fab = s.fab :=
  (congrArg State.fab (s.eventLost_talks) :)
@[simp] theorem State.eventLost_ports (s : State) : (s.eventLost).ports = s.ports :=
  (congrArg State.ports (s.eventLost_talks) :)
@[simp] theorem State.eventLost_ent (s : State) : (s.eventLost).ent = s.ent :=
  (congrArg State.ent (s.eventLost_talks) :)
@[simp] theorem State.eventLost_prf (s : State) : (s.eventLost).prf = s.prf :=
  (congrArg State.prf (s.eventLost_talks) :)
@[simp] theorem State.eventLost_rngEmpty (s : State) : (s.eventLost).rngEmpty = s.rngEmpty :=
  (congrArg State.rngEmpty (s.eventLost_talks) :)
@[simp] theorem State.eventLost_cnt (s : State) : (s.eventLost).cnt = s.cnt :=
  (congrArg State.cnt (s.eventLost_talks) :)
@[simp] theorem State.eventLost_flash (s : State) : (s.eventLost).flash = s.flash :=
  (congrArg State.flash (s.eventLost_talks) :)
@[simp] theorem State.eventLost_spw (s : State) : (s.eventLost).spw = s.spw :=
  (congrArg State.spw (s.eventLost_talks) :)
@[simp] theorem State.eventLost_ldr (s : State) : (s.eventLost).ldr = s.ldr :=
  (congrArg State.ldr (s.eventLost_talks) :)
@[simp] theorem State.eventLost_glz (s : State) : (s.eventLost).glz = s.glz :=
  (congrArg State.glz (s.eventLost_talks) :)
@[simp] theorem State.eventLost_spc (s : State) : (s.eventLost).spc = s.spc :=
  (congrArg State.spc (s.eventLost_talks) :)
@[simp] theorem State.eventLost_msp (s : State) : (s.eventLost).msp = s.msp :=
  (congrArg State.msp (s.eventLost_talks) :)
@[simp] theorem State.eventLost_holdPcie (s : State) : (s.eventLost).holdPcie = s.holdPcie :=
  (congrArg State.holdPcie (s.eventLost_talks) :)
@[simp] theorem State.eventLost_holdMsp (s : State) : (s.eventLost).holdMsp = s.holdMsp :=
  (congrArg State.holdMsp (s.eventLost_talks) :)

/-! ## signal -/

@[simp] theorem State.signal_pending (s : State) (v : Nat) : (s.signal v).pending = s.pending :=
  (congrArg State.pending (s.signal_talks v) :)
@[simp] theorem State.signal_free (s : State) (v : Nat) : (s.signal v).free = s.free :=
  (congrArg State.free (s.signal_talks v) :)
@[simp] theorem State.signal_mode (s : State) (v : Nat) : (s.signal v).mode = s.mode :=
  (congrArg State.mode (s.signal_talks v) :)
@[simp] theorem State.signal_refclk (s : State) (v : Nat) : (s.signal v).refclk = s.refclk :=
  (congrArg State.refclk (s.signal_talks v) :)
@[simp] theorem State.signal_tick (s : State) (v : Nat) : (s.signal v).tick = s.tick :=
  (congrArg State.tick (s.signal_talks v) :)
@[simp] theorem State.signal_kept (s : State) (v : Nat) : (s.signal v).kept = s.kept :=
  (congrArg State.kept (s.signal_talks v) :)
@[simp] theorem State.signal_mod (s : State) (v : Nat) : (s.signal v).mod = s.mod :=
  (congrArg State.mod (s.signal_talks v) :)
@[simp] theorem State.signal_vig (s : State) (v : Nat) : (s.signal v).vig = s.vig :=
  (congrArg State.vig (s.signal_talks v) :)
@[simp] theorem State.signal_otp (s : State) (v : Nat) : (s.signal v).otp = s.otp :=
  (congrArg State.otp (s.signal_talks v) :)
@[simp] theorem State.signal_life (s : State) (v : Nat) : (s.signal v).life = s.life :=
  (congrArg State.life (s.signal_talks v) :)
@[simp] theorem State.signal_rcp (s : State) (v : Nat) : (s.signal v).rcp = s.rcp :=
  (congrArg State.rcp (s.signal_talks v) :)
@[simp] theorem State.signal_fab (s : State) (v : Nat) : (s.signal v).fab = s.fab :=
  (congrArg State.fab (s.signal_talks v) :)
@[simp] theorem State.signal_ports (s : State) (v : Nat) : (s.signal v).ports = s.ports :=
  (congrArg State.ports (s.signal_talks v) :)
@[simp] theorem State.signal_ent (s : State) (v : Nat) : (s.signal v).ent = s.ent :=
  (congrArg State.ent (s.signal_talks v) :)
@[simp] theorem State.signal_prf (s : State) (v : Nat) : (s.signal v).prf = s.prf :=
  (congrArg State.prf (s.signal_talks v) :)
@[simp] theorem State.signal_rngEmpty (s : State) (v : Nat) : (s.signal v).rngEmpty = s.rngEmpty :=
  (congrArg State.rngEmpty (s.signal_talks v) :)
@[simp] theorem State.signal_cnt (s : State) (v : Nat) : (s.signal v).cnt = s.cnt :=
  (congrArg State.cnt (s.signal_talks v) :)
@[simp] theorem State.signal_flash (s : State) (v : Nat) : (s.signal v).flash = s.flash :=
  (congrArg State.flash (s.signal_talks v) :)
@[simp] theorem State.signal_spw (s : State) (v : Nat) : (s.signal v).spw = s.spw :=
  (congrArg State.spw (s.signal_talks v) :)
@[simp] theorem State.signal_ldr (s : State) (v : Nat) : (s.signal v).ldr = s.ldr :=
  (congrArg State.ldr (s.signal_talks v) :)
@[simp] theorem State.signal_glz (s : State) (v : Nat) : (s.signal v).glz = s.glz :=
  (congrArg State.glz (s.signal_talks v) :)
@[simp] theorem State.signal_spc (s : State) (v : Nat) : (s.signal v).spc = s.spc :=
  (congrArg State.spc (s.signal_talks v) :)
@[simp] theorem State.signal_msp (s : State) (v : Nat) : (s.signal v).msp = s.msp :=
  (congrArg State.msp (s.signal_talks v) :)
@[simp] theorem State.signal_holdPcie (s : State) (v : Nat) : (s.signal v).holdPcie = s.holdPcie :=
  (congrArg State.holdPcie (s.signal_talks v) :)
@[simp] theorem State.signal_holdMsp (s : State) (v : Nat) : (s.signal v).holdMsp = s.holdMsp :=
  (congrArg State.holdMsp (s.signal_talks v) :)

/-! ## queueError -/

@[simp] theorem State.queueError_pending (s : State) (q c : Nat) : (s.queueError q c).pending = s.pending :=
  (congrArg State.pending (s.queueError_talks q c) :)
@[simp] theorem State.queueError_free (s : State) (q c : Nat) : (s.queueError q c).free = s.free :=
  (congrArg State.free (s.queueError_talks q c) :)
@[simp] theorem State.queueError_mode (s : State) (q c : Nat) : (s.queueError q c).mode = s.mode :=
  (congrArg State.mode (s.queueError_talks q c) :)
@[simp] theorem State.queueError_refclk (s : State) (q c : Nat) : (s.queueError q c).refclk = s.refclk :=
  (congrArg State.refclk (s.queueError_talks q c) :)
@[simp] theorem State.queueError_tick (s : State) (q c : Nat) : (s.queueError q c).tick = s.tick :=
  (congrArg State.tick (s.queueError_talks q c) :)
@[simp] theorem State.queueError_kept (s : State) (q c : Nat) : (s.queueError q c).kept = s.kept :=
  (congrArg State.kept (s.queueError_talks q c) :)
@[simp] theorem State.queueError_mod (s : State) (q c : Nat) : (s.queueError q c).mod = s.mod :=
  (congrArg State.mod (s.queueError_talks q c) :)
@[simp] theorem State.queueError_vig (s : State) (q c : Nat) : (s.queueError q c).vig = s.vig :=
  (congrArg State.vig (s.queueError_talks q c) :)
@[simp] theorem State.queueError_otp (s : State) (q c : Nat) : (s.queueError q c).otp = s.otp :=
  (congrArg State.otp (s.queueError_talks q c) :)
@[simp] theorem State.queueError_life (s : State) (q c : Nat) : (s.queueError q c).life = s.life :=
  (congrArg State.life (s.queueError_talks q c) :)
@[simp] theorem State.queueError_rcp (s : State) (q c : Nat) : (s.queueError q c).rcp = s.rcp :=
  (congrArg State.rcp (s.queueError_talks q c) :)
@[simp] theorem State.queueError_fab (s : State) (q c : Nat) : (s.queueError q c).fab = s.fab :=
  (congrArg State.fab (s.queueError_talks q c) :)
@[simp] theorem State.queueError_ports (s : State) (q c : Nat) : (s.queueError q c).ports = s.ports :=
  (congrArg State.ports (s.queueError_talks q c) :)
@[simp] theorem State.queueError_ent (s : State) (q c : Nat) : (s.queueError q c).ent = s.ent :=
  (congrArg State.ent (s.queueError_talks q c) :)
@[simp] theorem State.queueError_prf (s : State) (q c : Nat) : (s.queueError q c).prf = s.prf :=
  (congrArg State.prf (s.queueError_talks q c) :)
@[simp] theorem State.queueError_rngEmpty (s : State) (q c : Nat) : (s.queueError q c).rngEmpty = s.rngEmpty :=
  (congrArg State.rngEmpty (s.queueError_talks q c) :)
@[simp] theorem State.queueError_cnt (s : State) (q c : Nat) : (s.queueError q c).cnt = s.cnt :=
  (congrArg State.cnt (s.queueError_talks q c) :)
@[simp] theorem State.queueError_flash (s : State) (q c : Nat) : (s.queueError q c).flash = s.flash :=
  (congrArg State.flash (s.queueError_talks q c) :)
@[simp] theorem State.queueError_spw (s : State) (q c : Nat) : (s.queueError q c).spw = s.spw :=
  (congrArg State.spw (s.queueError_talks q c) :)
@[simp] theorem State.queueError_ldr (s : State) (q c : Nat) : (s.queueError q c).ldr = s.ldr :=
  (congrArg State.ldr (s.queueError_talks q c) :)
@[simp] theorem State.queueError_glz (s : State) (q c : Nat) : (s.queueError q c).glz = s.glz :=
  (congrArg State.glz (s.queueError_talks q c) :)
@[simp] theorem State.queueError_spc (s : State) (q c : Nat) : (s.queueError q c).spc = s.spc :=
  (congrArg State.spc (s.queueError_talks q c) :)
@[simp] theorem State.queueError_msp (s : State) (q c : Nat) : (s.queueError q c).msp = s.msp :=
  (congrArg State.msp (s.queueError_talks q c) :)
@[simp] theorem State.queueError_holdPcie (s : State) (q c : Nat) : (s.queueError q c).holdPcie = s.holdPcie :=
  (congrArg State.holdPcie (s.queueError_talks q c) :)
@[simp] theorem State.queueError_holdMsp (s : State) (q c : Nat) : (s.queueError q c).holdMsp = s.holdMsp :=
  (congrArg State.holdMsp (s.queueError_talks q c) :)

/-! ## rejectUnknown -/

@[simp] theorem State.rejectUnknown_pending (s : State) (q : Nat) : (s.rejectUnknown q).pending = s.pending :=
  (congrArg State.pending (s.rejectUnknown_talks q) :)
@[simp] theorem State.rejectUnknown_free (s : State) (q : Nat) : (s.rejectUnknown q).free = s.free :=
  (congrArg State.free (s.rejectUnknown_talks q) :)
@[simp] theorem State.rejectUnknown_mode (s : State) (q : Nat) : (s.rejectUnknown q).mode = s.mode :=
  (congrArg State.mode (s.rejectUnknown_talks q) :)
@[simp] theorem State.rejectUnknown_refclk (s : State) (q : Nat) : (s.rejectUnknown q).refclk = s.refclk :=
  (congrArg State.refclk (s.rejectUnknown_talks q) :)
@[simp] theorem State.rejectUnknown_tick (s : State) (q : Nat) : (s.rejectUnknown q).tick = s.tick :=
  (congrArg State.tick (s.rejectUnknown_talks q) :)
@[simp] theorem State.rejectUnknown_kept (s : State) (q : Nat) : (s.rejectUnknown q).kept = s.kept :=
  (congrArg State.kept (s.rejectUnknown_talks q) :)
@[simp] theorem State.rejectUnknown_mod (s : State) (q : Nat) : (s.rejectUnknown q).mod = s.mod :=
  (congrArg State.mod (s.rejectUnknown_talks q) :)
@[simp] theorem State.rejectUnknown_vig (s : State) (q : Nat) : (s.rejectUnknown q).vig = s.vig :=
  (congrArg State.vig (s.rejectUnknown_talks q) :)
@[simp] theorem State.rejectUnknown_otp (s : State) (q : Nat) : (s.rejectUnknown q).otp = s.otp :=
  (congrArg State.otp (s.rejectUnknown_talks q) :)
@[simp] theorem State.rejectUnknown_life (s : State) (q : Nat) : (s.rejectUnknown q).life = s.life :=
  (congrArg State.life (s.rejectUnknown_talks q) :)
@[simp] theorem State.rejectUnknown_rcp (s : State) (q : Nat) : (s.rejectUnknown q).rcp = s.rcp :=
  (congrArg State.rcp (s.rejectUnknown_talks q) :)
@[simp] theorem State.rejectUnknown_fab (s : State) (q : Nat) : (s.rejectUnknown q).fab = s.fab :=
  (congrArg State.fab (s.rejectUnknown_talks q) :)
@[simp] theorem State.rejectUnknown_ports (s : State) (q : Nat) : (s.rejectUnknown q).ports = s.ports :=
  (congrArg State.ports (s.rejectUnknown_talks q) :)
@[simp] theorem State.rejectUnknown_ent (s : State) (q : Nat) : (s.rejectUnknown q).ent = s.ent :=
  (congrArg State.ent (s.rejectUnknown_talks q) :)
@[simp] theorem State.rejectUnknown_prf (s : State) (q : Nat) : (s.rejectUnknown q).prf = s.prf :=
  (congrArg State.prf (s.rejectUnknown_talks q) :)
@[simp] theorem State.rejectUnknown_rngEmpty (s : State) (q : Nat) : (s.rejectUnknown q).rngEmpty = s.rngEmpty :=
  (congrArg State.rngEmpty (s.rejectUnknown_talks q) :)
@[simp] theorem State.rejectUnknown_cnt (s : State) (q : Nat) : (s.rejectUnknown q).cnt = s.cnt :=
  (congrArg State.cnt (s.rejectUnknown_talks q) :)
@[simp] theorem State.rejectUnknown_flash (s : State) (q : Nat) : (s.rejectUnknown q).flash = s.flash :=
  (congrArg State.flash (s.rejectUnknown_talks q) :)
@[simp] theorem State.rejectUnknown_spw (s : State) (q : Nat) : (s.rejectUnknown q).spw = s.spw :=
  (congrArg State.spw (s.rejectUnknown_talks q) :)
@[simp] theorem State.rejectUnknown_ldr (s : State) (q : Nat) : (s.rejectUnknown q).ldr = s.ldr :=
  (congrArg State.ldr (s.rejectUnknown_talks q) :)
@[simp] theorem State.rejectUnknown_glz (s : State) (q : Nat) : (s.rejectUnknown q).glz = s.glz :=
  (congrArg State.glz (s.rejectUnknown_talks q) :)
@[simp] theorem State.rejectUnknown_spc (s : State) (q : Nat) : (s.rejectUnknown q).spc = s.spc :=
  (congrArg State.spc (s.rejectUnknown_talks q) :)
@[simp] theorem State.rejectUnknown_msp (s : State) (q : Nat) : (s.rejectUnknown q).msp = s.msp :=
  (congrArg State.msp (s.rejectUnknown_talks q) :)
@[simp] theorem State.rejectUnknown_holdPcie (s : State) (q : Nat) : (s.rejectUnknown q).holdPcie = s.holdPcie :=
  (congrArg State.holdPcie (s.rejectUnknown_talks q) :)
@[simp] theorem State.rejectUnknown_holdMsp (s : State) (q : Nat) : (s.rejectUnknown q).holdMsp = s.holdMsp :=
  (congrArg State.holdMsp (s.rejectUnknown_talks q) :)

/-! ## queueVector -/

@[simp] theorem State.queueVector_pending (s : State) (q : Nat) : (s.queueVector q).pending = s.pending :=
  (congrArg State.pending (s.queueVector_talks q) :)
@[simp] theorem State.queueVector_free (s : State) (q : Nat) : (s.queueVector q).free = s.free :=
  (congrArg State.free (s.queueVector_talks q) :)
@[simp] theorem State.queueVector_mode (s : State) (q : Nat) : (s.queueVector q).mode = s.mode :=
  (congrArg State.mode (s.queueVector_talks q) :)
@[simp] theorem State.queueVector_refclk (s : State) (q : Nat) : (s.queueVector q).refclk = s.refclk :=
  (congrArg State.refclk (s.queueVector_talks q) :)
@[simp] theorem State.queueVector_tick (s : State) (q : Nat) : (s.queueVector q).tick = s.tick :=
  (congrArg State.tick (s.queueVector_talks q) :)
@[simp] theorem State.queueVector_kept (s : State) (q : Nat) : (s.queueVector q).kept = s.kept :=
  (congrArg State.kept (s.queueVector_talks q) :)
@[simp] theorem State.queueVector_mod (s : State) (q : Nat) : (s.queueVector q).mod = s.mod :=
  (congrArg State.mod (s.queueVector_talks q) :)
@[simp] theorem State.queueVector_vig (s : State) (q : Nat) : (s.queueVector q).vig = s.vig :=
  (congrArg State.vig (s.queueVector_talks q) :)
@[simp] theorem State.queueVector_otp (s : State) (q : Nat) : (s.queueVector q).otp = s.otp :=
  (congrArg State.otp (s.queueVector_talks q) :)
@[simp] theorem State.queueVector_life (s : State) (q : Nat) : (s.queueVector q).life = s.life :=
  (congrArg State.life (s.queueVector_talks q) :)
@[simp] theorem State.queueVector_rcp (s : State) (q : Nat) : (s.queueVector q).rcp = s.rcp :=
  (congrArg State.rcp (s.queueVector_talks q) :)
@[simp] theorem State.queueVector_fab (s : State) (q : Nat) : (s.queueVector q).fab = s.fab :=
  (congrArg State.fab (s.queueVector_talks q) :)
@[simp] theorem State.queueVector_ports (s : State) (q : Nat) : (s.queueVector q).ports = s.ports :=
  (congrArg State.ports (s.queueVector_talks q) :)
@[simp] theorem State.queueVector_ent (s : State) (q : Nat) : (s.queueVector q).ent = s.ent :=
  (congrArg State.ent (s.queueVector_talks q) :)
@[simp] theorem State.queueVector_prf (s : State) (q : Nat) : (s.queueVector q).prf = s.prf :=
  (congrArg State.prf (s.queueVector_talks q) :)
@[simp] theorem State.queueVector_rngEmpty (s : State) (q : Nat) : (s.queueVector q).rngEmpty = s.rngEmpty :=
  (congrArg State.rngEmpty (s.queueVector_talks q) :)
@[simp] theorem State.queueVector_cnt (s : State) (q : Nat) : (s.queueVector q).cnt = s.cnt :=
  (congrArg State.cnt (s.queueVector_talks q) :)
@[simp] theorem State.queueVector_flash (s : State) (q : Nat) : (s.queueVector q).flash = s.flash :=
  (congrArg State.flash (s.queueVector_talks q) :)
@[simp] theorem State.queueVector_spw (s : State) (q : Nat) : (s.queueVector q).spw = s.spw :=
  (congrArg State.spw (s.queueVector_talks q) :)
@[simp] theorem State.queueVector_ldr (s : State) (q : Nat) : (s.queueVector q).ldr = s.ldr :=
  (congrArg State.ldr (s.queueVector_talks q) :)
@[simp] theorem State.queueVector_glz (s : State) (q : Nat) : (s.queueVector q).glz = s.glz :=
  (congrArg State.glz (s.queueVector_talks q) :)
@[simp] theorem State.queueVector_spc (s : State) (q : Nat) : (s.queueVector q).spc = s.spc :=
  (congrArg State.spc (s.queueVector_talks q) :)
@[simp] theorem State.queueVector_msp (s : State) (q : Nat) : (s.queueVector q).msp = s.msp :=
  (congrArg State.msp (s.queueVector_talks q) :)
@[simp] theorem State.queueVector_holdPcie (s : State) (q : Nat) : (s.queueVector q).holdPcie = s.holdPcie :=
  (congrArg State.holdPcie (s.queueVector_talks q) :)
@[simp] theorem State.queueVector_holdMsp (s : State) (q : Nat) : (s.queueVector q).holdMsp = s.holdMsp :=
  (congrArg State.holdMsp (s.queueVector_talks q) :)

/-! ## settleQueue -/

@[simp] theorem State.settleQueue_pending (s : State) (q : Nat) : (s.settleQueue q).pending = s.pending :=
  (congrArg State.pending (s.settleQueue_talks q) :)
@[simp] theorem State.settleQueue_free (s : State) (q : Nat) : (s.settleQueue q).free = s.free :=
  (congrArg State.free (s.settleQueue_talks q) :)
@[simp] theorem State.settleQueue_mode (s : State) (q : Nat) : (s.settleQueue q).mode = s.mode :=
  (congrArg State.mode (s.settleQueue_talks q) :)
@[simp] theorem State.settleQueue_refclk (s : State) (q : Nat) : (s.settleQueue q).refclk = s.refclk :=
  (congrArg State.refclk (s.settleQueue_talks q) :)
@[simp] theorem State.settleQueue_tick (s : State) (q : Nat) : (s.settleQueue q).tick = s.tick :=
  (congrArg State.tick (s.settleQueue_talks q) :)
@[simp] theorem State.settleQueue_kept (s : State) (q : Nat) : (s.settleQueue q).kept = s.kept :=
  (congrArg State.kept (s.settleQueue_talks q) :)
@[simp] theorem State.settleQueue_mod (s : State) (q : Nat) : (s.settleQueue q).mod = s.mod :=
  (congrArg State.mod (s.settleQueue_talks q) :)
@[simp] theorem State.settleQueue_vig (s : State) (q : Nat) : (s.settleQueue q).vig = s.vig :=
  (congrArg State.vig (s.settleQueue_talks q) :)
@[simp] theorem State.settleQueue_otp (s : State) (q : Nat) : (s.settleQueue q).otp = s.otp :=
  (congrArg State.otp (s.settleQueue_talks q) :)
@[simp] theorem State.settleQueue_life (s : State) (q : Nat) : (s.settleQueue q).life = s.life :=
  (congrArg State.life (s.settleQueue_talks q) :)
@[simp] theorem State.settleQueue_rcp (s : State) (q : Nat) : (s.settleQueue q).rcp = s.rcp :=
  (congrArg State.rcp (s.settleQueue_talks q) :)
@[simp] theorem State.settleQueue_fab (s : State) (q : Nat) : (s.settleQueue q).fab = s.fab :=
  (congrArg State.fab (s.settleQueue_talks q) :)
@[simp] theorem State.settleQueue_ports (s : State) (q : Nat) : (s.settleQueue q).ports = s.ports :=
  (congrArg State.ports (s.settleQueue_talks q) :)
@[simp] theorem State.settleQueue_ent (s : State) (q : Nat) : (s.settleQueue q).ent = s.ent :=
  (congrArg State.ent (s.settleQueue_talks q) :)
@[simp] theorem State.settleQueue_prf (s : State) (q : Nat) : (s.settleQueue q).prf = s.prf :=
  (congrArg State.prf (s.settleQueue_talks q) :)
@[simp] theorem State.settleQueue_rngEmpty (s : State) (q : Nat) : (s.settleQueue q).rngEmpty = s.rngEmpty :=
  (congrArg State.rngEmpty (s.settleQueue_talks q) :)
@[simp] theorem State.settleQueue_cnt (s : State) (q : Nat) : (s.settleQueue q).cnt = s.cnt :=
  (congrArg State.cnt (s.settleQueue_talks q) :)
@[simp] theorem State.settleQueue_flash (s : State) (q : Nat) : (s.settleQueue q).flash = s.flash :=
  (congrArg State.flash (s.settleQueue_talks q) :)
@[simp] theorem State.settleQueue_spw (s : State) (q : Nat) : (s.settleQueue q).spw = s.spw :=
  (congrArg State.spw (s.settleQueue_talks q) :)
@[simp] theorem State.settleQueue_ldr (s : State) (q : Nat) : (s.settleQueue q).ldr = s.ldr :=
  (congrArg State.ldr (s.settleQueue_talks q) :)
@[simp] theorem State.settleQueue_glz (s : State) (q : Nat) : (s.settleQueue q).glz = s.glz :=
  (congrArg State.glz (s.settleQueue_talks q) :)
@[simp] theorem State.settleQueue_spc (s : State) (q : Nat) : (s.settleQueue q).spc = s.spc :=
  (congrArg State.spc (s.settleQueue_talks q) :)
@[simp] theorem State.settleQueue_msp (s : State) (q : Nat) : (s.settleQueue q).msp = s.msp :=
  (congrArg State.msp (s.settleQueue_talks q) :)
@[simp] theorem State.settleQueue_holdPcie (s : State) (q : Nat) : (s.settleQueue q).holdPcie = s.holdPcie :=
  (congrArg State.holdPcie (s.settleQueue_talks q) :)
@[simp] theorem State.settleQueue_holdMsp (s : State) (q : Nat) : (s.settleQueue q).holdMsp = s.holdMsp :=
  (congrArg State.holdMsp (s.settleQueue_talks q) :)

/-! ## Units -/

/-- A move of a unit is recorded at the unit; all else it does is to report it. -/
theorem State.moveUnit_talks (s : State) (u : Nat) (x : UnitSt) : TalksOnly (s.setUnit u x) (s.moveUnit u x) := by
  unfold State.moveUnit
  simp only
  split
  · rfl
  · split
    · exact (State.raise_talks _ _).trans (State.report_talks _ _ _)
    · exact State.report_talks _ _ _

@[simp] theorem State.moveUnit_pending (s : State) (u : Nat) (x : UnitSt) : (s.moveUnit u x).pending = s.pending :=
  (congrArg State.pending (s.moveUnit_talks u x) :)
@[simp] theorem State.moveUnit_free (s : State) (u : Nat) (x : UnitSt) : (s.moveUnit u x).free = s.free :=
  (congrArg State.free (s.moveUnit_talks u x) :)
@[simp] theorem State.moveUnit_mode (s : State) (u : Nat) (x : UnitSt) : (s.moveUnit u x).mode = s.mode :=
  (congrArg State.mode (s.moveUnit_talks u x) :)
@[simp] theorem State.moveUnit_refclk (s : State) (u : Nat) (x : UnitSt) : (s.moveUnit u x).refclk = s.refclk :=
  (congrArg State.refclk (s.moveUnit_talks u x) :)
@[simp] theorem State.moveUnit_tick (s : State) (u : Nat) (x : UnitSt) : (s.moveUnit u x).tick = s.tick :=
  (congrArg State.tick (s.moveUnit_talks u x) :)
@[simp] theorem State.moveUnit_kept (s : State) (u : Nat) (x : UnitSt) : (s.moveUnit u x).kept = s.kept :=
  (congrArg State.kept (s.moveUnit_talks u x) :)
@[simp] theorem State.moveUnit_mod (s : State) (u : Nat) (x : UnitSt) : (s.moveUnit u x).mod = s.mod :=
  (congrArg State.mod (s.moveUnit_talks u x) :)
@[simp] theorem State.moveUnit_vig (s : State) (u : Nat) (x : UnitSt) : (s.moveUnit u x).vig = s.vig :=
  (congrArg State.vig (s.moveUnit_talks u x) :)
@[simp] theorem State.moveUnit_otp (s : State) (u : Nat) (x : UnitSt) : (s.moveUnit u x).otp = s.otp :=
  (congrArg State.otp (s.moveUnit_talks u x) :)
@[simp] theorem State.moveUnit_life (s : State) (u : Nat) (x : UnitSt) : (s.moveUnit u x).life = s.life :=
  (congrArg State.life (s.moveUnit_talks u x) :)
@[simp] theorem State.moveUnit_rcp (s : State) (u : Nat) (x : UnitSt) : (s.moveUnit u x).rcp = (s.setUnit u x).rcp :=
  (congrArg State.rcp (s.moveUnit_talks u x) :)
@[simp] theorem State.moveUnit_fab (s : State) (u : Nat) (x : UnitSt) : (s.moveUnit u x).fab = s.fab :=
  (congrArg State.fab (s.moveUnit_talks u x) :)
@[simp] theorem State.moveUnit_ports (s : State) (u : Nat) (x : UnitSt) : (s.moveUnit u x).ports = s.ports :=
  (congrArg State.ports (s.moveUnit_talks u x) :)
@[simp] theorem State.moveUnit_ent (s : State) (u : Nat) (x : UnitSt) : (s.moveUnit u x).ent = s.ent :=
  (congrArg State.ent (s.moveUnit_talks u x) :)
@[simp] theorem State.moveUnit_prf (s : State) (u : Nat) (x : UnitSt) : (s.moveUnit u x).prf = s.prf :=
  (congrArg State.prf (s.moveUnit_talks u x) :)
@[simp] theorem State.moveUnit_rngEmpty (s : State) (u : Nat) (x : UnitSt) : (s.moveUnit u x).rngEmpty = s.rngEmpty :=
  (congrArg State.rngEmpty (s.moveUnit_talks u x) :)
@[simp] theorem State.moveUnit_cnt (s : State) (u : Nat) (x : UnitSt) : (s.moveUnit u x).cnt = s.cnt :=
  (congrArg State.cnt (s.moveUnit_talks u x) :)
@[simp] theorem State.moveUnit_flash (s : State) (u : Nat) (x : UnitSt) : (s.moveUnit u x).flash = s.flash :=
  (congrArg State.flash (s.moveUnit_talks u x) :)
@[simp] theorem State.moveUnit_spw (s : State) (u : Nat) (x : UnitSt) : (s.moveUnit u x).spw = s.spw :=
  (congrArg State.spw (s.moveUnit_talks u x) :)
@[simp] theorem State.moveUnit_ldr (s : State) (u : Nat) (x : UnitSt) : (s.moveUnit u x).ldr = s.ldr :=
  (congrArg State.ldr (s.moveUnit_talks u x) :)
@[simp] theorem State.moveUnit_glz (s : State) (u : Nat) (x : UnitSt) : (s.moveUnit u x).glz = s.glz :=
  (congrArg State.glz (s.moveUnit_talks u x) :)
@[simp] theorem State.moveUnit_spc (s : State) (u : Nat) (x : UnitSt) : (s.moveUnit u x).spc = s.spc :=
  (congrArg State.spc (s.moveUnit_talks u x) :)
@[simp] theorem State.moveUnit_msp (s : State) (u : Nat) (x : UnitSt) : (s.moveUnit u x).msp = s.msp :=
  (congrArg State.msp (s.moveUnit_talks u x) :)
@[simp] theorem State.moveUnit_holdPcie (s : State) (u : Nat) (x : UnitSt) : (s.moveUnit u x).holdPcie = s.holdPcie :=
  (congrArg State.holdPcie (s.moveUnit_talks u x) :)
@[simp] theorem State.moveUnit_holdMsp (s : State) (u : Nat) (x : UnitSt) : (s.moveUnit u x).holdMsp = s.holdMsp :=
  (congrArg State.holdMsp (s.moveUnit_talks u x) :)

end Sys2Proof.Machine
end

