-- ==== Sys2Proof/Laws/Tables.lean ====
section
/-! SUPPORT. The sparse tables: what a write changes, and that every operation keeps the canonical form. -/

namespace Sys2Proof.Machine

variable {α β : Type}

/-! ## Reading after a write -/

theorem tabGet_tabPut (d : α) (t : Tab α) (k j : Nat) (v : α) :
    tabGet d (tabPut t k v) j = if j = k then v else tabGet d t j := by
  induction t with
  | nil => simp only [tabPut, tabGet]; split <;> split <;> simp_all
  | cons e t ih =>
    obtain ⟨i, w⟩ := e
    simp only [tabPut]
    split
    · simp only [tabGet]; grind
    · split
      · subst_vars; simp only [tabGet]; grind
      · simp only [tabGet, ih]; grind

theorem tabGet_tabDel (d : α) (t : Tab α) (k j : Nat) :
    tabGet d (tabDel t k) j = if j = k then d else tabGet d t j := by
  induction t with
  | nil => simp [tabDel, tabGet]
  | cons e t ih =>
    obtain ⟨i, w⟩ := e
    simp only [tabDel]
    split
    · rw [ih]; simp only [tabGet]; grind
    · simp only [tabGet, ih]; grind

/-- A write is read back, and every other index reads as before. -/
theorem tabGet_tabSet [DecidableEq α] (d : α) (t : Tab α) (k j : Nat) (v : α) :
    tabGet d (tabSet d t k v) j = if j = k then v else tabGet d t j := by
  unfold tabSet
  split
  · rename_i h; rw [tabGet_tabDel, h]
  · exact tabGet_tabPut d t k j v

@[simp] theorem tabGet_tabSet_same [DecidableEq α] (d : α) (t : Tab α) (k : Nat) (v : α) :
    tabGet d (tabSet d t k v) k = v := by simp [tabGet_tabSet]

theorem tabGet_tabSet_other [DecidableEq α] (d : α) (t : Tab α) {k j : Nat} (v : α) (h : j ≠ k) :
    tabGet d (tabSet d t k v) j = tabGet d t j := by simp [tabGet_tabSet, h]

/-! ## Membership -/

theorem mem_tabPut {t : Tab α} {k : Nat} {v : α} {e : Nat × α} (h : e ∈ tabPut t k v) : e = (k, v) ∨ e ∈ t := by
  induction t with
  | nil => simpa [tabPut] using h
  | cons a t ih =>
    obtain ⟨i, w⟩ := a
    simp only [tabPut] at h
    split at h
    · simp only [List.mem_cons] at h ⊢; grind
    · split at h
      · simp only [List.mem_cons] at h ⊢; grind
      · simp only [List.mem_cons] at h ⊢; grind

theorem mem_tabDel {t : Tab α} {k : Nat} {e : Nat × α} (h : e ∈ tabDel t k) : e ∈ t := by
  induction t with
  | nil => simp [tabDel] at h
  | cons a t ih =>
    obtain ⟨i, w⟩ := a
    simp only [tabDel] at h
    split at h
    · exact List.mem_cons_of_mem _ (ih h)
    · simp only [List.mem_cons] at h ⊢; grind

/-- What a written table lists was listed or has just been written. -/
theorem mem_tabSet [DecidableEq α] {d : α} {t : Tab α} {k : Nat} {v : α} {e : Nat × α} (h : e ∈ tabSet d t k v) :
    e = (k, v) ∨ e ∈ t := by
  unfold tabSet at h
  split at h
  · exact .inr (mem_tabDel h)
  · exact mem_tabPut h

/-! ## The canonical form -/

theorem tabWf_iff [DecidableEq α] (d : α) (t : Tab α) :
    tabWf d t = true ↔ (t.map Prod.fst).Pairwise (· < ·) ∧ ∀ e ∈ t, e.2 ≠ d := by
  induction t with
  | nil => simp [tabWf]
  | cons a t ih =>
    cases t with
    | nil => simp [tabWf]
    | cons b t =>
      simp only [tabWf, Bool.and_eq_true, decide_eq_true_eq, ih]
      simp only [List.map_cons, List.pairwise_cons, List.mem_cons, List.mem_map]
      constructor
      · rintro ⟨⟨h1, h2⟩, ⟨h3, h4⟩, h5⟩
        refine ⟨⟨?_, h3, h4⟩, ?_⟩
        · rintro x (rfl | ⟨e, he, rfl⟩)
          · exact h2
          · exact Nat.lt_trans h2 (h3 _ ⟨e, he, rfl⟩)
        · rintro e (rfl | he)
          · exact h1
          · exact h5 e he
      · rintro ⟨⟨h1, h2, h3⟩, h4⟩
        exact ⟨⟨h4 a (.inl rfl), h1 _ (.inl rfl)⟩, ⟨h2, h3⟩, fun e he => h4 e (.inr he)⟩

theorem tabPut_sorted {t : Tab α} {k : Nat} {v : α} (h : (t.map Prod.fst).Pairwise (· < ·)) :
    ((tabPut t k v).map Prod.fst).Pairwise (· < ·) := by
  induction t with
  | nil => simp [tabPut]
  | cons a t ih =>
    obtain ⟨i, w⟩ := a
    simp only [List.map_cons, List.pairwise_cons, List.mem_map] at h
    simp only [tabPut]
    split
    · rename_i hk
      simp only [List.map_cons, List.pairwise_cons, List.mem_cons, List.mem_map]
      exact ⟨by
        rintro x (rfl | ⟨e, he, rfl⟩)
        · exact hk
        · exact Nat.lt_trans hk (h.1 _ ⟨e, he, rfl⟩), ⟨h.1, h.2⟩⟩
    · split
      · rename_i hk; subst hk
        simp only [List.map_cons, List.pairwise_cons, List.mem_map]
        exact h
      · simp only [List.map_cons, List.pairwise_cons, List.mem_map]
        refine ⟨?_, ih h.2⟩
        rintro x ⟨e, he, rfl⟩
        rcases mem_tabPut he with rfl | he
        · simp only; omega
        · exact h.1 _ ⟨e, he, rfl⟩

theorem tabDel_sublist (t : Tab α) (k : Nat) : (tabDel t k).Sublist t := by
  induction t with
  | nil => simp [tabDel]
  | cons a t ih =>
    obtain ⟨i, w⟩ := a
    simp only [tabDel]
    split
    · exact .cons _ ih
    · exact .cons_cons _ ih

/-- Every write keeps the canonical form. -/
theorem tabSet_wf [DecidableEq α] {d : α} {t : Tab α} {k : Nat} {v : α} (h : tabWf d t = true) :
    tabWf d (tabSet d t k v) = true := by
  rw [tabWf_iff] at h ⊢
  unfold tabSet
  split
  · exact ⟨h.1.sublist ((tabDel_sublist t k).map _), fun e he => h.2 e (mem_tabDel he)⟩
  · rename_i hv
    refine ⟨tabPut_sorted h.1, fun e he => ?_⟩
    rcases mem_tabPut he with rfl | he
    · exact hv
    · exact h.2 e he

end Sys2Proof.Machine
end

