-- ==== Sys2Proof/Laws/Commands.lean ====
section
/-! SUPPORT. What the end of a command does (`settle`), what a command is in each of the three frames, and that a quiet
block does not react. -/

namespace Sys2Proof.Machine

/-! ## Reading a table of the state after a write -/

theorem State.queue_setQueue (s : State) (q j : Nat) (x : Queue) :
    (s.setQueue q x).queue j = if j = q then x else s.queue j := by
  unfold State.queue State.setQueue; exact tabGet_tabSet _ _ _ _ _

@[simp] theorem State.queue_setQueue_same (s : State) (q : Nat) (x : Queue) : (s.setQueue q x).queue q = x := by
  simp [queue_setQueue]

theorem State.port_setPort (s : State) (p j : Nat) (x : Port) :
    (s.setPort p x).port j = if j = p then x else s.port j := by
  unfold State.port State.setPort; exact tabGet_tabSet _ _ _ _ _

@[simp] theorem State.port_setPort_same (s : State) (p : Nat) (x : Port) : (s.setPort p x).port p = x := by
  simp [port_setPort]

theorem State.unit_setUnit (s : State) (u j : Nat) (x : UnitSt) :
    (s.setUnit u x).unit j = if j = u then x else s.unit j := by
  unfold State.unit State.setUnit; exact tabGet_tabSet _ _ _ _ _

@[simp] theorem State.unit_setUnit_same (s : State) (u : Nat) (x : UnitSt) : (s.setUnit u x).unit u = x := by
  simp [unit_setUnit]

/-! ## Due reads -/

/-- What issuing due reads leaves alone: everything but the outputs, which grow, and which reads are in flight. -/
structure Pumped (s t : State) : Prop where
  rest : { t with out := [], que := [] } = { s with out := [], que := [] }
  que : ∀ q, { t.queue q with reading := 0 } = { s.queue q with reading := 0 }
  out : ∃ l, t.out = s.out ++ l ∧ ∀ o ∈ l, o.due = true

theorem Pumped.refl (s : State) : Pumped s s := ⟨rfl, fun _ => rfl, [], by simp, by simp⟩

theorem Pumped.trans {s t u : State} (h : Pumped s t) (k : Pumped t u) : Pumped s u := by
  refine ⟨k.rest.trans h.rest, fun q => (k.que q).trans (h.que q), ?_⟩
  obtain ⟨l, hl, hd⟩ := h.out
  obtain ⟨m, hm, he⟩ := k.out
  exact ⟨l ++ m, by rw [hm, hl, List.append_assoc], fun o ho => (List.mem_append.1 ho).elim (hd o) (he o)⟩

theorem State.pumpQueue_pumped (s : State) (q : Nat) : Pumped s (s.pumpQueue q) := by
  unfold State.pumpQueue
  simp only
  split
  · refine ⟨rfl, fun j => ?_, _, rfl, by simp [Output.due]⟩
    show { ((s.setQueue q _).queue j) with reading := 0 } = _
    rw [queue_setQueue]
    split
    · rename_i h; subst h; rfl
    · rfl
  · exact .refl s

theorem State.pump_pumped (s : State) : Pumped s s.pump := by
  suffices h : ∀ (l : Tab Queue) (t : State), Pumped s t → Pumped s (l.foldl (fun s e => s.pumpQueue e.1) t) from
    h s.que s (.refl s)
  intro l
  induction l with
  | nil => exact fun t h => h
  | cons e l ih => exact fun t h => ih _ (h.trans (t.pumpQueue_pumped e.1))

/-! ## The end of a command -/

/-- What `settle` leaves alone, in one place. -/
structure Settled (old e t : State) : Prop where
  pending : t.pending = old.pending
  rest : { t with pending := [], out := [], que := [], fab := e.fab, links := e.links, sts := e.sts }
    = { e with pending := [], out := [], que := [] }
  que : ∀ q, { t.queue q with reading := 0 } = { e.queue q with reading := 0 }
  out : ∃ l, t.out = e.out ++ l ∧ ∀ o ∈ l, o.due = true
  fabric : { t.fab with enabled := 0, carrier := 0, enabledAt := [] } = { e.fab with enabled := 0, carrier := 0, enabledAt := [] }
  guards : if e.mode = .service ∧ e.vig.force = false ∧ e.life.retireWait = false then t.fab = e.fab
    else t.fab.enabled = 0 ∧ t.fab.carrier = 0 ∧ t.fab.enabledAt = []
  links : { t.links with pba := 0 } = { e.links with pba := 0 }
  pba : ∃ b, t.links.pba = setBit e.links.pba 1024 b ∨ t.links.pba = e.links.pba
  sts : { t.sts with devMsgs := 0 } = { e.sts with devMsgs := 0 }
  calm : e.irqStat = old.irqStat → t.links = e.links ∧ t.sts = e.sts

theorem State.safeGuards_rest (s : State) : { s.safeGuards with fab := s.fab } = s := by
  unfold State.safeGuards; split <;> rfl

theorem State.signal_cases (s : State) :
    (s.signal 1024 = { s with links := { s.links with pba := setBit s.links.pba 1024 true } }) ∨
      s.signal 1024 = { s with
        links := { s.links with pba := setBit s.links.pba 1024 false }
        out := s.out ++ [.msix 1024]
        sts := { s.sts with devMsgs := satInc s.sts.devMsgs } } := by
  unfold State.signal; split
  · exact .inl rfl
  · exact .inr rfl

theorem settle_settled (old e : State) : Settled old e (settle old e) := by
  have hp := e.safeGuards.pump_pumped
  obtain ⟨hr, hq, l, hl, hd⟩ := hp
  generalize hu : e.safeGuards.pump = u at hr hq hl
  have hfab : u.fab = e.safeGuards.fab := (congrArg State.fab hr :)
  have hlinks : u.links = e.links := (congrArg State.links hr :).trans (by unfold State.safeGuards; split <;> rfl)
  have hsts : u.sts = e.sts := (congrArg State.sts hr :).trans (by unfold State.safeGuards; split <;> rfl)
  have hirq : u.irqStat = e.irqStat := (congrArg State.irqStat hr :).trans (by unfold State.safeGuards; split <;> rfl)
  have hqe : ∀ q, e.safeGuards.queue q = e.queue q := by intro q; unfold State.safeGuards; split <;> rfl
  have hout : e.safeGuards.out = e.out := by unfold State.safeGuards; split <;> rfl
  have hrest : { u with pending := [], out := [], que := [], fab := e.fab, links := e.links, sts := e.sts }
      = { e with pending := [], out := [], que := [] } := by
    have h1 := congrArg (fun t : State => { t with pending := [], fab := e.fab, links := e.links, sts := e.sts }) hr
    refine h1.trans ?_
    unfold State.safeGuards; split <;> rfl
  have hfabric : { u.fab with enabled := 0, carrier := 0, enabledAt := [] } = { e.fab with enabled := 0, carrier := 0, enabledAt := [] } := by
    rw [hfab]; unfold State.safeGuards; split <;> rfl
  have hguards : if e.mode = .service ∧ e.vig.force = false ∧ e.life.retireWait = false then u.fab = e.fab
      else u.fab.enabled = 0 ∧ u.fab.carrier = 0 ∧ u.fab.enabledAt = [] := by
    rw [hfab]; unfold State.safeGuards; split <;> simp
  have base : ∀ v : State, v = settle old e →
      (v = { u with pending := old.pending } ∧ True ∨
        (e.irqStat ≠ old.irqStat ∧
          (v = { u with pending := old.pending, links := { u.links with pba := setBit u.links.pba 1024 true } } ∨
            v = { u with
              pending := old.pending
              links := { u.links with pba := setBit u.links.pba 1024 false }
              out := u.out ++ [.msix 1024]
              sts := { u.sts with devMsgs := satInc u.sts.devMsgs } }))) := by
    intro v hv
    unfold settle at hv
    rw [hu] at hv
    unfold State.deviceVector at hv
    split at hv
    · exact .inl ⟨hv, trivial⟩
    · rename_i hne
      refine .inr ⟨?_, ?_⟩
      · intro he
        apply hne
        rw [hirq, he]
        simp
      · rcases u.signal_cases with h | h
        · rw [h] at hv; exact .inl hv
        · rw [h] at hv; exact .inr hv
  have hout' : u.out = e.out ++ l := by rw [hl, hout]
  rcases base _ rfl with ⟨h, -⟩ | ⟨hne, h | h⟩
  · rw [h]
    exact ⟨rfl, hrest, fun q => (hq q).trans (by rw [hqe]), ⟨l, hout', hd⟩, hfabric, hguards, by rw [hlinks],
      ⟨true, .inr (by rw [hlinks])⟩, by rw [hsts], fun _ => ⟨hlinks, hsts⟩⟩
  · rw [h]
    exact ⟨rfl, hrest, fun q => (hq q).trans (by rw [hqe]), ⟨l, hout', hd⟩, hfabric, hguards, by rw [hlinks],
      ⟨true, .inl (by rw [hlinks])⟩, by rw [hsts], fun hc => absurd hc hne⟩
  · rw [h]
    exact ⟨rfl, hrest, fun q => (hq q).trans (by rw [hqe]), ⟨l ++ [.msix 1024], by show u.out ++ _ = _; rw [hout', List.append_assoc],
      fun o ho => (List.mem_append.1 ho).elim (hd o) (by simp only [List.mem_singleton]; rintro rfl; rfl)⟩,
      hfabric, hguards, by rw [hlinks], ⟨false, .inl (by rw [hlinks])⟩, by rw [hsts], fun hc => absurd hc hne⟩

/-! Fields that `settle` leaves as the command left them. -/

@[simp] theorem settle_pending (old e : State) : (settle old e).pending = old.pending := rfl

/-- A field that is neither the queue, the outputs, the queues, the fabric, the links nor the statistics. -/
theorem settle_proj {α : Type} (f : State → α) (old e : State)
    (h : ∀ (u : State) a b c d k m, f { u with pending := a, out := b, que := c, fab := d, links := k, sts := m } = f u) :
    f (settle old e) = f e := by
  have hr := (settle_settled old e).rest
  have h1 := h (settle old e) [] [] [] e.fab e.links e.sts
  have h2 := h e [] [] [] e.fab e.links e.sts
  rw [← h1, ← h2, hr]

@[simp] theorem settle_free (old e : State) : (settle old e).free = e.free := settle_proj State.free old e fun _ _ _ _ _ _ _ => rfl
@[simp] theorem settle_mode (old e : State) : (settle old e).mode = e.mode := settle_proj State.mode old e fun _ _ _ _ _ _ _ => rfl
@[simp] theorem settle_refclk (old e : State) : (settle old e).refclk = e.refclk := settle_proj State.refclk old e fun _ _ _ _ _ _ _ => rfl
@[simp] theorem settle_tick (old e : State) : (settle old e).tick = e.tick := settle_proj State.tick old e fun _ _ _ _ _ _ _ => rfl
@[simp] theorem settle_kept (old e : State) : (settle old e).kept = e.kept := settle_proj State.kept old e fun _ _ _ _ _ _ _ => rfl
@[simp] theorem settle_mod (old e : State) : (settle old e).mod = e.mod := settle_proj State.mod old e fun _ _ _ _ _ _ _ => rfl
@[simp] theorem settle_vig (old e : State) : (settle old e).vig = e.vig := settle_proj State.vig old e fun _ _ _ _ _ _ _ => rfl
@[simp] theorem settle_otp (old e : State) : (settle old e).otp = e.otp := settle_proj State.otp old e fun _ _ _ _ _ _ _ => rfl
@[simp] theorem settle_life (old e : State) : (settle old e).life = e.life := settle_proj State.life old e fun _ _ _ _ _ _ _ => rfl
@[simp] theorem settle_rcp (old e : State) : (settle old e).rcp = e.rcp := settle_proj State.rcp old e fun _ _ _ _ _ _ _ => rfl
@[simp] theorem settle_ports (old e : State) : (settle old e).ports = e.ports := settle_proj State.ports old e fun _ _ _ _ _ _ _ => rfl
@[simp] theorem settle_ent (old e : State) : (settle old e).ent = e.ent := settle_proj State.ent old e fun _ _ _ _ _ _ _ => rfl
@[simp] theorem settle_prf (old e : State) : (settle old e).prf = e.prf := settle_proj State.prf old e fun _ _ _ _ _ _ _ => rfl
@[simp] theorem settle_rngEmpty (old e : State) : (settle old e).rngEmpty = e.rngEmpty := settle_proj State.rngEmpty old e fun _ _ _ _ _ _ _ => rfl
@[simp] theorem settle_cnt (old e : State) : (settle old e).cnt = e.cnt := settle_proj State.cnt old e fun _ _ _ _ _ _ _ => rfl
@[simp] theorem settle_flash (old e : State) : (settle old e).flash = e.flash := settle_proj State.flash old e fun _ _ _ _ _ _ _ => rfl
@[simp] theorem settle_spw (old e : State) : (settle old e).spw = e.spw := settle_proj State.spw old e fun _ _ _ _ _ _ _ => rfl
@[simp] theorem settle_ldr (old e : State) : (settle old e).ldr = e.ldr := settle_proj State.ldr old e fun _ _ _ _ _ _ _ => rfl
@[simp] theorem settle_sch (old e : State) : (settle old e).sch = e.sch := settle_proj State.sch old e fun _ _ _ _ _ _ _ => rfl
@[simp] theorem settle_spc (old e : State) : (settle old e).spc = e.spc := settle_proj State.spc old e fun _ _ _ _ _ _ _ => rfl
@[simp] theorem settle_glz (old e : State) : (settle old e).glz = e.glz := settle_proj State.glz old e fun _ _ _ _ _ _ _ => rfl
@[simp] theorem settle_msp (old e : State) : (settle old e).msp = e.msp := settle_proj State.msp old e fun _ _ _ _ _ _ _ => rfl
@[simp] theorem settle_irqStat (old e : State) : (settle old e).irqStat = e.irqStat := settle_proj State.irqStat old e fun _ _ _ _ _ _ _ => rfl
@[simp] theorem settle_holdPcie (old e : State) : (settle old e).holdPcie = e.holdPcie := settle_proj State.holdPcie old e fun _ _ _ _ _ _ _ => rfl
@[simp] theorem settle_holdMsp (old e : State) : (settle old e).holdMsp = e.holdMsp := settle_proj State.holdMsp old e fun _ _ _ _ _ _ _ => rfl

/-- What a command has sent stays sent. -/
theorem mem_settle_out {old e : State} {o : Output} (h : o ∈ e.out) : o ∈ (settle old e).out := by
  obtain ⟨l, hl, -⟩ := (settle_settled old e).out
  rw [hl]; exact List.mem_append_left _ h

@[simp] theorem port_settle (old e : State) (p : Nat) : (settle old e).port p = e.port p := by
  unfold State.port; rw [settle_ports]

@[simp] theorem unit_settle (old e : State) (u : Nat) : (settle old e).unit u = e.unit u := by
  unfold State.unit; rw [settle_rcp]

/-! ## Frames -/

theorem KeepsBut.refl (ch : List Part) (s : State) : KeepsBut ch s s := by
  intro p _
  cases p <;> simp [Part.same]

theorem KeepsBut.trans {ch : List Part} {s t u : State} (h : KeepsBut ch s t) (k : KeepsBut ch t u) : KeepsBut ch s u := by
  intro p hp
  have a := h p hp
  have b := k p hp
  cases p with
  | guards =>
    simp only [Part.same] at *
    rcases b with ⟨b1, b2, b3⟩ | b
    · rw [b1, b2, b3]; exact a
    · exact .inr b
  | queues => exact fun q => (b q).trans (a q)
  | irq => exact ⟨b.1.trans a.1, b.2.1.trans a.2.1, b.2.2.trans a.2.2⟩
  | hold => exact ⟨b.1.trans a.1, b.2.trans a.2⟩
  | _ => exact Eq.trans b a

theorem KeepsBut.mono {ch ch' : List Part} {s t : State} (h : KeepsBut ch s t) (hs : ∀ p ∈ ch, p ∈ ch') : KeepsBut ch' s t :=
  fun p hp => h p fun hm => hp (hs p hm)

theorem KeepsBut.foldl {ch : List Part} {α : Type} (f : State → α → State) (hf : ∀ s a, KeepsBut ch s (f s a)) (l : List α)
    (s : State) : KeepsBut ch s (l.foldl f s) := by
  induction l generalizing s with
  | nil => exact .refl ch s
  | cons a l ih => exact (hf s a).trans (ih _)

theorem TalksOnly.keeps {s t : State} (h : TalksOnly s t) : KeepsBut talkParts s t := by
  unfold TalksOnly at h
  intro p hp
  cases p with
  | out | queues | sch | sts | irq | links => exact absurd (by decide) hp
  | free => exact (congrArg State.free h :)
  | mode => exact (congrArg State.mode h :)
  | refclk => exact (congrArg State.refclk h :)
  | tick => exact (congrArg State.tick h :)
  | kept => exact (congrArg State.kept h :)
  | mod => exact (congrArg State.mod h :)
  | vig => exact (congrArg State.vig h :)
  | otp => exact (congrArg State.otp h :)
  | life => exact (congrArg State.life h :)
  | rcp => exact (congrArg State.rcp h :)
  | ports => exact (congrArg State.ports h :)
  | ent => exact (congrArg State.ent h :)
  | prf => exact (congrArg State.prf h :)
  | rng => exact (congrArg State.rngEmpty h :)
  | cnt => exact (congrArg State.cnt h :)
  | flash => exact (congrArg State.flash h :)
  | spw => exact (congrArg State.spw h :)
  | ldr => exact (congrArg State.ldr h :)
  | spc => exact (congrArg State.spc h :)
  | glz => exact (congrArg State.glz h :)
  | msp => exact (congrArg State.msp h :)
  | hold => exact ⟨(congrArg State.holdPcie h :), (congrArg State.holdMsp h :)⟩
  | fabric =>
    have hf : t.fab = s.fab := (congrArg State.fab h :)
    simp only [Part.same, hf]
  | guards =>
    have hf : t.fab = s.fab := (congrArg State.fab h :)
    exact .inl (by rw [hf]; exact ⟨rfl, rfl, rfl⟩)

/-- A command that leaves a part alone before its end leaves it alone. -/
theorem keepsBut_settle {ch : List Part} {s e : State} (h : KeepsBut ch s e) : KeepsBut ch s (settle s e) := by
  have k := settle_settled s e
  intro p hp
  have hs := h p hp
  cases p with
  | out =>
    obtain ⟨l, hl, hd⟩ := k.out
    have : (l.filter fun o => !o.due) = [] := List.filter_eq_nil_iff.2 fun o ho => by simp [hd o ho]
    simp only [Part.same] at hs ⊢
    rw [hl, List.filter_append, this, List.append_nil, hs]
  | fabric => exact k.fabric.trans hs
  | guards =>
    have hg := k.guards
    simp only [Part.same] at hs ⊢
    split at hg
    · rw [hg]; exact hs
    · exact .inr hg
  | queues => exact fun q => (k.que q).trans (hs q)
  | links =>
    simp only [Part.same] at hs ⊢
    obtain ⟨b, hb⟩ := k.pba
    have hl := k.links
    have : ∀ x y : BitVec 1025, ∀ (l m : Links), { l with pba := (0 : BitVec 1025) } = { m with pba := 0 } → x = y →
        { l with pba := x } = { m with pba := y } := by
      intro x y l m h1 h2
      have := congrArg (fun l : Links => { l with pba := x }) h1
      subst h2; exact this
    refine (this _ _ _ _ hl ?_).trans hs
    have hset : ∀ (v : BitVec 1025) b, setBit (setBit v 1024 b) 1024 false = setBit v 1024 false := by
      intro v b
      cases b <;> simp only [setBit, Bool.false_eq_true, if_false, if_true] <;> ext i hi <;> simp <;> grind
    rcases hb with hb | hb
    · rw [hb, hset]
    · rw [hb]
  | irq =>
    obtain ⟨h1, h2, h3⟩ := hs
    obtain ⟨c1, c2⟩ := k.calm h1
    simp only [Part.same, settle_irqStat, c1, c2]
    exact ⟨h1, h2, h3⟩
  | sts => exact k.sts.trans hs
  | free | mode | refclk | tick | kept | mod | vig | otp | life | rcp | ports | ent | prf | rng | cnt | flash | spw
    | ldr | sch | spc | glz | msp | hold => simpa only [Part.same, settle_free, settle_mode, settle_refclk,
      settle_tick, settle_kept, settle_mod, settle_vig, settle_otp, settle_life, settle_rcp, settle_ports, settle_ent,
      settle_prf, settle_rngEmpty, settle_cnt, settle_flash, settle_spw, settle_ldr, settle_sch, settle_spc, settle_glz,
      settle_msp, settle_holdPcie, settle_holdMsp] using hs

/-! ## The three frames of a command -/

theorem always_next (s : State) (f : State → State) : always s f = .next (settle s (f s)) := rfl

/-- A command of the core acts while CORECLK runs. -/
theorem onClock_next {s : State} (f : State → State) (h : s.running = true) :
    onClock s f = .next (settle s (f s)) := by
  simp [onClock, always, h]

/-- A command of the core changes nothing while CORECLK does not run. -/
theorem onClock_stopped {s : State} (f : State → State) (h : s.running = false) :
    onClock s f = .next (settle s s) := by
  simp [onClock, always, h]

theorem reacting_next {s : State} (f : State → State) (h : s.running = true) :
    reacting s f = .next (settle s (f s).react) := onClock_next _ h

/-! ## A quiet block does not react -/

theorem State.mem_auths {s : State} {e : Nat × Nat × Auth} (h : e ∈ s.auths) :
    ∃ p ∈ s.ports, ∃ x ∈ p.2.pos, x.2.auth = some e.2.2 := by
  unfold State.auths at h
  obtain ⟨p, hp, h⟩ := List.mem_flatMap.1 h
  obtain ⟨x, hx, h⟩ := List.mem_filterMap.1 h
  refine ⟨p, hp, x, hx, ?_⟩
  cases ha : x.2.auth with
  | none => rw [ha] at h; simp at h
  | some a => rw [ha] at h; simp only [Option.some.injEq] at h; rw [← h]

theorem State.auth_quiet {s : State} (h : ∀ e ∈ s.ports, e.2.quiet = true) {e : Nat × Nat × Auth} (he : e ∈ s.auths) :
    e.2.2.quiet = true := by
  obtain ⟨p, hp, x, hx, ha⟩ := State.mem_auths he
  have k := h p hp
  unfold Port.quiet at k
  rw [Bool.and_eq_true] at k
  have := List.all_eq_true.1 k.2 x hx
  rw [ha] at this
  exact this

theorem State.ctxWaiters_quiet {s : State} (h : ∀ e ∈ s.ports, e.2.quiet = true) : s.ctxWaiters = [] := by
  unfold State.ctxWaiters
  rw [List.flatMap_eq_nil_iff]
  intro e he
  rw [List.map_eq_nil_iff, List.filter_eq_nil_iff]
  intro j hj
  have k := h e he
  unfold Port.quiet at k
  rw [Bool.and_eq_true] at k
  have := List.all_eq_true.1 k.1 j hj
  unfold Job.quiet at this
  simp_all

theorem State.commitPass_quiet {s : State} (ha : s.cnt.arrivals = []) (h : s.cnt.queue = [] ∨ s.cnt.busy.isSome = true) : s.commitPass = s := by
  have hs : ∀ n, State.serveCommits n s = (s, []) := by
    intro n
    cases n with
    | zero => rfl
    | succ n =>
      unfold State.serveCommits
      rcases h with h | h
      · rw [h]; cases s.cnt.busy <;> rfl
      · cases hb : s.cnt.busy with
        | none => rw [hb] at h; simp at h
        | some e => rfl
  simp [State.commitPass, State.orderArrivals, ha, State.kickCommits, hs]

/-- A quiet authentication that draws its key has drawn it. -/
theorem Auth.drawn_quiet {a : Auth} (h : a.quiet = true) : (a.stage == .keys && a.priv.isNone) = false := by
  unfold Auth.quiet at h
  cases hs : a.stage <;> cases hv : a.priv <;> simp [hs, hv] at h ⊢

/-- A quiet authentication at work on an engine has one. -/
theorem Auth.engaged_quiet {a : Auth} (h : a.quiet = true) :
    (a.unit.isNone && (a.stage == .verify || a.stage == .keys)) = false := by
  unfold Auth.quiet at h
  cases hs : a.stage <;> cases hu : a.unit <;> simp [hs, hu] at h ⊢

theorem Auth.wantsEngine_quiet {a : Auth} (h : a.quiet = true) : a.wantsEngine = false := by
  unfold Auth.quiet at h
  unfold Auth.wantsEngine
  cases hs : a.stage <;> cases hu : a.unit <;> simp [hs, hu] at h ⊢

/-- A quiet operation finds no idle engine. -/
theorem State.eccMay_quiet {s : State} {o : Op} (h : s.opQuiet o = true) : s.eccMay o = false := by
  unfold State.opQuiet at h
  cases hp : o.phase <;> simp only [hp] at h
  case ecc =>
    rw [Bool.and_eq_true, Bool.not_eq_true'] at h
    exact h.2
  all_goals simp [State.eccMay, hp]

theorem State.engineKick_quiet {s : State} (h : ∀ e ∈ s.ports, e.2.quiet = true)
    (ho : ∀ o ∈ s.sch.ops, s.opQuiet o = true) : s.engineKick = s := by
  have hq := fun e => State.auth_quiet h (e := e)
  have h1 : (s.auths.filter fun e => e.2.2.stage == .keys && e.2.2.priv.isNone) = [] := by
    rw [List.filter_eq_nil_iff]
    exact fun e he => Bool.eq_false_iff.1 (Auth.drawn_quiet (hq e he))
  have h2 : (s.auths.filter fun e => e.2.2.unit.isNone && (e.2.2.stage == .verify || e.2.2.stage == .keys)) = [] := by
    rw [List.filter_eq_nil_iff]
    exact fun e he => Bool.eq_false_iff.1 (Auth.engaged_quiet (hq e he))
  have h3 : ∀ f : Nat × Nat × Auth → Bool, (s.auths.filter fun e => e.2.2.wantsEngine && f e) = [] := by
    intro f
    rw [List.filter_eq_nil_iff]
    intro e he
    simp [Auth.wantsEngine_quiet (hq e he)]
  have h4 : s.sch.ops.filter s.eccMay = [] := by
    rw [List.filter_eq_nil_iff]
    exact fun o k => Bool.eq_false_iff.1 (State.eccMay_quiet (ho o k))
  have hk : s.assignEcc = s := by
    unfold State.assignEcc State.eccWaiting
    simp only [h3, h4, List.map_nil, List.append_nil, minBy]
  have h5 : ∀ l : List Op, (∀ o ∈ l, o ∈ s.sch.ops ∧ o.phase = .ecc) → l.foldl State.eccLost s = s := by
    intro l
    induction l with
    | nil => exact fun _ => rfl
    | cons o l ih =>
      intro k
      have ⟨m, e⟩ := k o (List.mem_cons_self ..)
      have q := ho o m
      unfold State.opQuiet at q
      simp only [e, Bool.and_eq_true] at q
      rw [List.foldl_cons, show s.eccLost o = s from by unfold State.eccLost; rw [if_pos q.1]]
      exact ih fun x hx => k x (List.mem_cons_of_mem _ hx)
  have hfix : ∀ l : List Nat, l.foldl (fun (s : State) _ => s.assignEcc) s = s := by
    intro l
    induction l with
    | nil => rfl
    | cons a l ih => rw [List.foldl_cons, hk]; exact ih
  unfold State.engineKick
  simp only [h1, List.foldl_nil, h2]
  rw [h5 _ fun o k => by simpa [List.mem_filter] using k]
  exact hfix _

theorem State.sweepOps_quiet {s : State} (h : ∀ o ∈ s.sch.ops, s.opQuiet o = true) : s.sweepOps = s := by
  have hs : ∀ o ∈ s.sch.ops, s.sweepOp o = s := by
    intro o ho
    have k := h o ho
    unfold State.opQuiet at k
    unfold State.sweepOp
    cases hp : o.phase <;> rw [hp] at k <;> simp only at k ⊢
    · rw [if_pos k]
    · rw [if_pos (by rw [Bool.or_eq_true]; exact .inl k)]
    · rw [if_pos k]
  have ho : ∀ c o, s.op c = some o → o ∈ s.sch.ops := fun c o h => List.mem_of_find?_eq_some h
  unfold State.sweepOps
  suffices hl : ∀ l : List Op, l.foldl (fun s o => match s.op o.ctx with | none => s | some o => s.sweepOp o) s = s from hl _
  intro l
  induction l with
  | nil => rfl
  | cons o l ih =>
    rw [List.foldl_cons]
    have : (match s.op o.ctx with | none => s | some o => s.sweepOp o) = s := by
      cases hc : s.op o.ctx with
      | none => rfl
      | some o' => exact hs o' (ho _ _ hc)
    rw [this]
    exact ih

theorem State.prepareAll_quiet {s : State} (h : ∀ e ∈ s.ports, e.2.quiet = true) : s.prepareAll = s := by
  unfold State.prepareAll
  suffices hl : ∀ (l : Tab Port) (t : State), (∀ e ∈ l, e.2.quiet = true) → l.foldl (fun s e =>
      (e.2.jobs.filter fun j => j.kind == jobBeat && !(match j.prep with | none => false | some b => b.whole)).foldl
        (fun s j => s.prepare e.1 j) s) t = t from hl s.ports s h
  intro l
  induction l with
  | nil => exact fun _ _ => rfl
  | cons e l ih =>
    intro t ht
    have k := ht e (List.mem_cons_self ..)
    unfold Port.quiet at k
    rw [Bool.and_eq_true] at k
    have hf : (e.2.jobs.filter fun j => j.kind == jobBeat && !(match j.prep with | none => false | some b => b.whole)) = [] := by
      rw [List.filter_eq_nil_iff]
      intro j hj
      have := List.all_eq_true.1 k.1 j hj
      unfold Job.quiet at this
      revert this
      cases j.prep <;> by_cases hk : j.kind = jobBeat <;> simp [hk]
    rw [List.foldl_cons, hf, List.foldl_nil]
    exact ih t fun e he => ht e (List.mem_cons_of_mem _ he)

/-- Nothing waits, so nothing moves. -/
theorem State.react_quiet {s : State} (h : s.quiet) : s.react = s := by
  obtain ⟨ho, ⟨ha, hc⟩, hp, hh, hg, hw, hl⟩ := h
  have h2 : s.glzAnswer = s := by
    unfold State.glzAnswer
    cases he : s.glz.hand with
    | none => rfl
    | some x => simp only; rw [if_pos (hh x he)]
  have h3 : s.glzAdvance = s := by
    unfold State.glzAdvance
    cases he : s.glz.commit with
    | none => rfl
    | some c => simp only; rw [if_pos (hg c he)]
  have h4 : s.serveStalled = s := by
    unfold State.serveStalled
    rw [hw]
    rfl
  have h5 : s.glzResume = s := by unfold State.glzResume; rw [hl]
  unfold State.react
  simp only [commitPass_quiet ha hc, engineKick_quiet hp ho, sweepOps_quiet ho, prepareAll_quiet hp, h2, h3, h4, h5,
    ctxWaiters_quiet hp]
  rfl

theorem reacting_quiet {s : State} (f : State → State) (h : s.running = true) (hq : (f s).quiet) :
    reacting s f = .next (settle s (f s)) := by
  rw [reacting_next f h, State.react_quiet hq]

/-- A port that is put at its place quiet leaves every port quiet. -/
theorem State.quiet_setPort {s : State} {p : Nat} {x : Port} (h : ∀ e ∈ s.ports, e.2.quiet = true)
    (hx : x.quiet = true) : ∀ e ∈ (s.setPort p x).ports, e.2.quiet = true := by
  intro e he
  rcases mem_tabSet he with rfl | he
  · exact hx
  · exact h e he

theorem State.port_quiet {s : State} (h : ∀ e ∈ s.ports, e.2.quiet = true) (p : Nat) : (s.port p).quiet = true := by
  unfold State.port
  generalize s.ports = t at h
  induction t with
  | nil => rfl
  | cons e t ih =>
    obtain ⟨i, x⟩ := e
    simp only [tabGet]
    split
    · exact h _ (List.mem_cons_self ..)
    · exact ih fun e he => h e (List.mem_cons_of_mem _ he)

/-! ## A command that runs: `f` is what it does before its end, `e` the state `f` leads to -/

theorem runs_always {c : Instr} {s : State} {ch : List Part} {post : State → Prop} (f : State → State)
    (hx : exec c s = always s f) (e : State) (he : f s = e)
    (hk : KeepsBut ch s e) (hp : post (settle s e)) : Runs c s ch post := by
  subst he; exact ⟨_, hx, keepsBut_settle hk, hp⟩

theorem runs_clock {c : Instr} {s : State} {ch : List Part} {post : State → Prop} (f : State → State)
    (hx : exec c s = onClock s f) (hr : s.running = true) (e : State) (he : f s = e)
    (hk : KeepsBut ch s e) (hp : post (settle s e)) : Runs c s ch post := by
  subst he; exact ⟨_, hx.trans (onClock_next _ hr), keepsBut_settle hk, hp⟩

theorem runs_react {c : Instr} {s : State} {ch : List Part} {post : State → Prop} (f : State → State)
    (hx : exec c s = reacting s f) (hr : s.running = true) (e : State) (he : f s = e) (hq : e.quiet)
    (hk : KeepsBut ch s e) (hp : post (settle s e)) : Runs c s ch post := by
  subst he; exact ⟨_, hx.trans (reacting_quiet _ hr hq), keepsBut_settle hk, hp⟩

/-- Outside SERVICE no guard is enabled at the end of a command. -/
theorem settle_off {old e : State} (h : e.mode ≠ .service) : (settle old e).fab.enabled = 0 := by
  have k := (settle_settled old e).guards
  simp only [h, false_and, if_false] at k
  exact k.1

end Sys2Proof.Machine
end

