-- ==== Sys2Proof/Laws/Dispatch.lean ====
section
/-! SUPPORT. How a descriptor takes its context, and what a completion leaves of its queue. -/

namespace Sys2Proof.Machine

/-- The queue that a context went to last. -/
def State.servedLast (s : State) (q : Nat) : State := { s with sch := { s.sch with lastServed := q } }

/-- One more descriptor of a queue has moved. -/
def State.countMoved (s : State) (q : Nat) : State := s.setQueue q { s.queue q with moved := (s.queue q).moved + 1 }

/-- An operation holds a context. -/
def State.withOp (s : State) (o : Op) : State := { s with sch := { s.sch with ops := s.sch.ops ++ [o] } }

/-- The state in which the operation of a descriptor begins. -/
def State.takeIn (s : State) (q : Nat) (h : Fetched) : State :=
  ((((s.popHead q).servedLast q).countMoved q).withOp (s.newOp q h)).peaks

set_option maxRecDepth 4000 in
theorem State.dispatch_takes {s : State} {q code : Nat} {h : Fetched} (k : s.Takes q code h) (f : Op → State → State) :
    s.dispatch q code f = (f (s.newOp q h) (s.takeIn q h)).rejectUnknown q := by
  obtain ⟨hh, ho, hw, hr, hp, -⟩ := k
  unfold State.dispatch
  cases hb : (s.queue q).buf with
  | nil => rw [hb] at hh; simp at hh
  | cons x l =>
    rw [hb] at hh
    simp only [List.head?_cons, Option.some.injEq] at hh
    subst hh
    have hc : ¬ (x.desc.opcode ≠ code ∨ (s.queueClass q ≠ 6 ∧ (s.winner ≠ some q ∨ 3584 ≤ s.hostUsed))) := by
      rw [ho, hw]; simp; omega
    simp only
    rw [if_neg hc, hp]
    rfl

/-- While fewer than 3,584 contexts are in use, the lowest free one is free. -/
theorem State.freeCtx_free {s : State} (h : s.hostUsed < 3584) : s.op s.freeCtx = none := by
  have hl : s.sch.ops.length < 3584 := by unfold State.hostUsed at h; omega
  unfold State.freeCtx
  cases hf : (List.range 3584).find? fun i => (s.op (512 + i)).isNone with
  | some i =>
    have := List.find?_some hf
    simpa using this
  | none =>
    exfalso
    rw [List.find?_eq_none] at hf
    have hsub : ∀ i < 3584, 512 + i ∈ s.sch.ops.map (·.ctx) := by
      intro i hr
      have hi := hf i (List.mem_range.2 hr)
      cases ho : s.op (512 + i) with
      | none => simp [ho] at hi
      | some o =>
        have hm := List.mem_of_find?_eq_some ho
        have hk := List.find?_some ho
        exact List.mem_map.2 ⟨o, hm, by simpa using hk⟩
    have pigeon : ∀ (n : Nat) (l : List Nat), (∀ i < n, 512 + i ∈ l) → n ≤ l.length := by
      intro n
      induction n with
      | zero => exact fun _ _ => Nat.zero_le _
      | succ n ih =>
        intro l hm
        have hn := hm n (by omega)
        have := ih (l.erase (512 + n)) fun i hi => (List.mem_erase_of_ne (by omega)).2 (hm i (by omega))
        rw [List.length_erase_of_mem hn] at this
        have := List.length_pos_of_mem hn
        omega
    have := pigeon 3584 _ hsub
    rw [List.length_map] at this
    omega

/-- With no unknown opcode in the buffer nothing is rejected. -/
theorem State.rejectUnknown_known {s : State} {q : Nat} (h : ∀ f ∈ (s.queue q).buf, opcodeClass f.desc.opcode ≠ none) :
    s.rejectUnknown q = s := by
  unfold State.rejectUnknown
  suffices hl : ∀ l : List Fetched, (∀ f ∈ l, opcodeClass f.desc.opcode ≠ none) → l.foldl (fun s f =>
      if (s.queue q).buf.head? = some f ∧ opcodeClass f.desc.opcode = none then
        (s.popHead q).complete q f.desc (if s.mode = .quarantine then .quarantined else .badDescriptor) [] none false
      else s) s = s from hl _ h
  intro l
  induction l with
  | nil => exact fun _ => rfl
  | cons f l ih =>
    intro hf
    rw [List.foldl_cons, if_neg (fun hc => hf f (List.mem_cons_self ..) hc.2)]
    exact ih fun g hg => hf g (List.mem_cons_of_mem _ hg)

theorem State.takeIn_buf (s : State) (q : Nat) (h : Fetched) : ((s.takeIn q h).queue q).buf = (s.queue q).buf.drop 1 := by
  show ((State.setQueue _ q _).queue q).buf = _
  rw [queue_setQueue_same]
  show ((State.setQueue _ q _).queue q).buf = _
  rw [queue_setQueue_same]

/-! ## Completions and buffers -/

theorem State.queueVector_buf (s : State) (q j : Nat) : ((s.queueVector q).queue j).buf = (s.queue j).buf := by
  have hs : ∀ (u : State) v, (u.signal v).que = u.que := by
    intro u v; unfold State.signal State.message; split
    · rfl
    · simp only; split <;> rfl
  have hv : ∀ x : Queue, x.buf = (s.queue q).buf → (((s.setQueue q x).signal q).queue j).buf = (s.queue j).buf := by
    intro x hx
    show (tabGet queueIdle (State.signal _ q).que j).buf = _
    rw [hs]
    show ((s.setQueue q x).queue j).buf = _
    rw [queue_setQueue]; split
    · rename_i h; subst h; exact hx
    · rfl
  have hc : ∀ (c : Bool) (a : State), (a.queue j).buf = (s.queue j).buf →
      ((if c = true then a else s).queue j).buf = (s.queue j).buf := by
    intro c a h; cases c <;> simp [h]
  exact hc _ _ (hv _ rfl)

theorem State.settleQueue_buf (s : State) (q j : Nat) : ((s.settleQueue q).queue j).buf = (s.queue j).buf := by
  unfold State.settleQueue
  simp only
  split
  · rw [queue_setQueue]; split
    · rename_i h; subst h; rfl
    · rfl
  · rfl

theorem State.writeEntry_buf (s : State) (q j : Nat) (d : Desc) (st : Status) (r : Bytes) (b : Option Bytes) :
    ((s.writeEntry q d st r b).queue j).buf = (s.queue j).buf := by
  unfold State.writeEntry
  simp only
  rw [settleQueue_buf, queueVector_buf]
  show ((State.setQueue _ q _).queue j).buf = _
  rw [queue_setQueue]
  split
  · rename_i h; subst h; rfl
  · cases b <;> rfl

theorem State.complete_buf (s : State) (q j : Nat) (d : Desc) (st : Status) (r : Bytes) (b : Option Bytes) (h : Bool) :
    ((s.complete q d st r b h).queue j).buf = (s.queue j).buf := by
  unfold State.complete
  split
  · exact s.writeEntry_buf ..
  · simp only; split <;> rfl

/-- A completion that may be written is sent, after its buffer. -/
theorem State.complete_sent {s : State} (hm : s.canMaster = true) (q : Nat) (d : Desc) (st : Status) (r : Bytes)
    (b : Option Bytes) (h : Bool) :
    s.entryOut q d st r ∈ (s.complete q d st r b h).out ∧ ∀ x, b = some x → .dmaWrite d.bufAddr x ∈ (s.complete q d st r b h).out := by
  have grow : ∀ (u : State) v o, o ∈ u.out → o ∈ (u.signal v).out := by
    intro u v o ho; unfold State.signal State.message; split
    · exact ho
    · simp only; split <;> simp [State.emit, ho]
  have grow2 : ∀ (u : State) q o, o ∈ u.out → o ∈ ((u.queueVector q).settleQueue q).out := by
    intro u q o ho
    have h1 : o ∈ (u.queueVector q).out := by
      have hc : ∀ (c : Bool) (a : State), o ∈ a.out → o ∈ (if c = true then a else u).out := by
        intro c a h; cases c <;> simp [h, ho]
      exact hc _ _ (grow _ _ _ ho)
    have h2 : ∀ v : State, o ∈ v.out → o ∈ (v.settleQueue q).out := by
      intro v hv; unfold State.settleQueue; simp only; split <;> exact hv
    exact h2 _ h1
  unfold State.complete
  rw [if_pos hm]
  unfold State.writeEntry
  simp only
  refine ⟨grow2 _ _ _ ?_, fun x hx => grow2 _ _ _ ?_⟩
  · cases b <;> simp [State.countStatus, State.setQueue, State.emit, State.entryOut, State.queue]
  · subst hx; simp [State.countStatus, State.setQueue, State.emit]

end Sys2Proof.Machine
end

