-- ==== Sys2Proof/Laws/Quiet.lean ====
section
/-! SUPPORT. A Proofer with nothing to do does nothing. -/

namespace Sys2Proof.Machine

theorem Prf.quiet_cases {int : Nat} {x : Prf} (h : x.quiet int = true) :
    x.due = false ∧ (x.state = 0 ∨ (x.state = 1 ∧ x.since < int)) := by
  unfold Prf.quiet at h
  simpa using h

theorem mem_sortBy {α : Type} {key : α → Nat} {l : List α} {a : α} (h : a ∈ sortBy key l) : a ∈ l := by
  have ins : ∀ (l : List α) (b : α), a ∈ insertBy key b l → a = b ∨ a ∈ l := by
    intro l b
    induction l with
    | nil => simp [insertBy]
    | cons c l ih => simp only [insertBy]; split <;> simp only [List.mem_cons] <;> grind
  have : ∀ (l r : List α), a ∈ l.foldl (fun r a => insertBy key a r) r → a ∈ r ∨ a ∈ l := by
    intro l
    induction l with
    | nil => intro r h; exact .inl h
    | cons c l ih =>
      intro r h
      rcases ih _ h with h | h
      · rcases ins _ _ h with h | h <;> simp [h]
      · simp [h]
  rcases this l [] h with h | h
  · simp at h
  · exact h

theorem State.gathering_quiet {s : State} (h : ∀ o ∈ s.sch.ops, o.phase ≠ .gather) : s.gathering = [] := by
  unfold State.gathering
  rw [List.map_eq_nil_iff, List.eq_nil_iff_forall_not_mem]
  intro o ho
  have := mem_sortBy ho
  rw [List.mem_filter] at this
  exact h o this.1 (by simpa using this.2)

theorem State.reseedDue_quiet {s : State} (h : ∀ i < 4, (s.inst i).quiet s.reseedInt = true) {i : Nat} (hi : i < 4) :
    s.reseedDue i = false := by
  unfold State.reseedDue
  rcases (Prf.quiet_cases (h i hi)).2 with h | ⟨h, k⟩ <;> simp [h]
  omega

theorem foldl_range4 {f : State → Nat → State} {s : State} (h : ∀ i < 4, f s i = s) : (List.range 4).foldl f s = s := by
  have : List.range 4 = [0, 1, 2, 3] := rfl
  rw [this]
  simp [h 0 (by omega), h 1 (by omega), h 2 (by omega), h 3 (by omega)]

theorem State.prfReact_quiet {s : State} (h : s.prfQuiet) : s.prfReact = s := by
  obtain ⟨ho, hi, hr, j, hj, hn⟩ := h
  have hg := State.gathering_quiet ho
  have hd : ∀ i < 4, s.reseedDue i = false := fun i => State.reseedDue_quiet hi
  have h1 : s.instantiateDue = s := by
    unfold State.instantiateDue
    split
    · exact foldl_range4 fun i h => by simp [(Prf.quiet_cases (hi i h)).1]
    · rfl
  have h2 : s.reseedOne = s := by
    have hne : s.neediest = none := by
      unfold State.neediest
      have : (List.range 4).filter s.reseedDue = [] := by
        rw [List.filter_eq_nil_iff]; intro i h; simp [hd i (List.mem_range.1 h)]
      rw [this]; rfl
    unfold State.reseedOne
    rw [hne]
  have h3 : s.speculateOne = s := by
    have : (List.range 4).filter (fun i => s.reseedDue i && (s.inst i).shadow.isNone) = [] := by
      rw [List.filter_eq_nil_iff]; intro i h; simp [hd i (List.mem_range.1 h)]
    unfold State.speculateOne
    simp only [this, minBy]
  have hset : ∀ i < 4, s.setInst i (s.inst i) = s := by
    intro i h
    have : s.prf.setIfInBounds i s.prf[i] = s.prf := by
      apply Vector.ext
      intro k hk
      by_cases he : i = k <;> simp [he]
    unfold State.setInst State.inst vecSet vecGet
    simp [h, this]
  have h4 : (List.range 4).foldl State.prfLevel s = s := by
    refine foldl_range4 fun i h => ?_
    unfold State.prfLevel
    rcases (Prf.quiet_cases (hi i h)).2 with k | ⟨k, l⟩
    · simp [k]
    · have a : ¬ stopCount ≤ (s.inst i).since := by omega
      have b : ¬ s.reseedInt ≤ (s.inst i).since := by omega
      simp only [k, a, b]
      simp only [if_false, Nat.one_ne_zero]
      have : ({ s.inst i with state := 1 } : Prf) = s.inst i := by rw [← k]
      rw [this, hset i h]
      simp
  have h5 : s.exhaustCheck = s := by
    have : s.exhausted = false := by
      unfold State.exhausted
      have : ((List.range 4).all fun i => s.unitIs (prfUnit i) .off || (s.inst i).state == 3) = false := by
        rw [List.all_eq_false]
        refine ⟨j, by simp [hj], ?_⟩
        rcases (Prf.quiet_cases (hi j hj)).2 with k | ⟨k, -⟩ <;> simp [hn, k]
      simp [this]
    simp [State.exhaustCheck, this]
  unfold State.prfReact State.gatherAll
  simp only [hg, List.foldl_nil, h1, h2, h3, h4, h5]

end Sys2Proof.Machine
end

