-- ==== Sys2Proof/Laws/Tear.lean ====
section
/-! SUPPORT. An interrupted flash or fuse operation changes OTP, the flashes and the free values only. -/

namespace Sys2Proof.Machine

/-- Nothing but OTP, the flashes and the free values differs. -/
def TornFrom (s t : State) : Prop := { t with free := s.free, otp := s.otp, flash := s.flash } = s

theorem TornFrom.refl (s : State) : TornFrom s s := rfl

theorem TornFrom.trans {s t u : State} (h : TornFrom s t) (k : TornFrom t u) : TornFrom s u := by
  unfold TornFrom at *
  have := congrArg (fun t : State => { t with free := s.free, otp := s.otp, flash := s.flash }) k
  exact this.trans h

theorem TornFrom.foldl {α : Type} (f : State → α → State) (hf : ∀ s a, TornFrom s (f s a)) (l : List α) (s : State) :
    TornFrom s (l.foldl f s) := by
  induction l generalizing s with
  | nil => exact .refl s
  | cons a l ih => exact (hf s a).trans (ih _)

theorem State.setSlotBytes_torn (s : State) (k : Nat) (bs : Bytes) : TornFrom s (s.setSlotBytes k bs) := by
  unfold State.setSlotBytes; split <;> rfl

theorem State.spoilSlot_torn (s : State) (k off n : Nat) : TornFrom s (s.spoilSlot k off n) :=
  TornFrom.trans (t := (freeBytes n s).2) rfl (State.setSlotBytes_torn _ _ _)

theorem State.tearRcp_torn (s : State) : TornFrom s s.tearRcp := by
  unfold State.tearRcp
  split <;> first | rfl | exact s.spoilSlot_torn ..

theorem State.tearBlow_torn (s : State) : TornFrom s s.tearBlow := by
  unfold State.tearBlow; split <;> rfl

theorem State.tearSnapWrite_torn (s : State) : TornFrom s s.tearSnapWrite := by
  unfold State.tearSnapWrite; split <;> rfl

theorem State.tearRingSlot_torn (s : State) (i : Nat) (n : Option RingSlot) : TornFrom s (s.tearRingSlot i n) := rfl

theorem State.tearProgram_torn (l : List Entry) (s : State) (i : Nat) : TornFrom s (s.tearProgram i l) := by
  induction l generalizing s i with
  | nil => rfl
  | cons e l ih => exact (s.tearRingSlot_torn i _).trans (ih _ _)

theorem State.tearDrain_torn (s : State) : TornFrom s s.tearDrain := by
  unfold State.tearDrain; split <;> first | rfl | exact State.tearProgram_torn ..

theorem State.tearCkpt_torn (s : State) (n : Option Checkpoint) (k : Checkpoint) : TornFrom s (s.tearCkpt n k) := by
  unfold State.tearCkpt State.setCkpt; split <;> rfl

theorem State.tearCompaction_torn (s : State) : TornFrom s s.tearCompaction := by
  unfold State.tearCompaction
  split
  · rfl
  · rfl
  · exact s.tearCkpt_torn _ _
  · rfl
  · rfl
  · have h := TornFrom.foldl (fun (s : State) (e : Nat × RingSlot) => s.tearRingSlot e.1 none)
      (fun s e => s.tearRingSlot_torn e.1 none)
      (s.flash.ring.filter fun e => blockOld s.flash.ring s.cnt.ckptSeq (e.1 / 2048)) s
    simp only
    split
    · exact h
    · exact h.trans (State.tearCkpt_torn _ _ _)

theorem State.tearRound_torn (s : State) : TornFrom s s.tearRound := by
  unfold State.tearRound
  split
  · rfl
  · unfold State.tearHeader State.setHeader
    simp only
    split <;> rfl

theorem State.tear_torn (s : State) : TornFrom s s.tear :=
  s.tearBlow_torn.trans (State.tearRcp_torn _) |>.trans (State.tearDrain_torn _) |>.trans (State.tearCompaction_torn _)
    |>.trans (State.tearRound_torn _) |>.trans (State.tearSnapWrite_torn _)

@[simp] theorem State.tear_pending (s : State) : s.tear.pending = s.pending := (congrArg State.pending s.tear_torn :)
@[simp] theorem State.tear_out (s : State) : s.tear.out = s.out := (congrArg State.out s.tear_torn :)
@[simp] theorem State.tear_mode (s : State) : s.tear.mode = s.mode := (congrArg State.mode s.tear_torn :)
@[simp] theorem State.tear_refclk (s : State) : s.tear.refclk = s.refclk := (congrArg State.refclk s.tear_torn :)
@[simp] theorem State.tear_tick (s : State) : s.tear.tick = s.tick := (congrArg State.tick s.tear_torn :)
@[simp] theorem State.tear_kept (s : State) : s.tear.kept = s.kept := (congrArg State.kept s.tear_torn :)
@[simp] theorem State.tear_mod (s : State) : s.tear.mod = s.mod := (congrArg State.mod s.tear_torn :)
@[simp] theorem State.tear_vig (s : State) : s.tear.vig = s.vig := (congrArg State.vig s.tear_torn :)
@[simp] theorem State.tear_life (s : State) : s.tear.life = s.life := (congrArg State.life s.tear_torn :)
@[simp] theorem State.tear_rcp (s : State) : s.tear.rcp = s.rcp := (congrArg State.rcp s.tear_torn :)
@[simp] theorem State.tear_fab (s : State) : s.tear.fab = s.fab := (congrArg State.fab s.tear_torn :)
@[simp] theorem State.tear_ports (s : State) : s.tear.ports = s.ports := (congrArg State.ports s.tear_torn :)
@[simp] theorem State.tear_ent (s : State) : s.tear.ent = s.ent := (congrArg State.ent s.tear_torn :)
@[simp] theorem State.tear_prf (s : State) : s.tear.prf = s.prf := (congrArg State.prf s.tear_torn :)
@[simp] theorem State.tear_rngEmpty (s : State) : s.tear.rngEmpty = s.rngEmpty := (congrArg State.rngEmpty s.tear_torn :)
@[simp] theorem State.tear_cnt (s : State) : s.tear.cnt = s.cnt := (congrArg State.cnt s.tear_torn :)
@[simp] theorem State.tear_spw (s : State) : s.tear.spw = s.spw := (congrArg State.spw s.tear_torn :)
@[simp] theorem State.tear_ldr (s : State) : s.tear.ldr = s.ldr := (congrArg State.ldr s.tear_torn :)
@[simp] theorem State.tear_que (s : State) : s.tear.que = s.que := (congrArg State.que s.tear_torn :)
@[simp] theorem State.tear_sch (s : State) : s.tear.sch = s.sch := (congrArg State.sch s.tear_torn :)
@[simp] theorem State.tear_spc (s : State) : s.tear.spc = s.spc := (congrArg State.spc s.tear_torn :)
@[simp] theorem State.tear_glz (s : State) : s.tear.glz = s.glz := (congrArg State.glz s.tear_torn :)
@[simp] theorem State.tear_links (s : State) : s.tear.links = s.links := (congrArg State.links s.tear_torn :)
@[simp] theorem State.tear_msp (s : State) : s.tear.msp = s.msp := (congrArg State.msp s.tear_torn :)
@[simp] theorem State.tear_sts (s : State) : s.tear.sts = s.sts := (congrArg State.sts s.tear_torn :)
@[simp] theorem State.tear_irqStat (s : State) : s.tear.irqStat = s.irqStat := (congrArg State.irqStat s.tear_torn :)
@[simp] theorem State.tear_holdPcie (s : State) : s.tear.holdPcie = s.holdPcie := (congrArg State.holdPcie s.tear_torn :)
@[simp] theorem State.tear_holdMsp (s : State) : s.tear.holdMsp = s.holdMsp := (congrArg State.holdMsp s.tear_torn :)

/-- With no operation under way nothing is torn. -/
theorem State.tear_still {s : State} (h : s.still) : s.tear = s := by
  obtain ⟨h1, h2, h3, h4, h5, h6⟩ := h
  have a : s.tearBlow = s := by simp [State.tearBlow, h1]
  have b : s.tearRcp = s := by simp [State.tearRcp, h2]
  have c : s.tearDrain = s := by simp [State.tearDrain, h3]
  have d : s.tearCompaction = s := by simp [State.tearCompaction, h4]
  have e : s.tearRound = s := by simp [State.tearRound, h5]
  have f : s.tearSnapWrite = s := by simp [State.tearSnapWrite, h6]
  simp [State.tear, a, b, c, d, e, f]

end Sys2Proof.Machine
end

