-- ==== Sys2Proof/WellFormed.lean ====
section
/-! DEFINITION. Which terms of Instr are commands that can reach the block: operands in the ranges that the spec gives the
thing they name. The meanings are total and do not rest on it. -/

namespace Sys2Proof

/-- BAR0 has 4 MiB (R478). -/
def bar0Size : Nat := 2 ^ 22

/-- A BAR0 offset that R480 accepts: aligned to the access. -/
def offOk (off : Nat) (wide : Bool) : Bool := decide (off < bar0Size) && off % (if wide then 8 else 4) == 0

/-- A queue number (R358). -/
def queueOk (q : Nat) : Bool := decide (q < 1024)

/-- A Plait port number (R174). -/
def portOk (p : Nat) : Bool := decide (p < 128)

/-- A position (R174). -/
def posOk (i : Nat) : Bool := decide (1 ≤ i) && decide (i ≤ 32)

/-- A unit number (R114). -/
def unitOk (u : Nat) : Bool := decide (u < 180)

/-- A doorbell is 4 or 8 bytes wide, or a width that R482 drops. -/
def widthOk (w : Nat) : Bool := decide (1 ≤ w) && decide (w ≤ 256)

/-- A BAR4 access lies in the window (R353). -/
def windowOk (off len : Nat) : Bool := decide (1 ≤ len) && decide (off + len ≤ 2 ^ 28)

/-- An in-buffer of a length the opcode fixes (R368). -/
def bufOk (n : Nat) (b : Option Bytes) : Bool := match b with | none => true | some d => n ≤ d.length

/-- An in-buffer of a length that the opcode bounds. -/
def bufMax (n : Nat) (b : Option Bytes) : Bool := match b with | none => true | some d => d.length ≤ n

/-- A lifecycle request's source: its queue, and 184 octets of request. -/
def sourceOk (s : LcSource) : Bool :=
  match s with
  | .mailbox => true
  | .queue q b => queueOk q && bufOk 184 b

/-- A check of R127 whose read fails is one of the ten. -/
def verdictOk (v : SlotVerdict) : Bool :=
  match v.readErrAt with
  | none => true
  | some k => decide (1 ≤ k) && decide (k ≤ 10)

/-- A flash size that SFDP can report. -/
def sfdpRange (x : Sfdp) : Bool := decide (x.log2 < 32)

/-- Descriptors of 64 octets. -/
def answerOk (a : ReadAnswer) : Bool :=
  match a with
  | .error => true
  | .descriptors ds => ds.all fun d => d.length == 64

/-- Ring frequencies in the widths of ENT_B_FREQ (R268). -/
def ringsOk (fast slow : Nat) : Bool := decide (fast < 2048) && decide (slow < 8192)

/-- The operands of a command lie in their ranges. -/
def Instr.wellFormed (i : Instr) : Bool :=
  match i with
  | .registerWrite _r off _lo hi => offOk off hi.isSome
  | .rcFieldRead _r off wide => offOk off wide
  | .wideValueLowRead _r off wide => offOk off wide
  | .modQuarCauseRead _ => true
  | .fabCellOut0Read _ => true
  | .cntCountLoRead _ => true
  | .entEstSeqRead _ _ => true
  | .stsCtxFullRead _ => true
  | .rngDataRead _ => true
  | .holeAccess _r off _w => offOk off false
  | .bar0BadWidth off _w => decide (off < bar0Size)
  | .glbIrqEnWrite _ _ => true
  | .vigilWindowReached _ => true
  | .vigilSupplySwitch _ => true
  | .totalPowerLoss => true
  | .coldStart => true
  | .stageStep1 _ _ => true
  | .stageStep2 => true
  | .stageStep3 _ _ _ => true
  | .stageStep4 b r va vb => sfdpRange b && sfdpRange r && verdictOk va && verdictOk vb
  | .stageStep5 _ => true
  | .stageStep6 => true
  | .stageStep7 => true
  | .stageStep8 => true
  | .stageStep9 _ _ _ _ _ => true
  | .stageStep10 _ _ => true
  | .enterService => true
  | .modGo _ => true
  | .modRestart _ _ => true
  | .modSnap _ => true
  | .modQuarantine _ _ => true
  | .perstAssert _ _ => true
  | .perstRelease => true
  | .warmPreludeDone => true
  | .snapshotIdleTimer => true
  | .snapshotWriteDone _ => true
  | .mainSupplyLoss => true
  | .coreVoltageExcursion _ => true
  | .coreclkLoss => true
  | .refclkLoss => true
  | .vbatLowDetect => true
  | .tamperLatch _ _ _ => true
  | .zeroizeDone => true
  | .identify q buf => queueOk q && bufOk 32 buf
  | .mboxIdentify => true
  | .lifecycleOwn src _v => sourceOk src
  | .lifecycleAddKey src _v => sourceOk src
  | .lifecycleRevokeKey src _v => sourceOk src
  | .lifecycleDeploy src _v => sourceOk src
  | .lifecycleRetire src _v => sourceOk src
  | .rcpOpen _ _ => true
  | .rcpAppend _r len => decide (len < 8192)
  | .rcpClose _ => true
  | .rcpVerify _ _ => true
  | .rcpActivate _ => true
  | .rcpCommitFloor _ => true
  | .rcpFlashDone _ => true
  | .rcpVerifyDone v => verdictOk v
  | .unitRestart _r u => decide (u < 256)
  | .unitOff _r u => decide (u < 256)
  | .unitOn _r u => decide (u < 256)
  | .drainLimitExpire u => unitOk u
  | .unitQuiesced u _n => unitOk u
  | .unitRejoin u _t => unitOk u
  | .fabricTick => true
  | .fabricStall => true
  | .guardCarrierStart g => decide (g < 256)
  | .guardReadbackFault g => decide (g < 256)
  | .grdFaultClear m _v => decide (m < 8)
  | .grdPermitWrite m _p _q => decide (m < 8)
  | .plaitReset p => portOk p
  | .presenceWindowClose p _u _l => portOk p
  | .extensionWindowPresence p _u => portOk p
  | .extensionWindowExpire p => portOk p
  | .plaitProbe p => portOk p
  | .pltReenum _r p => portOk p
  | .pltProbe _r p => portOk p
  | .unsolicitedPresence p _w => portOk p
  | .answerTimeout l => portOk l.port && l.erasures == 0
  | .spuPlaceGrant p => portOk p
  | .spuHoldEnd p => portOk p
  | .spuShort p => portOk p
  | .lineLow l => portOk l.port
  | .lineHigh p => portOk p
  | .faultRecoveryCheck p => portOk p
  | .faultReleaseWindowEnd p _h => portOk p
  | .plaitAssign p => portOk p
  | .plaitPing p => portOk p
  | .plaitTrim p => portOk p
  | .plaitCollect p => portOk p
  | .plaitReadCert p => portOk p
  | .plaitReadMem p => portOk p
  | .plaitKeyAgree p => portOk p
  | .plaitChallenge p => portOk p
  | .plaitConsume p => portOk p
  | .plaitCatchup p => portOk p
  | .plaitWriteMem p => portOk p
  | .plaitFinish p => portOk p
  | .tagAnswerReceived p f => portOk p && decide (f.bits.length ≤ 512)
  | .acquisitionEnd codes => codes.length == 64 && codes.all fun c => decide (c < 64)
  | .startupTestEnd _ => true
  | .ringFreqCheck fast slow => ringsOk fast slow
  | .repetitionEvent _c latch _s _r => decide (latch < 64)
  | .proportionEvent _c latch _s n => decide (latch < 64) && decide (n ≤ 1024)
  | .aptWindowClose ch l => (ch == .b || l.length == 64) && l.all fun n => decide (n ≤ 1024)
  | .churnBlockFormed _ _ => true
  | .entRetestA w => w.pcie || w.msp
  | .entRetestB w => w.pcie || w.msp
  | .estimateWindowEnd _c bits ones pairs agree fast slow =>
    decide (ones ≤ bits) && decide (agree ≤ pairs) && decide (bits ≤ 64 * 65536) && ringsOk fast slow
  | .prooferGenerate i => decide (i < 4)
  | .drainProgramStart => true
  | .drainReadbackDone l => decide (l.length ≤ 64)
  | .drainPauseEnd => true
  | .compactionStart => true
  | .checkpointProgramDone _ => true
  | .ratchetFuseBlown => true
  | .compactionEraseDone => true
  | .spwConversion v => decide (v ≤ 1200000000)
  | .earlyWarningFall => true
  | .transientEnd c => decide (c < 8)
  | .rippleWindowEnd c => decide (c < 8)
  | .missingCrossingClose c => decide (c < 8)
  | .pageFaultComplete page _c => decide (page < 32768)
  | .writebackRoundStart => true
  | .writebackRoundReadback _ => true
  | .roundHoldoffEnd => true
  | .lockHoldExpire => true
  | .windowRead off len _c => windowOk off len
  | .windowWrite off d _c => windowOk off d.length
  | .ldrFlush _ => true
  | .ddrScrub _ _ _ => true
  | .ddrZqCalibration => true
  | .queueEnable q => queueOk q
  | .queueDisable q => queueOk q
  | .sqTailDoorbell q _v w => (queueOk q || (decide (2048 ≤ q) && decide (q < 8192))) && widthOk w
  | .cqHeadDoorbell q _v w => queueOk q && widthOk w
  | .descriptorReadComplete q ans _r => queueOk q && answerOk ans
  | .verify q => queueOk q
  | .consume q => queueOk q
  | .increment q => queueOk q
  | .random q => queueOk q
  | .tagRead q => queueOk q
  | .tagWrite q => queueOk q
  | .anchorAck q buf _s => queueOk q && bufMax 4096 buf
  | .limitSet q => queueOk q
  | .recordRead q => queueOk q
  | .recordWrite q buf => queueOk q && bufMax 128 buf
  | .recordFree q => queueOk q
  | .issuerSet q buf _s _p => queueOk q && bufOk 224 buf
  | .eventBuf q => queueOk q
  | .irqCoalesceTimeout q => queueOk q
  | .schedulerEpoch => true
  | .engineSelftest u _p => unitOk u && decide (128 ≤ u)
  | .beatPrepareStart p pos k => portOk p && posOk pos && (match k.lane with | none => true | some l => decide (l < 32))
  | .classWarm c => decide (1 ≤ c) && decide (c < 256)
  | .glzHello body _s _p => decide (body.length ≤ 1024)
  | .glzProve sig _r => sig.length == 64
  | .glzProveTimeout => true
  | .glzRead _f off len _c => decide (off < 2 ^ 32) && decide (len < 65536)
  | .glzAttest _ _ => true
  | .glzCertRead _f n => decide (n < 256)
  | .glzStageToken _f t _s _c => t.length == 192
  | .glzStageLabel _f n l _c => decide (n < 2 ^ 32) && l.length == 32
  | .glzCommit _ => true
  | .glzDiscard _ => true
  | .glzClose _ => true
  | .glzSessionFrameDrop _ _ => true
  | .glzFrameDiscard _ _ => true
  | .glzAmplitudeAbort => true
  | .glzHushEnd => true
  | .glzBlindRise _a => true
  | .glzBlindFall _a => true
  | .glzSessionIdleTimeout => true
  | .glzCtrlClose _ => true
  | .pcieLinkUp sp wd _r => decide (1 ≤ sp) && decide (sp ≤ 4) && (wd == 1 || wd == 2 || wd == 4 || wd == 8)
  | .pcieHotReset => true
  | .bmeD3Change _ _ => true
  | .msixUnmask v => match v with | none => true | some n => decide (n ≤ 1024)
  | .mspRead m _e => decide (m.length ≤ 67)
  | .mspWrite m _e => decide (m.length ≤ 67)
  | .tapInstructionLoad _ => true
  | .engineOperationComplete u _r => unitOk u && decide (128 ≤ u)
  | .commitEntryValid => true
  | .lifecycleBlowDone => true
  | .glzTransmissionEnd => true
  | .glzHelloEntropyTimeout => true
  | .retestBudgetExpire _ => true
  | .vbatLowClear => true
  | .vbatPresentChange _ => true

end Sys2Proof
end

