-- ==== Sys2Proof/Tests/Slice0.lean ====
section
/-! SUPPORT. Tests: an ill-formed term for each check of WellFormed, and for each statement a state and operands that meet
the hypotheses of each of its clauses. -/

set_option maxRecDepth 8000

namespace Sys2Proof.Machine

/-- A ring of 16 entries, its queue RUNNING. -/
def testRing : Queue :=
  { queueIdle with enable := true, state := 1, log2 := 4, winLimit := 0xFFFFFFFF, phase := true, bq := 8, fetch := 1, tail := 1 }

/-- The state with a descriptor alone in the buffer of queue 0. -/
def State.holding (s : State) (d : Desc) : State := s.setQueue 0 { testRing with buf := [⟨d, 90⟩] }

def State.withTag (s : State) (x : Pos) : State := s.setPos 0 1 x

def State.withRecord (s : State) (n : Nat) (r : Record) : State :=
  { s with ldr := { s.ldr with records := [(n, r)], index := [(r.tagId, n)] } }

/-- Counters: record 3 at 2 of 10, the device-global counter 0 at 5 of 9. -/
def State.counting (s : State) : State := { s with cnt := { s.cnt with cache := [(3, (2, 10))], gcache := [(0, (5, 9))] } }

end Sys2Proof.Machine

namespace Sys2Proof.Tests

set_option Elab.async false

open Sys2Proof Sys2Proof.Machine

/-! ## States -/

/-- A recipe of queue 0 in a class and queue 1 for events, and of port 0. -/
def recipe (cls : Nat) : Recipe :=
  { generation := 1, floor := 0, hashes := [], tamperMask := 0, requireGo := false, lostQuar := false, drainPlait := 100
    drainEngine := 100, balls := []
    ports := [{ port := 0, brisk := false, pullup := 0, maxPos := 32, retries := 1, spuLimitMs := 0, probeMs := 0
                sprinkleMs := 0 }]
    acc := [], ctr := []
    queues := [⟨0, cls, 8, 0⟩, ⟨1, 6, 8, 0⟩]
    chanA := true, chanB := false, rctA := 100, rctB := 100, aptA := 100, aptB := 100, reseedInt := 1024, supply := []
    glzOn := true, glzRates := 31, glzLed := 1, glzIdleS := 10, glzLockMs := 100, settings := [], cells := []
    guards := [] }

/-- Stage has run all of its steps. -/
def staged : Mod :=
  { Mod.start with
    done := [1, 2, 3, 4, 5, 6, 7, 8, 9, 10], begun := [1, 2, 3, 4, 5, 6, 7, 8, 9, 10], stageDone := true, stageStep := 10 }

/-- SERVICE, with an identity, an open Larder of 64 records with the pages of records and index cached, a RUNNING
queue 0 of a class, and port 0 populated and RUNNING. -/
def serving (cls : Nat) : State :=
  { State.reset with
    mode := .service, mod := staged, tick := 100
    life := { Life.start with state := 1, shown := true, completed := true }
    rcp := { Rcp.start with recipe := some (recipe cls), gen := 1 }
    links := { Links.start with perstN := true, linkUp := true, busMaster := true, trained := true }
    cnt := { Counters.start with ready := true }
    ldr := { Larder.start with
      isOpen := true, capacity := 64
      frames := [0, 1, 16384].map fun p => { page := p, ref := false, pins := [], dirty := false } }
    sch := { Scheduler.start with acc := [⟨1, 1, 3, false, 100, 10, 0⟩], ctr := [⟨1, true, 1000⟩] }
    que := [(0, testRing)]
    ports := [(0, { portOff with entry := (recipe cls).ports.head?, state := .running })] }

/-- A descriptor. -/
def desc (opcode : Nat) : Desc :=
  { opcode := opcode, flags := 0, rsvOk := true, target := 0, cmdTag := 7, deadline := 0, bufAddr := 0x1000, bufLen := 0
    param0 := 0, param1 := 0 }

/-- A VERIFIED tag at position 1 of port 0, with record 3. -/
def tag : Pos :=
  { posEmpty with verdict := 2, record := some 3, tagId := some 9, classId := 1
                  session := some { kbt := 1, ktb := 2, epoch := 1, mseq := 4, hist := 0, snap := 0 } }

/-- A record of class 1. -/
def bound : Record := { recordFree with state := 1, classId := 1, tagId := 9 }

def fetch (d : Desc) : Fetched := ⟨d, 90⟩

/-! ## Descriptors -/

def posDesc (opcode : Nat) : Desc := { desc opcode with target := 1 }

def atTag (cls : Nat) (d : Desc) : State := ((((serving cls).withTag tag).withRecord 3 bound).counting).holding d

def incDesc : Desc := { desc 0x11 with target := 262144 }

def limDesc : Desc := { desc 0x43 with target := 262144, param1 := 6 }

/-- An operation whose entry is being committed, the request and the entry. -/
def commitOp (opcode id : Nat) : Op :=
  { (serving 2).newOp 0 (fetch { desc opcode with target := 1 }) with phase := .commit, record := id, pastPoint := true }

def commitAsk (id typ cause value : Nat) : Commit :=
  { owner := .host 512, typ := typ, cause := cause, id := id, value := value, plusOne := false, base := 0, serial := 0
    accepted := false, tag := none }

def entry (id typ cause value : Nat) : Entry :=
  { typ := typ, cause := cause, seq := 1, id := id, value := value, serial := 0, mac := 0 }

def committing (opcode id typ cause value : Nat) : State :=
  let s := ((serving 2).withTag tag).counting
  { s with
    sch := { s.sch with ops := [commitOp opcode id] }
    cnt := { s.cnt with queue := [commitAsk id typ cause value], busy := some (entry id typ cause value) } }

def readDesc : Desc := { desc 0x44 with bufLen := 8, param1 := 0x300 }

def writeDesc : Desc := { desc 0x45 with bufLen := 4, target := 3, param0 := 0x80 }

def issuerDesc : Desc := { desc 0x47 with bufLen := 224 }

def ackDesc : Desc := { desc 0x42 with bufLen := 168 }

def ackDesc1 : Desc := { desc 0x42 with bufLen := 180 }

/-- QUARANTINE for a lost anchor. -/
def lost (d : Desc) : State :=
  let s := (serving 5).counting.holding d
  { s with mode := .quarantine, mod := { s.mod with quarCause := some .anchorLost } }

def idDesc : Desc := { desc 0x40 with bufLen := 160 }

def rndDesc : Desc := { desc 0x20 with bufLen := 4 }

/-- Proofer instance 2 READY with eight octets of output. -/
def rolling : State :=
  let s := (serving 3).holding rndDesc
  { s with prf := vecSet s.prf 2 { Prf.start with state := 1, buf := [1, 2, 3, 4, 5, 6, 7, 8] } }

/-! ## Queues, pages, rounds, engines -/

/-- Queue 0 DISABLED, with its rings laid out. -/
def disabled : State := (serving 1).setQueue 0 { queueIdle with log2 := 4, sqBase := 0x1000, cqBase := 0x2000 }

def reading : State := (serving 1).setQueue 0 { testRing with reading := 2 }

/-- Octets of a descriptor of an opcode. -/
def descOctets (opcode : Byte) : Bytes := opcode :: List.replicate 63 0

def evDesc : Desc := { desc 0x50 with bufLen := 128 }

def events : State := (serving 6).holding evDesc

def good : PageCheck := { badNode := none, ddrOk := true, flashOk := true, ddrCe := false, ddrUe := false, ueAddr := 0 }

def bad : PageCheck := { good with ddrOk := false, flashOk := false }

/-- A fetch of page 2 under way. -/
def fetching : State :=
  let s := serving 5
  { s with ldr := { s.ldr with faults := [2], versions := [(2, 1)], ddr := [(2, [])] } }

/-- Page 0 dirty for four others' sake. -/
def dirtied : State :=
  let s := serving 5
  { s with ldr := { s.ldr with dirty := [(0, 5)], flush := true } }

def round : Round :=
  { pages := [(0, 5)], records := [], index := [], issuers := [], versions := [], tree := [], gen := 0, needs := [] }

def rounding : State :=
  let s := serving 5
  { s with ldr := { s.ldr with running := some round } }

def lockedOut : State :=
  let s := (serving 5).withRecord 3 { bound with label := 5 }
  { s with ldr := { s.ldr with locked := [3], lockOld := [(3, bound)] } }

/-- An authentication at a stage, with ECC engine 128 and its private key. -/
def authWork (st : AuthStage) : Auth := { authNew .auth with stage := st, unit := some 128, priv := some 5 }

def authing (st : AuthStage) : State := (serving 1).withTag { tag with auth := some (authWork st) }

/-! ## Signatures -/

/-- The signature of a message under the key of zeros. -/
def sigOf (msg : Bytes) : Bytes := beBytes 64 (Config.ecdsaSign (Config.privateKey 0) msg).toNat

/-- A block and its signature. -/
def signed (head : Bytes) : Bytes := head ++ sigOf head

/-- X ‖ Y of the generator of P-256. -/
def pointG : Bytes :=
  beBytes 64 0x6B17D1F2E12C4247F8BCE6E563A440F277037D812DEB33A0F4A13945D898C2964FE342E2FE1A7F9B8EE7EB4A7C0F9E162BCE33576B315ECECBB6406837BF51F5

/-! ## Glaze -/

def session : GlzSession :=
  { loaderId := 1, rights := 15, klb := 0, kbl := 0, rate := 0, lastSeq := 4, stored := [], drops := 0, lastAt := 0
    staged := [] }

/-- In a session. -/
def glazed (x : GlzSession) : State :=
  let s := ((serving 1).withRecord 3 bound).counting
  { s with glz := { s.glz with state := 3, session := some x } }

def nextFrame : GlzFrame := { tagOk := true, seq := 5 }

def hello (reply : Option Bytes) : State :=
  let s := serving 1
  { s with glz := { s.glz with state := 2, hand := some { body := [], reply := reply, bnonce := 0, priv := 0 } } }

/-- IDLE, with 48 octets of PRF1. -/
def glazeIdle : State :=
  let s := serving 1
  { s with
    glz := { s.glz with state := 1 }
    prf := vecSet s.prf 1 { Prf.start with state := 1, buf := List.replicate 48 1 } }

/-- A credential for every device, under slot 0, with the right to READ. -/
def helloHead : Bytes :=
  [0x42, 0x43, 0x47, 0x4C, 1, 0, 0, 1] ++ List.replicate 24 0 ++ pointG ++ List.replicate 64 0

/-- A HELLO body with that credential. -/
def helloFirst : Bytes := List.replicate 17 0 ++ pointG

def helloBody : Bytes := helloFirst ++ signed helloHead

/-- The slot that a signer's key of zeros fills. -/
def zeroSlot : KeySlot :=
  { hashAny := true, hash := Config.sha256 (List.replicate 64 0), active := 3, revoke := 0 }

def signer (s : State) : State := { s with otp := { s.otp with slots := vecSet s.otp.slots 0 zeroSlot } }

/-- A credit token for tag 9, of serial 0, BASE 10 and RAISE 5, by the key of zeros. -/
def tokenHead : Bytes :=
  [0x42, 0x43, 0x54, 0x4B, 1, 0, 0, 0] ++ List.replicate 16 0 ++ List.replicate 15 0 ++ [9] ++ [0, 0, 0, 0]
    ++ [10, 0, 0, 0, 0, 0] ++ [5, 0, 0, 0, 0, 0] ++ List.replicate 72 0

def token : Bytes := signed tokenHead

/-! ## Lifecycle -/

/-- A lifecycle request in the mailbox. -/
def mailbox (s : State) (b : Bytes) : State :=
  { s with msp := { s.msp with mbox := some 2, mboxData := mboxWrite [] b } }

/-- A mailbox request's fuses blow: OP and the lifecycle group that its record holds. -/
def blowing (op group : Nat) : State :=
  let s := serving 5
  { s with
    msp := { s.msp with mbox := some 2 }
    life := { s.life with blowing := some (none, op) }
    vig := { Vigil.empty with record := some (.group group) } }

/-! ## Recipes -/

def session0 : Session := { slot := 0, owner := .pcie, offset := 4 }

def rcpState (f : Rcp → Rcp) : State :=
  let s := serving 1
  { s with rcp := f s.rcp }

/-! ## Units -/

def unitState (u : Nat) (st : UnitState) (why : DrainFor) : State :=
  (serving 1).setUnit u { st := st, drainFor := why, drainEnd := 0, passed := false }

/-- Port 0 DRAINING with a TAG_READ waiting. -/
def cutOp : Op := { (serving 1).newOp 0 (fetch (posDesc 0x30)) with phase := .port }

def cutting : State :=
  let s := (unitState 0 .draining .restart)
  { s with sch := { s.sch with ops := [cutOp] } }.queueHost 0 (.host 512)

/-! ## Fabric -/

/-- One cell, constantly true, that drives guard 3, whose source was true on the last tick. -/
def ticking : State :=
  let s := serving 1
  { s with fab := { s.fab with
      fresh := false, prevTrue := 8, fault := 2
      cells := [{ sel := #v[1, 0, 0, 0, 0, 0], lut := 0xFFFFFFFFFFFFFFFF, latch := false, timer := 0, timerN := 0 }]
      guards := [{ guard := 3, source := 0, static := false }] } }

/-! ## Entropy -/

/-- Channel A or B as given, the other OFF. -/
def churning (ch : Channel) (c : Chan) : State :=
  let s := (serving 1).setChan ch c
  { s with ent := { s.ent with forming := true } }

/-! ## Plait -/

/-- Port 0 as a function makes it. -/
def line (f : Port → Port) : State := (serving 1).setPort 0 (f ((serving 1).port 0))

/-- The same with the tag at position 1, and its record. -/
def lineTag (f : Port → Port) : State :=
  let s := (((serving 1).withTag tag).withRecord 3 bound).counting
  s.setPort 0 (f { s.port 0 with chainLen := 1, present := 1 })

/-- A transaction on the wire. -/
def wire (owner : Owner) (op : Nat) : Txn := .first owner op 1 []

/-- A job of position 1 with its context. -/
def job (kind : Nat) : Job :=
  { kind := kind, pos := 1, deadline := 1000, ctx := true, prep := none, todo := [1], sent := 0 }

def prep : BeatPrep :=
  { nonce := some 5, mac := 0, count := 2, snap := 0, tagId := 9, epoch := 1, rcpGen := 1, page := 0, copy := some bound
    version := 0, frame := false, body := [], lane := none }

/-- A host operation that waits for port 0. -/
def hostOp (d : Desc) : Op :=
  { (serving 1).newOp 0 (fetch d) with phase := .port, pastPoint := d.opcode == 0x10 }

/-- A port profile with holds of at most 5 ms. -/
def shortHolds : PortEntry :=
  { port := 0, brisk := false, pullup := 0, maxPos := 32, retries := 1, spuLimitMs := 5, probeMs := 0, sprinkleMs := 0 }

def hosting (o : Op) : State :=
  let s := lineTag id
  ({ s with sch := { s.sch with ops := [o] } }.setPos 0 1 { tag with nvHold := 100 }).setPort 0
    { (s.port 0) with pos := [(1, { tag with nvHold := 100 })], hostq := [512], entry := some shortHolds }

def portOp (opcode : Nat) : Op := hostOp (posDesc opcode)

def hosted (opcode : Nat) : State := hosting (portOp opcode)

/-- A CONSUME behind port 1's wait for the strong pull-up. -/
def crowded : State := (hosted 0x10).setPort 1 { portOff with spuWait := some 3 }

/-- A VERIFY of MODE 1, with eight octets of PRF1. -/
def drawable : State :=
  let s := hosting (hostOp { posDesc 0x01 with param0 := 1 })
  { s with prf := vecSet s.prf 1 { Prf.start with state := 1, buf := List.replicate 8 1 } }

/-- A presence pulse. -/
def pulse (at_ : Nat) : Presence := { fallUs := at_, widthUs := 60 }

/-! ## Journal, supplies, scheduler -/

/-- The counter unit as a function makes it, with an entry in the buffer. -/
def journal (f : Counters → Counters) : State :=
  let s := serving 1
  { s with
    cnt := f s.cnt
    vig := { s.vig with
      buffer := [{ typ := 1, cause := 1, seq := 1, id := 3, value := 3, serial := 0, mac := 0 }] } }

def ckpt : Checkpoint :=
  { formatOk := true, epoch := 1, seq := 393216, chain := 0, binding := 0, counts := [], gcounts := [], mac := 0 }

/-- A supply channel 0: AC mains or a bus rail. -/
def rail (profile role : Nat) : SupplyEntry :=
  { channel := 0, profile := profile, hz := 50, scale := 1000, nominal := 100, low := 80, high := 120, intr := 10
    warn := 90, fail := 50, hyst := 5, trans := 50, ripple := 10, freqTol := 100, holdupUs := 0, role := role }

def supply (profile role : Nat) (f : Supply → Supply) : State :=
  let s := serving 1
  { s with
    rcp := { s.rcp with recipe := some { recipe 1 with supply := [rail profile role] } }
    spw := f { s.spw with running := true } }

/-- The scheduler of one port, as functions make its port and its position. -/
def scheduled (f : Port → Port) (y : Pos) : State :=
  let s := serving 1
  { s with que := [], ports := [(0, { f (s.port 0) with pos := [(1, y)] })] }

/-! ## Further variants -/

/-- Lifecycle state `n`, with the signer's key in slot 0. -/
def lifecycle (n : Nat) (s : State) : State := signer { s with life := { s.life with state := n } }

/-- VIGIL, with pairs 0 and 1 armed, after a core-voltage excursion. -/
def asleep : State :=
  { State.reset with mode := .vigil, vig := { Vigil.empty with armed := 3, fired := [2], intact := true } }

/-- STAGE with steps done, and its identity read. -/
def staging (done : List Nat) : State :=
  { State.reset with
    mode := .stage, mod := { Mod.start with done := done, begun := done }, vig := { Vigil.empty with intact := true }
    links := { Links.start with perstN := true }, life := { Life.start with state := 1, shown := true } }

/-- The same without device keys. -/
def keyless (done : List Nat) : State := { staging done with vig := { Vigil.empty with intact := true, inhibit := true } }

def snap : Snapshot :=
  { formatOk := true, generation := 1, recipeGen := 1, captureTick := 5, binding := 0, irqEn := 1, attnEn := 1, lead := 4
    mac := 0 }

def snapping (second : Bool) : State :=
  { serving 1 with mod := { staged with snapWrite := some ⟨snap, 3, second⟩ } }

/-- An anchored snapshot of this device, taken under recipe 1. -/
def ours : Snapshot := { snap with binding := (staging [1, 2, 3, 4, 5, 6]).binding }

def ourSnap : Snapshot := { ours with mac := (staging [1, 2, 3, 4, 5, 6]).snapMac ours }

/-- Before step 7, with that snapshot. -/
def restoring (gen : Nat) : State :=
  let s := staging [1, 2, 3, 4, 5, 6]
  { s with
    rcp := { s.rcp with gen := gen }
    vig := { s.vig with snapOk := true, snapSlot := 3, snapGen := 1 }
    flash := { s.flash with snaps := [(3, ourSnap)] } }

/-- QUARANTINE for a cause that its reader has read. -/
def quarantined (c : QuarCause) (ack : Bool) : State :=
  { serving 1 with
    mode := .quarantine, mod := { staged with quarCause := some c, readHost := true, ackDone := ack }
    vig := { (serving 1).vig with causes := [c] } }

def sfdp : Sfdp :=
  { readable := true, log2 := 28, quadRead := true, addr4 := true, page256 := true, erase4k := true, erase64k := true
    eraseSuspend := true, programSuspend := true, suspendUs := 10, maxClockKhz := 100000 }

/-- Every flash read of a slot succeeds. -/
def noReadErr : SlotVerdict := { readErrAt := none }

/-- Before step 6, in DEPLOYED. -/
def loading : State :=
  { staging [1, 2, 3, 4, 5] with
    rcp := { Rcp.start with pendingRcp := some { recipe 1 with tamperMask := 1 } }
    life := { Life.start with state := 3 } }

def header (s : State) : Header :=
  let h : Header :=
    { magicOk := true, formatOk := true, binding := s.binding, capacity := capacityOf s.flash.recLog2, round := 1
      issuerGen := 0, root := rootOf [], copyMap := Config.copyMap [], mac := 0, copies := [], tree := [], records := []
      index := [], issuers := [], versions := [] }
  { h with mac := s.headerMac h }

/-- Before step 10, with a record image in slot 1. -/
def imaged : State :=
  let s := staging [1, 2, 3, 4, 5, 6, 7, 8, 9]
  { s with flash := { s.flash with hdr1 := some (header s) } }

def withRecipe (s : State) : State := { s with rcp := { s.rcp with recipe := some (recipe 1) } }

/-- Proofer instance 0 READY with five octets of output. -/
def drawn : State :=
  { serving 3 with prf := vecSet (serving 3).prf 0 { Prf.start with state := 1, buf := [1, 2, 3, 4, 5] } }

def glaze (f : Glaze → Glaze) : State := { glazed session with glz := f (glazed session).glz }

/-- Guard 3 enabled, its fault bit clear. -/
def driving : State := { ticking with fab := { ticking.fab with enabled := 8 } }

/-- TICK_NOW has just reached an epoch boundary. -/
def epochDue (s : State) : State := { s with sch := { s.sch with epochDue := true } }

def guarding (f : Fabric → Fabric) : State := { ticking with fab := f ticking.fab }

def enumerating (x : Port) : Port := { x with state := .enumerate, enumPos := 1, enumFirst := 1 }

/-- The bits of a tag frame of position 1. -/
def answer (tstat : Nat) (payload : Bytes) : RxFrame :=
  let b := (List.range 6).map (fun i => tstat.testBit (5 - i)) ++ bitsMsb payload ++ [false, false, false, false, true]
  let c := (crc8 (bitsMsbOf 6 1 ++ b)).toNat
  { bits := b ++ (List.range 8).map (fun i => c.testBit (7 - i)), erasures := 0, contention := 0 }

/-- The frame that those bits are. -/
def answered (tstat : Nat) (payload : Bytes) : TagFrame :=
  { tstat := tstat, payload := payload, sprinkle := false, crumb := 1 }

def beatAnswer : Bytes := [0, 0, 0, 0, 0, 2] ++ List.replicate 8 0

def check : ChainCheck := { pos := 1, next := 2, answered := [] }

def beat : Job := { job jobBeat with prep := some prep }

def authAt (st : AuthStage) : Auth := { authNew .auth with stage := st }

def authed (st : AuthStage) : State :=
  (lineTag fun x => { x with jobs := [job jobAuth] }).setPos 0 1 { tag with auth := some (authAt st) }

def tagSession : TagSession := { kbt := 1, ktb := 2, epoch := 1, mseq := 4, hist := 0, snap := 0 }

def limited (x : Port) : Port := { x with entry := some shortHolds }

def catchup : Txn := { wire .catchup opCatchup with holdUsed := 10 }

def finish : Txn := { wire .catchup opCatchup with finish := true, due := true, holdUs := 50 }

def early (s : State) : State := { s with spw := { s.spw with early := true } }

def channel (f : SpwChan → SpwChan) (x : Supply) : Supply := { x with chans := vecSet x.chans 0 (f SpwChan.start) }

def accClass : AccClass := ⟨1, 1, 3, false, 100, 10, 0⟩

def lateBeat : Job := { job jobBeat with deadline := 90, prep := some prep, todo := [] }

/-- A warm class, and a beat 10 µs ahead. -/
def warmed : State :=
  let s := scheduled (fun x => { x with chainLen := 1, present := 1 }) { tag with beatAt := some 110 }
  { s with sch := { s.sch with warm := [1] } }

/-! ## More variants -/

def assignAnswer : Bytes := [3, 1] ++ List.replicate (answerOctets opAssign - 2) 0

def journalled : Entry := { typ := 1, cause := 1, seq := 1, id := 3, value := 3, serial := 0, mac := 0 }

def ready : Prf := { Prf.start with state := 1 }

def lateTag : Pos := { tag with beatAt := some 50, session := none }

def lateJobs (x : Port) : Port := { x with jobs := [lateBeat] }

def twoKeys (s : State) : State := { s with otp := { s.otp with slots := vecSet s.otp.slots 1 zeroSlot } }

def unlinked : State := { serving 1 with links := { (serving 1).links with linkUp := false } }

def messaging : State := { serving 1 with links := { (serving 1).links with pba := 8, msixTable := [(60, 1)] } }

def masking : State := { serving 1 with kept := { (serving 1).kept with irqEn := 0 }, irqStat := 4 }

def fullQuarantine (c : QuarCause) : State := quarantined c true

/-! ## The terms of the hypotheses, as they are evaluated -/

def quietB (s : State) : Bool :=
  (s.sch.ops.all s.opQuiet) && (s.cnt.arrivals == [] && ((s.cnt.queue == []) || s.cnt.busy.isSome))
    && (s.ports.all fun e => e.2.quiet) && (match s.glz.hand with | some h => h.reply.isSome | none => true)
    && (match s.glz.commit with | some c => c.labelsIn || c.lockEnded || !c.tokensDone | none => true)
    && (s.ldr.stalled == [] && s.glz.stalled.isNone)

theorem quiet_iff (s : State) : s.quiet ↔ quietB s = true := by
  unfold State.quiet quietB
  cases s.glz.hand <;> cases s.glz.commit <;> simp [and_assoc]

theorem takes_iff (s : State) (q code : Nat) (h : Fetched) :
    s.Takes q code h ↔ (s.queue q).buf.head? = some h ∧ h.desc.opcode = code ∧ s.winner = some q ∧ s.hostUsed < 3584
      ∧ s.refusal q h.desc = none ∧ ∀ f ∈ (s.queue q).buf, opcodeClass f.desc.opcode ≠ none :=
  ⟨fun ⟨a, b, c, d, e, f⟩ => ⟨a, b, c, d, e, f⟩, fun ⟨a, b, c, d, e, f⟩ => ⟨a, b, c, d, e, f⟩⟩

theorem begins_iff (s : State) (q code : Nat) (h : Fetched) :
    s.Begins q code h ↔ s.running = true ∧ quietB s = true ∧ s.canMaster = true
      ∧ (s.queue q).buf.head? = some h ∧ h.desc.opcode = code ∧ s.winner = some q ∧ s.hostUsed < 3584
      ∧ s.refusal q h.desc = none ∧ ∀ f ∈ (s.queue q).buf, opcodeClass f.desc.opcode ≠ none := by
  rw [← takes_iff s q code h, ← quiet_iff]
  exact ⟨fun ⟨a, b, c, d⟩ => ⟨a, b, c, d⟩, fun ⟨a, b, c, d⟩ => ⟨a, b, c, d⟩⟩

theorem glzAsks_iff (s : State) (f : GlzFrame) (x : GlzSession) :
    s.GlzAsks f x ↔ s.running = true ∧ quietB s = true ∧ s.glzHears = true ∧ s.glz.hushEnd = none ∧ s.glz.session = some x
      ∧ s.glz.commit = none ∧ f.tagOk = true ∧ f.seq = x.lastSeq + 1 ∧ x.lastSeq + 1 < 65536 := by
  rw [← quiet_iff]
  exact ⟨fun ⟨a, b, c, d, e, f, g, h, i⟩ => ⟨a, b, c, d, e, f, g, h, i⟩,
    fun ⟨a, b, c, d, e, f, g, h, i⟩ => ⟨a, b, c, d, e, f, g, h, i⟩⟩

theorem serves_iff (s : State) (p : Nat) (w : Work) :
    s.Serves p w ↔ s.running = true ∧ quietB s = true ∧ s.nextWork p = w := by
  rw [← quiet_iff]
  exact ⟨fun ⟨a, b, c⟩ => ⟨a, b, c⟩, fun ⟨a, b, c⟩ => ⟨a, b, c⟩⟩

theorem expects_iff (s : State) (p : Nat) (t : Txn) :
    s.Expects p t ↔ s.running = true ∧ quietB s = true ∧ s.awaiting p = some t := by
  rw [← quiet_iff]
  exact ⟨fun ⟨a, b, c⟩ => ⟨a, b, c⟩, fun ⟨a, b, c⟩ => ⟨a, b, c⟩⟩

theorem prfQuiet_iff (s : State) :
    s.prfQuiet ↔ (∀ o ∈ s.sch.ops, o.phase ≠ .gather) ∧ (∀ i < 4, (s.inst i).quiet s.reseedInt = true)
      ∧ s.reseedInt ≤ stopCount ∧ ((List.range 4).any fun i => !s.unitIs (prfUnit i) .off) = true := by
  simp [State.prfQuiet, List.any_eq_true]

theorem rests_iff (s : State) :
    s.Rests ↔ s.running = true ∧ s.prfQuiet ∧ s.mod.inStep9 = false
      ∧ ((shaUnits.all fun u => s.unitIs u .off) && shaUnits.any fun u => s.rcp.testOff.contains u) = false :=
  ⟨fun ⟨a, b, c, d⟩ => ⟨a, b, c, d⟩, fun ⟨a, b, c, d⟩ => ⟨a, b, c, d⟩⟩

theorem noBind_iff (s : State) :
    s.noBind ↔ (s.ldr.needs.all fun x => match x with | .bind _ _ _ => false | _ => true) = true := by
  simp only [State.noBind, List.all_eq_true]
  constructor
  · intro h x hx
    cases x with
    | bind p i n => exact absurd hx (h p i n)
    | _ => rfl
  · intro h p i n hx
    exact absurd (h _ hx) (by simp)

/-! ## Witnesses that rest on an uninterpreted function -/

theorem length_leBytes (n v : Nat) : (leBytes n v).length = n := by
  induction n generalizing v with
  | zero => rfl
  | succ n ih => simp [leBytes, ih]

theorem length_sigOf (msg : Bytes) : (sigOf msg).length = 64 := by simp [sigOf, beBytes, length_leBytes]

theorem verifies_sigOf {pub : BitVec 512} {msg sig : Bytes} (hp : pub = 0) (hs : sig = sigOf msg) :
    ecdsaVerifies pub msg sig = true := by
  subst hp hs; simp [ecdsaVerifies, sigOf]

theorem take_signed {head : Bytes} {n : Nat} (h : head.length = n) (tail : Bytes) :
    (head ++ sigOf (head ++ tail) ++ tail).take n = head := by subst h; simp

theorem slice_signed {head : Bytes} {n : Nat} (h : head.length = n) (msg tail : Bytes) :
    slice (head ++ sigOf msg ++ tail) n 64 = sigOf msg := by
  subst h; simp [slice, length_sigOf]

theorem blockSigned_signed {head : Bytes} {k n : Nat} (h : head.length = n) (hk : keyAt (signed head) k = 0) :
    blockSigned (signed head) k n = true := by
  have h1 := take_signed h []
  have h2 := slice_signed h head []
  simp only [List.append_nil] at h1 h2
  refine verifies_sigOf hk ?_
  show slice (head ++ sigOf head) n 64 = sigOf ((head ++ sigOf head).take n)
  rw [h1, h2]


theorem signedFor_zeroSlot {s : State} {b : Bytes} {a e n k : Nat} {any : Bool} (hs : s.slot (leAt b a 1) = zeroSlot)
    (hk : slice b k 64 = List.replicate 64 0)
    (hb : ((any && zeroAt b n 16) || beAt b n 16 == s.binding.toNat) = true) (he : (leAt b e 1 == s.keyEpoch) = true)
    (h3 : leAt b a 1 ≤ 3) : s.signedFor b a e n k any = true := by
  simp [State.signedFor, hs, hk, hb, he, h3, KeySlot.isActive, zeroSlot]

/-- The same without a binding to compare with: the identity is not read yet. -/
def unbound (s : State) : State := { s with life := { s.life with shown := false } }

theorem helloCred_body : helloCred helloBody = signed helloHead := rfl

theorem helloOk_witness : (signer glazeIdle).helloOk helloBody = true := by
  have h : (signer glazeIdle).signedFor (signed helloHead) 5 6 0x10 0x60 true = true :=
    signedFor_zeroSlot rfl (by decide +kernel) (by decide +kernel) (by decide +kernel) (by decide +kernel)
  have hb : blockSigned (signed helloHead) 0x60 0xA0 = true :=
    blockSigned_signed (by decide +kernel) (by decide +kernel)
  unfold State.helloOk helloKey helloPoint
  rw [helloCred_body]
  simp only [h, hb]
  decide +kernel

/-- The page of tag 9's slot is cached too. -/
def indexing (s : State) : State :=
  { s with ldr := { s.ldr with
      frames := s.ldr.frames ++ [{ page := indexPageOf 9, ref := false, pins := [], dirty := false }] } }

/-- A session of a signed loader, with the page of its token's tag. -/
def loader : State := indexing (signer (glazed session))

theorem tokenOk_witness : loader.tokenOk token = true := by
  have h : loader.signedFor token 5 6 8 0x40 true = true :=
    signedFor_zeroSlot rfl (by decide +kernel) (by decide +kernel) (by decide +kernel) (by decide +kernel)
  have hb : blockSigned token 0x40 0x80 = true := blockSigned_signed (by decide +kernel) (by decide +kernel)
  unfold State.tokenOk
  simp only [h, hb]
  decide +kernel

/-- An ISSUER_SET block that adds issuer 7. -/
def issuerHead : Bytes :=
  [0x42, 0x43, 0x49, 0x53, 1, 0, 0, 0] ++ List.replicate 16 0 ++ [7, 0, 0, 0, 0, 0, 0, 0] ++ pointG ++ List.replicate 64 0

def issuerBlock : Bytes := signed issuerHead

/-- A block on a queue of class 5, the pages of the issuer table cached. -/
def issuing : State :=
  let s := unbound (signer ((serving 5).holding issuerDesc))
  { s with ldr := { s.ldr with
      frames := s.ldr.frames ++ issuerPages.map fun p => { page := p, ref := false, pins := [], dirty := false } } }

theorem issuerJudge_witness : issuing.issuerJudge issuerBlock = some 0 := by
  have h : issuing.signedFor issuerBlock 5 6 8 0x60 false = true :=
    signedFor_zeroSlot rfl (by decide +kernel) (by decide +kernel) (by decide +kernel) (by decide +kernel)
  have hb : blockSigned issuerBlock 0x60 0xA0 = true := blockSigned_signed (by decide +kernel) (by decide +kernel)
  unfold State.issuerJudge
  rw [if_pos ⟨by decide +kernel, h, by decide +kernel, hb, .inr (by decide +kernel)⟩]
  decide +kernel

/-- An acknowledgement with no floors, and one with a floor of 9 for counter 262144. -/
def ackHead (n : Nat) : Bytes := [0x42, 0x43, 0x41, 0x4B, 0, 0, BitVec.ofNat 8 n, 0] ++ List.replicate 96 0

def ackBlock (n : Nat) (floors : Bytes) : Bytes := ackHead n ++ sigOf (ackHead n ++ floors) ++ floors

def floor9 : Bytes := leBytes 4 262144 ++ leBytes 6 9 ++ [0, 0]

def acking (d : Desc) : State := unbound (signer (lost d))

theorem ackSigned_block (n : Nat) (floors : Bytes) : ackSigned (ackBlock n floors) = true := by
  have hl : (ackHead n).length = 0x68 := rfl
  refine verifies_sigOf (show keyAt (ackBlock n floors) 0x28 = 0 from rfl) ?_
  show slice (ackBlock n floors) 0x68 64 = sigOf ((ackBlock n floors).take 0x68 ++ (ackBlock n floors).drop 0xA8)
  have h1 : (ackBlock n floors).take 0x68 = ackHead n := take_signed hl floors
  have h2 : slice (ackBlock n floors) 0x68 64 = sigOf (ackHead n ++ floors) := slice_signed hl _ floors
  have h3 : (ackBlock n floors).drop 0xA8 = floors := by
    unfold ackBlock
    rw [List.drop_left']
    simp [hl, length_sigOf]
  rw [h1, h2, h3]

theorem ackOk_witness : (acking ackDesc).ackOk (ackBlock 0 []) = true := by
  have h : (acking ackDesc).signedFor (ackBlock 0 []) 4 5 8 0x28 false = true :=
    signedFor_zeroSlot rfl (by decide +kernel) (by decide +kernel) (by decide +kernel) (by decide +kernel)
  unfold State.ackOk
  simp only [h, ackSigned_block]
  decide +kernel

theorem ackOk_floor_witness : (acking ackDesc1).ackOk (ackBlock 1 floor9) = true := by
  have h : (acking ackDesc1).signedFor (ackBlock 1 floor9) 4 5 8 0x28 false = true :=
    signedFor_zeroSlot rfl (by decide +kernel) (by decide +kernel) (by decide +kernel) (by decide +kernel)
  unfold State.ackOk
  simp only [h, ackSigned_block]
  decide +kernel

/-- A certificate of zeros, whose TAG_PUB is no point of P-256. -/
def badCert : Bytes := signed (List.replicate 0x60 0)

def certifying : State := (serving 1).withTag { tag with auth := some { authWork .verify with cert := badCert } }

theorem certLate_witness (ms : Nat) : certLate ms 0 badCert = some 5 := by
  have hs : certSigned 0 badCert = true := by
    have h1 := take_signed (head := List.replicate 0x60 0) (n := 0x60) rfl []
    have h2 := slice_signed (head := List.replicate 0x60 0) (n := 0x60) rfl (List.replicate 0x60 0) []
    simp only [List.append_nil] at h1 h2
    refine verifies_sigOf rfl ?_
    show slice (_ ++ sigOf (List.replicate 0x60 0)) 0x60 64 = sigOf ((_ ++ sigOf (List.replicate 0x60 0)).take 0x60)
    rw [h1, h2]
  have hp : onP256 (certTagPub badCert) = false := by decide +kernel
  unfold certLate
  rw [hs, hp]
  rfl

theorem proven_witness :
    ({ body := [], reply := some [], bnonce := 0, priv := 0 } : GlzHand).proven (sigOf (ascii "GLZ-L")) = true :=
  verifies_sigOf (by decide +kernel) (by simp)

theorem snapCheck_restoring (g : Nat) :
    (restoring g).snapCheck = if (1 : Nat) != g then .refused false true else .accepted ourSnap := by
  have hb : ourSnap.binding = (restoring g).binding := rfl
  have hm : ourSnap.mac = (restoring g).snapMac ourSnap := rfl
  have hf : tabFind (restoring g).flash.snaps (restoring g).vig.snapSlot = some ourSnap := rfl
  have hg : ourSnap.generation = (restoring g).vig.snapGen := rfl
  have ho : (restoring g).vig.snapOk = true := rfl
  have hr : (restoring g).rcp.gen = g := rfl
  have h1 : ourSnap.formatOk = true := rfl
  have h2 : ourSnap.recipeGen = 1 := rfl
  simp only [State.snapCheck, ho, hf, hg, hb, hm, hr, h1, h2, bne_self_eq_false]
  by_cases hq : 1 = g <;> simp [hq]

theorem tabGet_mboxWrite (bs : Bytes) (t : Tab Byte) (k i : Nat) :
    tabGet 0 (bs.foldl (fun (r : Nat × Tab Byte) b => (r.1 + 1, tabSet 0 r.2 r.1 b)) (k, t)).2 i
      = if h : k ≤ i ∧ i < k + bs.length then bs[i - k] else tabGet 0 t i := by
  induction bs generalizing t k with
  | nil => simp <;> omega
  | cons b bs ih =>
    rw [List.foldl_cons, ih, tabGet_tabSet]
    by_cases hk : k = i
    · subst hk; simp <;> omega
    · by_cases h : k + 1 ≤ i ∧ i < k + 1 + bs.length
      · have h' : k ≤ i ∧ i < k + (b :: bs).length := by simp; omega
        rw [dif_pos h, dif_pos h']
        have : i - k = (i - (k + 1)) + 1 := by omega
        simp [this]
      · have h' : ¬ (k ≤ i ∧ i < k + (b :: bs).length) := by simp; omega
        rw [dif_neg h, dif_neg h']
        simp; omega

/-- The mailbox reads what has been written to it. -/
theorem mboxRead_mailbox (s : State) (b : Bytes) : (mailbox s b).mboxRead b.length = b := by
  apply List.ext_getElem
  · simp [State.mboxRead]
  · intro i h1 h2
    simp only [State.mboxRead, mailbox, mboxWrite, List.getElem_map, List.getElem_range]
    rw [tabGet_mboxWrite, dif_pos (by omega)]
    simp

theorem leNat_leBytes (n v : Nat) : leNat (leBytes n v) = v % 256 ^ n := by
  induction n generalizing v with
  | zero => simp [leBytes, leNat, Nat.mod_one]
  | succ n ih =>
    simp only [leBytes, leNat, ih, BitVec.toNat_ofNat]
    have h : v % 256 ^ (n + 1) = v % (256 * 256 ^ n) := by rw [Nat.pow_succ (n := 256) (m := n), Nat.mul_comm]
    rw [h, Nat.mod_mul]

theorem beNat_beBytes (n v : Nat) : beNat (beBytes n v) = v % 256 ^ n := by
  simp [beNat, beBytes, leNat_leBytes]

/-- A request to this device of an OP, by slot 0 and for slot `k`, whose keys are zeros. -/
def requestHead (s : State) (op k : Byte) : Bytes :=
  [0x42, 0x43, 0x4C, 0x51, op, 0, k, 0] ++ beBytes 16 s.binding.toNat ++ List.replicate 96 0

def requestFor (s : State) (op k : Byte) : Bytes := signed (requestHead s op k)

theorem requestOk_witness {s : State} {op k : Byte} (hi : s.identityReadable = true) (he : s.keyEpoch = 0)
    (hr : s.requestRule (requestFor s op k) = true) : s.requestOk (requestFor s op k) = true := by
  have h1 : leAt (requestFor s op k) 0 4 = 0x514C4342 := by
    show leNat [0x42, 0x43, 0x4C, 0x51] = _
    decide +kernel
  have h2 : beAt (requestFor s op k) 8 16 = s.binding.toNat := by
    show beNat (beBytes 16 s.binding.toNat) = _
    rw [beNat_beBytes, Nat.mod_eq_of_lt]
    exact s.binding.isLt
  have h3 : leAt (requestFor s op k) 7 1 = 0 := by
    show leNat [0] = _
    decide +kernel
  have h4 : reqSigned (requestFor s op k) = true :=
    blockSigned_signed (head := requestHead s op k) (k := 0x38) (n := 0x78) rfl rfl
  simp [State.requestOk, h1, h2, h3, h4, hi, he, hr]

theorem requestRule_witness {s : State} {op k : Byte} (hs : s.slot 0 = zeroSlot)
    (hr : (match op.toNat with
      | 2 => decide (k.toNat ≤ 3) && !(s.slot k.toNat).fused
      | 3 => decide (k.toNat ≤ 3) && (s.slot k.toNat).isActive && decide (1 < s.activeSlots.length)
      | 4 => s.life.state == 2
      | 5 => s.life.state == 3
      | _ => false) = true) : s.requestRule (requestFor s op k) = true := by
  have h4 : reqOp (requestFor s op k) = op.toNat := by
    show leNat [op] = _
    simp [leNat]
  have h5 : reqSigner (requestFor s op k) = 0 := by
    show leNat [0] = _
    decide +kernel
  have h6 : reqTarget (requestFor s op k) = k.toNat := by
    show leNat [k] = _
    simp [leNat]
  have h7 : reqKeyHash (requestFor s op k) = zeroSlot.hash := by
    show Config.sha256 _ = Config.sha256 _
    rfl
  have h8 : zeroSlot.isActive = true := rfl
  unfold State.requestRule
  rw [h4, h5, h6, h7, hs, h8]
  simp only [beq_self_eq_true, Bool.and_true, Nat.zero_le, decide_true, Bool.true_and]
  split at hr <;> simp_all

theorem attest_some {s : State} (h : s.identityReadable = true) (b : Bytes) :
    s.attest b = some (s.attestMessage b ++ beBytes 64 (Config.ecdsaSign s.keyBlock.priv (s.attestMessage b)).toNat) := by
  simp [State.attest, h]

theorem imaged_pick : imaged.pickHeader ⟨true, true⟩ = some (1, header imaged) := by
  have h : imaged.headerOk (header imaged) = true := by
    have hc : (header imaged).capacity = capacityOf imaged.flash.recLog2 := rfl
    have hm : (header imaged).mac = imaged.headerMac (header imaged) := rfl
    have hb : (header imaged).binding = imaged.binding := rfl
    have hg : (header imaged).magicOk = true := rfl
    have hf : (header imaged).formatOk = true := rfl
    simp [State.headerOk, hc, hm, hb, hg, hf]
  have h0 : imaged.flash.hdr0 = none := rfl
  have h1 : imaged.flash.hdr1 = some (header imaged) := rfl
  simp [State.pickHeader, h0, h1, h, minBy]

def beatTxn : Txn := wire .beat opChallenge

/-- A chip in DEPLOYED. -/
def deployed : State := { serving 1 with otp := { (serving 1).otp with groups := #v[3, 3, 3, 0] } }

def freeDesc : Desc := { desc 0x46 with target := 3 }

theorem there_indexing {s : State} (h : s.poisoned (indexPageOf 9) = false) : (indexing s).pageThere (indexPageOf 9) :=
  ⟨by simp [State.cached, indexing], h⟩

def mailed (op k : Byte) (s : State) : State := mailbox s (requestFor s op k)

theorem mboxRead_mailed (s : State) (op k : Byte) :
    (mailed op k s).mboxRead 184 = requestFor (mailed op k s) op k :=
  mboxRead_mailbox s (requestFor s op k)

/-- A frame that holds the whole content of a section. -/
def oneFrame (typ : Byte) (content : Bytes) : Bytes :=
  let head : Bytes := [typ, 1, 0xFF, 0xFF, 0, 0, 0, 0] ++ leBytes 2 content.length ++ [0, 0]
  let body := padTo 240 content
  head ++ leBytes 4 (crc32c (head ++ body)).toNat ++ body

/-- Frame `i` of the image below: DEVICE, BALLMAP, QUEUES, ENTROPY, FABRIC. -/
def imageFrame : Nat → Bytes
  | 0 => oneFrame 1 (List.replicate 32 0)
  | 1 => oneFrame 2 [0x40, 1, 0, 0]
  | 2 => oneFrame 5 [0, 0, 5, 8, 0, 0, 0, 0]
  | 3 => oneFrame 6 (1 :: List.replicate 15 0)
  | _ => oneFrame 10 (1 :: List.replicate 31 0)

def imageEntry (typ : Byte) (i len : Nat) : Bytes :=
  [typ, 0, 0, 0] ++ leBytes 4 i ++ leBytes 4 1 ++ leBytes 4 len ++ List.replicate 16 0
    ++ beBytes 32 (Config.sha256 (imageFrame i)).toNat

/-- Its header and its directory. -/
def imageHead : Bytes :=
  [0x42, 0x43, 0x52, 0x50, 1, 0, 128, 0] ++ leBytes 4 2048 ++ leBytes 4 9 ++ [0, 5, 0, 0] ++ leBytes 4 0x140
    ++ leBytes 4 768 ++ leBytes 4 5 ++ List.replicate 18 0 ++ [0xFF, 0xFF] ++ List.replicate 76 0

def imageDir : Bytes :=
  imageEntry 1 0 32 ++ imageEntry 2 1 4 ++ imageEntry 5 2 8 ++ imageEntry 6 3 16 ++ imageEntry 10 4 32

/-- The least recipe image that verifies, of generation 9, by the key of zeros in slot 0. -/
def image : Bytes :=
  imageHead ++ List.replicate 68 0 ++ sigOf (imageHead ++ imageDir) ++ List.replicate 60 0 ++ imageDir
    ++ List.replicate 128 0 ++ imageFrame 0 ++ imageFrame 1 ++ imageFrame 2 ++ imageFrame 3 ++ imageFrame 4

theorem image_signed :
    ecdsaVerifies (BitVec.ofNat 512 (beNat (slotRead image 0x84 64))) (signedPart image) (slotRead image 0xC4 64) = true := by
  have hk : BitVec.ofNat 512 (beNat (slotRead image 0x84 64)) = 0 := by decide +kernel
  have hm : signedPart image = imageHead ++ imageDir := rfl
  refine verifies_sigOf hk ?_
  rw [hm]
  rfl
theorem image_header : imgHeaderOk image = true := by decide +kernel
theorem image_directory : directoryOk image = true := by decide +kernel
theorem image_frames :
    ((imgDirectory image).all fun e => framesOk e.typ (sectionFrames image e) 0 0 e.len) = true := by decide +kernel
theorem image_content : contentOk image = true := by decide +kernel
theorem image_hashes :
    ((imgDirectory image).all fun e => (Config.sha256 (sectionFrames image e).flatten).toNat == e.hash) = true := by
  have hh : ∀ i, (Config.sha256 (imageFrame i)).toNat = beNat (beBytes 32 (Config.sha256 (imageFrame i)).toNat) := by
    intro i; rw [beNat_beBytes, Nat.mod_eq_of_lt]; exact (Config.sha256 (imageFrame i)).isLt
  have hd : (List.range (imgSections image)) = [0, 1, 2, 3, 4] := by decide +kernel
  unfold imgDirectory
  rw [hd]
  simp only [List.map, List.all, Bool.and_true, Bool.and_eq_true, beq_iff_eq]
  refine ⟨?_, ?_, ?_, ?_, ?_⟩
  · rw [show slotRead image (0x140 + 64 * 0 + 0x20) 32 = beBytes 32 (Config.sha256 (imageFrame 0)).toNat from rfl,
      ← hh]; congr 2
  · rw [show slotRead image (0x140 + 64 * 1 + 0x20) 32 = beBytes 32 (Config.sha256 (imageFrame 1)).toNat from rfl,
      ← hh]; congr 2
  · rw [show slotRead image (0x140 + 64 * 2 + 0x20) 32 = beBytes 32 (Config.sha256 (imageFrame 2)).toNat from rfl,
      ← hh]; congr 2
  · rw [show slotRead image (0x140 + 64 * 3 + 0x20) 32 = beBytes 32 (Config.sha256 (imageFrame 3)).toNat from rfl,
      ← hh]; congr 2
  · rw [show slotRead image (0x140 + 64 * 4 + 0x20) 32 = beBytes 32 (Config.sha256 (imageFrame 4)).toNat from rfl,
      ← hh]; congr 2

theorem image_valid {s : State} (h0 : s.slot 0 = zeroSlot) (hr : s.otp.revision = 0) (hb : s.otp.rollback = 0) :
    s.verifySlot image noReadErr = 15 := by
  have a0 : slotU image 0 4 ≠ 0xFFFFFFFF := by decide +kernel
  have a3 : slotU image 0x30 2 = 0 := by decide +kernel
  have a3' : slotU image 0x32 2 = 0xFFFF := by decide +kernel
  have a4 : imgBinding image = 0 := by decide +kernel
  have a5 : slotU image 0x80 1 = 0 := by decide +kernel
  have a5' : slotRead image 0x84 64 = List.replicate 64 0 := by decide +kernel
  have a7 : imgFloor image = 0 := by decide +kernel
  have a6 := image_signed
  rw [a5'] at a6
  unfold State.verifySlot State.slotChecks
  simp only [a0, a3, a3', a4, a5, a5', a7, h0, hr, hb, a6, image_header, image_directory, image_frames,
    image_hashes, image_content, noReadErr, zeroSlot, KeySlot.isActive]
  simp [firstFailure]

/-- Before step 4, the image in slot A. -/
def booting : State :=
  let s := signer (staging [1, 2, 3])
  { s with flash := { s.flash with slotA := image } }

/-- The same with it in slot B. -/
def bootingB : State :=
  let s := signer (staging [1, 2, 3])
  { s with flash := { s.flash with slotB := image } }

/-- The recipe before the image: it differs in its generation only. -/
def olderRecipe : Recipe := { parseRecipe image with generation := 8 }

/-- ACTIVATE is verifying the image. -/
def activating : State :=
  let s := signer (rcpState fun x => { x with recipe := some olderRecipe, busy := some .activateVerify })
  { s with flash := { s.flash with slotA := image } }

theorem activate_allowed : activating.activateRefusal 15 olderRecipe (parseRecipe image) = none := by
  have h1 : ¬ (parseRecipe image).generation ≤ activating.rcp.gen := by decide +kernel
  have h2 : ∀ t, olderRecipe.hash t = (parseRecipe image).hash t := fun _ => rfl
  have h3 : activating.ldr.records = [] := rfl
  simp only [State.activateRefusal, h1, h2, State.classesRefused, h3]
  simp

def requesting : Desc := { desc 0x41 with bufLen := 184 }

def retiring : State := (lifecycle 3 (serving 5)).holding requesting

def freeing : State := indexing (((serving 5).withRecord 3 bound).holding freeDesc)

theorem token_page : loader.pageThere (indexPageOf (BitVec.ofNat 128 (beAt token 0x18 16))) := by
  have h : BitVec.ofNat 128 (beAt token 0x18 16) = 9 := by decide +kernel
  rw [h]
  exact there_indexing (by decide +kernel)

/-! ## Well-formedness: an ill-formed term for each check -/

theorem test_ill_formed_refused :
    ([.registerWrite .pcie (2 ^ 22) 0 none, .registerWrite .pcie 2 0 none, .registerWrite .pcie 4 0 (some 0),
      .rcFieldRead .msp 3 false, .wideValueLowRead .pcie 12 true, .holeAccess .pcie 1 false, .bar0BadWidth (2 ^ 22) false,
      .stageStep4 { sfdp with log2 := 32 } sfdp noReadErr noReadErr,
      .stageStep4 sfdp sfdp { readErrAt := some 11 } noReadErr,
      .rcpVerifyDone { readErrAt := some 0 }, .identify 1024 none, .identify 0 (some []),
      .lifecycleOwn (.queue 1024 none) .done, .lifecycleDeploy (.queue 0 (some [])) .done, .rcpAppend .pcie 8192,
      .unitRestart .pcie 256, .drainLimitExpire 180, .engineSelftest 127 true, .guardCarrierStart 256, .grdFaultClear 8 0,
      .grdPermitWrite 8 none none, .plaitReset 128, .lineLow ⟨128, 0, 0⟩, .answerTimeout ⟨0, 1, 0⟩, .entRetestA ⟨false, false⟩, .tagAnswerReceived 128 (answer 0 []),
      .tagAnswerReceived 0 { bits := List.replicate 513 true, erasures := 0, contention := 0 },
      .acquisitionEnd [], .acquisitionEnd (List.replicate 64 64), .ringFreqCheck 2048 0, .ringFreqCheck 0 8192,
      .repetitionEvent .a 64 0 0, .proportionEvent .a 64 0 0, .proportionEvent .a 0 0 1025, .aptWindowClose .a [],
      .aptWindowClose .b [1025], .estimateWindowEnd .a 1 2 0 0 0 0, .estimateWindowEnd .a 1 0 0 1 0 0,
      .estimateWindowEnd .a (64 * 65536 + 1) 0 0 0 0 0, .prooferGenerate 4,
      .drainReadbackDone (List.replicate 65 .equal), .spwConversion 1200000001, .transientEnd 8,
      .pageFaultComplete 32768 good, .windowRead 0 0 good, .windowRead (2 ^ 28) 4 good, .sqTailDoorbell 0 0 0, .sqTailDoorbell 1024 0 4,
      .cqHeadDoorbell 1024 0 4, .descriptorReadComplete 0 (.descriptors [[]]) 0,
      .anchorAck 0 (some (List.replicate 4097 0)) .done, .recordWrite 0 (some (List.replicate 129 0)),
      .issuerSet 0 (some []) .done .done, .beatPrepareStart 0 0 ⟨true, 0, none⟩, .beatPrepareStart 0 33 ⟨true, 0, none⟩, .beatPrepareStart 0 1 ⟨true, 0, some 32⟩, .classWarm 0,
      .classWarm 256, .glzHello (List.replicate 1025 0) .done .done, .glzProve [] .done, .glzRead nextFrame (2 ^ 32) 4 good,
      .glzRead nextFrame 0 65536 good, .glzCertRead nextFrame 256, .glzStageToken nextFrame [] .done good,
      .glzStageLabel nextFrame (2 ^ 32) (List.replicate 32 0) good, .glzStageLabel nextFrame 0 [] good,
      .pcieLinkUp 0 1 false, .pcieLinkUp 5 1 false, .pcieLinkUp 1 3 false, .msixUnmask (some 1025),
      .mspRead (List.replicate 68 0) 0, .mspWrite (List.replicate 68 0) 0] : List Instr).all
      (fun i => !i.wellFormed) = true := by decide +kernel

theorem test_well_formed_accepted :
    ([.registerWrite .pcie 0x14 7 none, .windowRead 0x80 8 good, .sqTailDoorbell 0 1 4, .unitRestart .pcie 130,
      .glzStageToken nextFrame token .done good, .pcieLinkUp 4 8 true] : List Instr).all Instr.wellFormed = true := by
  decide +kernel

/-! ## The hypotheses of each statement are met -/

set_option linter.unusedVariables false

theorem meets_VigilRailAndVbat :
    (∃ (s : State) (src : VigilSource), s.mode = .unpowered) ∧
    (∃ (s : State) (dst : VigilSource), s.mode ≠ .unpowered) ∧
    (∃ s : State, s.still) ∧
    (∃ s : State, s.mode ≠ .unpowered) ∧
    (∃ s : State, s.mode ≠ .unpowered) ∧
    (∃ (s : State) (b : Bool), s.mode ≠ .unpowered) :=
  ⟨⟨State.reset, .vbat, by decide +kernel⟩,
    ⟨asleep, .vbat, by decide +kernel⟩,
    ⟨asleep, by simp only [State.still]; decide +kernel⟩,
    ⟨asleep, by decide +kernel⟩,
    ⟨asleep, by decide +kernel⟩,
    ⟨{ asleep with vig := { asleep.vig with source := .vio18 } }, true, by decide +kernel⟩⟩

theorem meets_DetectorsEnterVigil :
    (∃ s : State, s.powered = true ∧ s.still) ∧
    (∃ (s : State) (ns : Nat), s.powered = true ∧ s.still ∧ 10 ≤ ns) ∧
    (∃ s : State, s.powered = true ∧ s.still) :=
  ⟨⟨serving 1, by simp only [State.still]; decide +kernel⟩,
    ⟨serving 1, 10, by simp only [State.still]; decide +kernel⟩,
    ⟨serving 1, by simp only [State.still]; decide +kernel⟩⟩

theorem meets_RefclkLossAndColdStart :
    ∃ s : State, s.mode = .vigil ∧ s.still :=
  ⟨asleep, by simp only [State.still]; decide +kernel⟩

theorem meets_TamperLatchesInVigil :
    (∃ (s : State) (a b : BitVec 8) (ns : Nat), s.mode = .vigil ∧ s.still ∧ 1000 ≤ ns ∧
      (a ||| b) &&& s.vig.armed &&& ~~~ s.vig.latched ≠ 0) ∧
    (∃ (s : State) (a b : BitVec 8) (ns : Nat), s.mode = .vigil ∧ ns < 500) :=
  ⟨⟨asleep, 1, 0, 1000, by simp only [State.still]; decide +kernel⟩,
    ⟨asleep, 1, 0, 499, by decide +kernel⟩⟩

theorem meets_ZeroizationCompletes :
    ∃ s : State, s.running = true ∧ s.vig.zeroPending = true ∧ s.life.retireWait = false :=
  ⟨{ serving 1 with vig := { (serving 1).vig with zeroPending := true } }, by decide +kernel⟩

theorem meets_GoAndSnapRequests :
    (∃ (s : State) (r : GoWrite), s.running = true ∧ s.hears r.by_ = true ∧ s.mode = .stage ∧
      (r.met = false ∨ s.vig.causes = [])) ∧
    (∃ (s : State) (r : GoWrite), s.running = true ∧ s.hears r.by_ = true ∧ r.met = true ∧ s.vig.causes ≠ []) ∧
    (∃ (s : State) (r : Requester), s.running = true ∧ s.hears r = true ∧ s.mode = .service ∧
      s.mod.snapWrite = none ∧ s.vig.snapGen ≠ 0xFFFFFFFF ∧ s.hasKeys = true ∧ s.spw.early = false) ∧
    (∃ s : State, s.running = true ∧ s.mod.snapTimer.isSome = true ∧ s.mod.preludeOn = false ∧
      s.mod.snapWrite = none ∧ s.vig.snapGen ≠ 0xFFFFFFFF ∧ s.hasKeys = true ∧ s.spw.early = false) :=
  ⟨⟨staging [1], ⟨.pcie, false⟩, by decide +kernel⟩,
    ⟨{ serving 1 with vig := { (serving 1).vig with causes := [.hostRequest] } }, ⟨.pcie, true⟩, by decide +kernel⟩,
    ⟨serving 1, .msp, by decide +kernel⟩,
    ⟨{ serving 1 with mod := { staged with snapTimer := some 5 } }, by decide +kernel⟩⟩

theorem meets_SnapshotWriteAnchors :
    (∃ (s : State) (w : SnapWrite), s.running = true ∧ s.mod.snapWrite = some w ∧ s.mod.snapPending = false) ∧
    (∃ (s : State) (w : SnapWrite), s.running = true ∧ s.mod.snapWrite = some w ∧ w.second = false) ∧
    (∃ (s : State) (w : SnapWrite), s.running = true ∧ s.mod.snapWrite = some w ∧ w.second = true ∧
      s.mod.snapPending = false) :=
  ⟨⟨snapping false, ⟨snap, 3, false⟩, by decide +kernel⟩,
    ⟨snapping false, ⟨snap, 3, false⟩, by decide +kernel⟩,
    ⟨snapping true, ⟨snap, 3, true⟩, by decide +kernel⟩⟩

theorem meets_WarmStarts :
    (∃ (s : State) (pcie msp : Bool), s.running = true ∧ s.hears .msp = true ∧ s.mode = .service ∧
      (pcie || msp) = true) ∧
    (∃ s : State, s.running = true ∧ s.mode = .service ∧ s.links.perstN = true) ∧
    (∃ s : State, s.running = true ∧ s.mode = .stage ∧ s.mod.preludeOn = true ∧ s.still ∧ s.preludeBusy = false) ∧
    (∃ s : State, s.running = true ∧ s.preludeBusy = true) :=
  ⟨⟨serving 1, true, true, by decide +kernel⟩,
    ⟨serving 1, by decide +kernel⟩,
    ⟨{ staging [] with mod := { Mod.start with preludeOn := true } }, by simp only [State.still]; decide +kernel⟩,
    ⟨snapping false, by decide +kernel⟩⟩

theorem meets_QuarantineExit :
    (∃ s : State, s.running = true ∧ s.mode = .quarantine ∧ s.mod.readHost = true ∧
      (s.mod.quarCause ≠ some .anchorLost ∨ s.mod.ackDone = true) ∧
      (s.vig.wrongA ||| s.vig.wrongB) &&& s.vig.armed = 0) ∧
    (∃ s : State, s.running = true ∧ s.mode = .quarantine ∧
      (s.mod.readHost = false ∨ (s.mod.quarCause = some .anchorLost ∧ s.mod.ackDone = false))) :=
  ⟨⟨fullQuarantine .hostRequest, by decide +kernel⟩,
    ⟨{ fullQuarantine .anchorLost with mod := { (fullQuarantine .anchorLost).mod with ackDone := false } },
      by decide +kernel⟩⟩

theorem meets_QuarantineRequests :
    (∃ (s : State) (pcie msp : Bool), s.running = true ∧ s.hears .msp = true ∧ s.mode = .service ∧
      (pcie || msp) = true) ∧
    (∃ s : State, s.running = true ∧ s.mode ≠ .service) ∧
    (∃ s : State, s.running = true ∧ s.mode = .quarantine ∧ s.links.perstN = true) :=
  ⟨⟨serving 1, true, false, by decide +kernel⟩,
    ⟨staging [1], by decide +kernel⟩,
    ⟨quarantined .anchorLost false, by decide +kernel⟩⟩

theorem meets_StageSteps1And2 :
    (∃ (s : State) (straps : BitVec 6), s.stageNext = some 1 ∧ s.mod.done.length < 9) ∧
    (∃ (s : State) (straps : BitVec 6), s.running = true) ∧
    (∃ s : State, s.stageNext = some 2 ∧ s.mod.done.length < 9 ∧ s.vig.causes = [] ∧ ((s.otp.resolve
      s.vig.record).broken || (s.otp.resolve s.vig.record).skips || !s.shadowAgrees (s.otp.resolve
      s.vig.record).stateOf) = false ∧ (s.otp.resolve s.vig.record).stateOf ≠ 4 ∧
      (∀ k ∈ s.otp.blocks, k.marker = false) ∧ s.mod.cause.quarExit = false) ∧
    (∃ s : State, s.stageNext = some 2 ∧ s.mod.done.length < 9 ∧ s.still ∧ s.mod.cause.quarExit = false ∧
      ((s.otp.resolve s.vig.record).broken || (s.otp.resolve s.vig.record).skips || !s.shadowAgrees (s.otp.resolve
      s.vig.record).stateOf) = true ∧ s.keyBlock.marker = false) :=
  ⟨⟨staging [], 3, by decide +kernel⟩,
    ⟨staging [], 3, by decide +kernel⟩,
    ⟨{ staging [1] with vig := { Vigil.empty with shadow := some 1 } }, by decide +kernel⟩,
    ⟨{ staging [1] with vig := { Vigil.empty with shadow := some 2 } }, by simp only [State.still]; decide +kernel⟩⟩

theorem meets_StageStep3 :
    (∃ (s : State) (ecc sha : BitVec 8) (aes : BitVec 32), s.stageNext = some 3 ∧ s.mod.done.length < 9 ∧
      ecc ≠ 0xFF ∧ sha ≠ 0xFF) ∧
    (∃ (s : State) (ecc sha : BitVec 8) (aes : BitVec 32), s.stageNext = some 3 ∧ s.vig.causes = [] ∧
      (ecc = 0xFF ∨ sha = 0xFF)) :=
  ⟨⟨staging [1, 2], 0, 0, 0, by decide +kernel⟩,
    ⟨staging [1, 2], 0xFF, 0, 0, by decide +kernel⟩⟩

theorem meets_StageStep4 :
    (∃ (s : State) (boot record : Sfdp) (a b : SlotVerdict), s.stepDue 4 = true ∧ s.mod.done.length < 9 ∧
      sfdpBoot boot = true ∧ sfdpRecord record = true ∧ s.verifySlot s.flash.slotA a = 15) ∧
    (∃ (s : State) (boot record : Sfdp) (a b : SlotVerdict), s.stepDue 4 = true ∧ s.mod.done.length < 9 ∧
      sfdpBoot boot = true ∧ sfdpRecord record = true ∧ s.verifySlot s.flash.slotA a ≠ 15 ∧
      s.verifySlot s.flash.slotB b = 15) ∧
    (∃ (s : State) (boot record : Sfdp) (a b : SlotVerdict), s.stepDue 4 = true ∧ s.vig.causes = [] ∧
      sfdpBoot boot = true ∧ sfdpRecord record = true ∧ s.verifySlot s.flash.slotA a ≠ 15 ∧
      s.verifySlot s.flash.slotB b ≠ 15) ∧
    (∃ (s : State) (boot record : Sfdp) (a b : SlotVerdict), s.stepDue 4 = true ∧ s.vig.causes = [] ∧
      (sfdpBoot boot && sfdpRecord record) = false) :=
  ⟨⟨booting, sfdp, sfdp, noReadErr, noReadErr, by decide +kernel, by decide +kernel, by decide +kernel,
    by decide +kernel, image_valid rfl rfl rfl⟩,
    ⟨bootingB, sfdp, sfdp, noReadErr, noReadErr, by decide +kernel, by decide +kernel, by decide +kernel,
      by decide +kernel, by decide +kernel, image_valid rfl rfl rfl⟩,
    ⟨staging [1, 2, 3], sfdp, sfdp, noReadErr, noReadErr, by decide +kernel⟩,
    ⟨staging [1, 2, 3], { sfdp with readable := false }, sfdp, noReadErr, noReadErr, by decide +kernel⟩⟩

theorem meets_StageSteps5And6 :
    (∃ s : State, s.stepDue 5 = true ∧ s.mod.done.length < 9 ∧ s.links.straps.getLsbD 5 = false ∧
      strapGib s.links.straps ≤ 16) ∧
    (∃ s : State, s.stepDue 5 = true ∧ s.vig.causes = []) ∧
    (∃ (s : State) (r : Recipe), s.stageNext = some 6 ∧ s.mod.done.length < 9 ∧ s.rcp.pendingRcp = some r ∧
      (s.vig.wrongA ||| s.vig.wrongB) &&& (s.vig.armed ||| r.tamperMask) = 0) :=
  ⟨⟨staging [1, 2, 3], by decide +kernel⟩,
    ⟨staging [1, 2, 3], by decide +kernel⟩,
    ⟨loading, { recipe 1 with tamperMask := 1 }, by decide +kernel⟩⟩

theorem meets_StageSteps7And8 :
    (∃ (s : State) (x : Snapshot), s.stageNext = some 7 ∧ s.mod.done.length < 9 ∧ s.hasKeys = true ∧
      s.snapCheck = .accepted x) ∧
    (∃ (s : State) (invalid mismatch : Bool), s.stageNext = some 7 ∧ s.mod.done.length < 9 ∧ s.hasKeys = true ∧
      s.snapCheck = .refused invalid mismatch) ∧
    (∃ s : State, s.stageNext = some 7 ∧ s.mod.done.length < 9 ∧ s.hasKeys = true ∧ s.snapCheck = .absent) ∧
    (∃ s : State, s.stageNext = some 7 ∧ s.mod.done.length < 9 ∧ s.hasKeys = false) ∧
    (∃ s : State, s.stageNext = some 8 ∧ s.mod.done.length < 9 ∧ s.hasKeys = false) ∧
    (∃ s : State, s.stageNext = some 8 ∧ s.mod.done.length < 9 ∧ s.hasKeys = true ∧ s.vig.anchorOk = false ∧
      s.flash.ring = [] ∧ s.flash.ckpt0 = none ∧ s.flash.ckpt1 = none ∧ s.otp.ratchet = 0) :=
  ⟨⟨restoring 1, ourSnap, by decide +kernel, by decide +kernel, by decide +kernel, snapCheck_restoring 1⟩,
    ⟨restoring 2, false, true, by decide +kernel, by decide +kernel, by decide +kernel, snapCheck_restoring 2⟩,
    ⟨staging [1, 2, 3, 4, 5, 6], by decide +kernel⟩,
    ⟨keyless [1, 2, 3, 4, 5, 6], by decide +kernel⟩,
    ⟨keyless [1, 2, 3, 4, 5, 6, 7], by decide +kernel⟩,
    ⟨staging [1, 2, 3, 4, 5, 6, 7], by decide +kernel⟩⟩

theorem meets_StageStep9 :
    ∃ s : State, s.stageNext = some 9 ∧ s.mod.inStep9 = false ∧ (∀ i < 4, s.inst i = .start) ∧
      (∀ o ∈ s.sch.ops, o.phase ≠ .gather) ∧ (∀ u ∈ shaUnits, (s.unit u).st = .active) ∧
      (s.chanOn .a || s.chanOn .b) = true ∧ s.ent.a.state = 0 ∧ s.ent.b.state = 0 ∧ s.ent.a.wasFailed = false ∧
      s.ent.b.wasFailed = false :=
  ⟨withRecipe (staging [1, 2, 3, 4, 5, 6, 7, 8]), by decide +kernel⟩

theorem meets_StageEndsInService :
    (∃ s : State, s.stageNext = some 10 ∧ s.mod.done.length = 9 ∧ s.vig.causes = [] ∧ s.hasKeys = false) ∧
    (∃ (s : State) (x : HeaderReads) (i : Nat) (h : Header), s.stageNext = some 10 ∧ s.mod.done.length = 9 ∧
      s.vig.causes = [] ∧ s.hasKeys = true ∧ s.pickHeader x = some (i, h)) ∧
    (∃ s : State, s.running = true ∧ s.mode = .stage ∧ s.mod.preludeOn = false ∧ s.mod.stageDone = true ∧
      s.vig.causes = [] ∧ s.goGiven = true) :=
  ⟨⟨keyless [1, 2, 3, 4, 5, 6, 7, 8, 9], by decide +kernel⟩,
    ⟨imaged, ⟨true, true⟩, 1, header imaged, by decide +kernel, by decide +kernel, by decide +kernel,
      by decide +kernel, imaged_pick⟩,
    ⟨{ serving 1 with mode := .stage }, by decide +kernel⟩⟩

theorem meets_ReadsHaveTheirSideEffects :
    (∃ (s u : State) (r : Requester) (off : Nat) (w : Word), s.running = true ∧ s.hears r = true ∧ off % 4 = 0 ∧
      s.offLoaded off = true ∧ s.reg r off = some (.clears w u)) ∧
    (∃ (s u : State) (r : Requester) (off : Nat) (w : Word) (ws : List Word), s.running = true ∧ s.hears r = true ∧
      off % 4 = 0 ∧ s.offLoaded off = true ∧ s.reg r off = some (.lowest w ws u)) :=
  ⟨⟨serving 1, (match (serving 1).reg .pcie 0x300000 with | some (.clears _ u) => u | _ => serving 1), .pcie,
    0x300000, 0, by decide +kernel⟩,
    ⟨serving 1, serving 1, .pcie, 8, 100, [0], by decide +kernel⟩⟩

theorem meets_CounterAndTickReads :
    (∃ (s : State) (r : Requester), s.running = true ∧ s.hears r = true ∧ s.stepDone 1 = true) ∧
    (∃ (s : State) (r : Requester), s.running = true ∧ s.hears r = true ∧ s.stepDone 1 = true) :=
  ⟨⟨serving 1, .pcie, by decide +kernel⟩,
    ⟨serving 1, .msp, by decide +kernel⟩⟩

theorem meets_ReadsWithRowsOfTheirOwn :
    (∃ (s : State) (r : Requester), s.running = true ∧ s.hears r = true ∧ s.mode = .quarantine) ∧
    (∃ (s : State) (r : Requester), s.running = true ∧ s.hears r = true ∧ s.rcpLoaded = true) ∧
    (∃ (s : State) (r : Requester), s.running = true ∧ s.hears r = true ∧ s.mod.begun.contains 8 = true) ∧
    (∃ (s : State) (r : Requester) (ch : Channel), s.running = true ∧ s.hears r = true ∧
      s.mod.begun.contains 9 = true) ∧
    (∃ (s : State) (r : Requester), s.running = true ∧ s.hears r = true ∧ s.stepDone 1 = true) :=
  ⟨⟨fullQuarantine .tamper, .pcie, by decide +kernel⟩,
    ⟨serving 1, .pcie, by decide +kernel⟩,
    ⟨serving 1, .pcie, by decide +kernel⟩,
    ⟨serving 1, .pcie, .b, by decide +kernel⟩,
    ⟨serving 1, .pcie, by decide +kernel⟩⟩

theorem meets_RngDataReads :
    (∃ (s : State) (r : Requester) (i : Nat), s.running = true ∧ s.hears r = true ∧ s.stepDone 9 = true ∧
      s.server 0 = some i ∧ 4 ≤ (s.inst i).buf.length) ∧
    (∃ (s : State) (r : Requester), s.running = true ∧ s.hears r = true ∧ s.stepDone 9 = true ∧
      (∀ i, s.server 0 = some i → (s.inst i).buf.length < 4)) :=
  ⟨⟨drawn, .pcie, 0, by decide +kernel⟩,
    ⟨serving 1, .pcie, by decide +kernel⟩⟩

theorem meets_HolesAndWidths :
    (∃ (s : State) (r : Requester) (off : Nat), s.running = true ∧ s.hears r = true ∧ off % 4 = 0 ∧
      s.reg r off = none) ∧
    (∃ (s : State) (r : Requester) (off : Nat), s.running = true ∧ s.hears r = true ∧ off % 4 = 0 ∧
      s.reg r off = none) ∧
    (∃ (s : State) (off : Nat), s.running = true) ∧
    (∃ (s : State) (off : Nat), s.running = true) :=
  ⟨⟨serving 1, .pcie, 0x3F0000, by decide +kernel⟩,
    ⟨serving 1, .pcie, 0x3F0000, by decide +kernel⟩,
    ⟨serving 1, 0, by decide +kernel⟩,
    ⟨serving 1, 0, by decide +kernel⟩⟩

theorem meets_RegisterWrites :
    (∃ (s : State) (w : Word), s.running = true ∧ s.stepDone 1 = true ∧ s.quiet) ∧
    (∃ (s : State) (w : Word), s.running = true ∧ s.stepDone 6 = true ∧ s.quiet ∧ fld w 4 0 ≤ 16 ∧
      fld w 4 0 ≠ s.kept.lead) ∧
    (∃ (s : State) (w : Word), s.running = true ∧ s.stepDone 6 = true ∧ s.quiet ∧ 16 < fld w 4 0) ∧
    (∃ (s : State) (off : Nat) (w : Word), s.running = true ∧ s.quiet ∧ off % 4 = 0 ∧ s.reg .pcie off = none) ∧
    (∃ (s : State) (lo hi : Word), s.running = true ∧ s.quiet ∧ s.stepDone 6 = true ∧ (s.queue 0).state ≠ 0) ∧
    (∃ (s : State) (lo hi : Word), s.running = true ∧ s.quiet ∧ s.stepDone 6 = true ∧ (s.queue 0).state = 0) :=
  ⟨⟨serving 1, 7, by simp only [quiet_iff]; decide +kernel⟩,
    ⟨serving 1, 7, by simp only [quiet_iff]; decide +kernel⟩,
    ⟨serving 1, 17, by simp only [quiet_iff]; decide +kernel⟩,
    ⟨serving 1, 0x3F0000, 7, by simp only [quiet_iff]; decide +kernel⟩,
    ⟨serving 1, 1, 2, by simp only [quiet_iff]; decide +kernel⟩,
    ⟨disabled, 0x1000, 2, by simp only [quiet_iff]; decide +kernel⟩⟩

theorem meets_IrqEnableWrites :
    (∃ (s : State) (v : Word), s.running = true ∧ s.stepDone 1 = true ∧ (v.truncate 13 : BitVec 13) ≠ s.kept.irqEn ∧
      (v.truncate 13 : BitVec 13) &&& ~~~ s.kept.irqEn &&& s.irqStat = 0) ∧
    (∃ (s : State) (v : Word), s.running = true ∧ s.stepDone 1 = true ∧ s.vectorMasked 1024 = false ∧
      s.canMaster = true ∧ (v.truncate 13 : BitVec 13) &&& ~~~ s.kept.irqEn &&& s.irqStat ≠ 0) ∧
    (∃ (s : State) (v : Word), s.running = true ∧ s.hears .msp = true) :=
  ⟨⟨serving 1, 7, by decide +kernel⟩,
    ⟨masking, 4, by decide +kernel⟩,
    ⟨serving 1, 7, by decide +kernel⟩⟩

theorem meets_MaintenanceFrames :
    (∃ (s u : State) (h a : Word), s.running = true ∧ s.hears .msp = true ∧ mspHeaderOk h = true ∧ mspOp h = 1 ∧
      (s.mspReadWords a.toNat (mspCount h)).2 = u ∧ u.quiet) ∧
    (∃ (s : State) (w : Word), s.running = true ∧ s.hears .msp = true ∧ s.quiet ∧
      (w.truncate 4 : BitVec 4) ≠ s.kept.attnEn) ∧
    (∃ (s : State) (h a w c : Word), s.running = true ∧ s.hears .msp = true ∧ s.quiet ∧ mspHeaderOk h = true ∧
      mspOp h = 2 ∧ mspCount h = 1 ∧ c ≠ crc32c (frameOctets [h, a, w])) :=
  ⟨⟨serving 1, ((serving 1).mspReadWords 0x10 1).2, 0x01010000, 0x10, by simp only [quiet_iff]; decide +kernel⟩,
    ⟨serving 1, 3, by simp only [quiet_iff]; decide +kernel⟩,
    ⟨serving 1, 0x02010000, 0x2E0008, 3, 0, by simp only [quiet_iff]; decide +kernel⟩⟩

theorem meets_DescriptorRefusals :
    ∃ (s : State) (q : Nat) (h : Fetched) (st : Status) (b : Option Bytes) (x y : EngineResult) (c : Nat × Instr),
      s.running = true ∧ s.quiet ∧ s.canMaster = true ∧ (s.queue q).buf.head? = some h ∧ s.winner = some q ∧
      s.hostUsed < 3584 ∧ (∀ f ∈ (s.queue q).buf, opcodeClass f.desc.opcode ≠ none) ∧ c ∈ [(0x01, .verify q), (0x10,
      .consume q), (0x11, .increment q), (0x30, .tagRead q), (0x31, .tagWrite q), (0x40, .identify q b), (0x42,
      .anchorAck q b x), (0x43, .limitSet q), (0x44, .recordRead q), (0x45, .recordWrite q b), (0x46, .recordFree q),
      (0x47, .issuerSet q b x y)] ∧ h.desc.opcode = c.1 ∧ s.refusal q h.desc = some st :=
  ⟨(serving 1).holding incDesc, 0, fetch incDesc, .notPermitted, none, .done, .done, (0x11, .increment 0),
    by simp only [quiet_iff]; decide +kernel⟩

theorem meets_PositionDescriptors :
    (∃ (s : State) (q : Nat) (h : Fetched), s.Begins q 0x01 h ∧ s.posGate h.desc h.desc.unverified = none ∧
      h.desc.param0 = 0 ∧ s.auth h.desc.port h.desc.position = none) ∧
    (∃ (s : State) (q : Nat) (h : Fetched), s.Begins q 0x01 h ∧ s.posGate h.desc h.desc.unverified = none ∧
      h.desc.param0 = 1 ∧ (s.pos h.desc.port h.desc.position).session.isSome = true) ∧
    (∃ (s : State) (q : Nat) (h : Fetched), s.Begins q 0x30 h ∧ s.posGate h.desc h.desc.unverified = none) ∧
    (∃ (s : State) (q : Nat) (h : Fetched), s.Begins q 0x31 h ∧ s.posGate h.desc h.desc.unverified = none) ∧
    (∃ (s : State) (q : Nat) (h : Fetched) (st : Status) (c : Nat × Instr),
      c ∈ [(0x01, .verify q), (0x30, .tagRead q), (0x31, .tagWrite q)] ∧ s.Begins q c.1 h ∧
      s.posGate h.desc h.desc.unverified = some st) :=
  ⟨⟨atTag 1 (posDesc 1), 0, fetch (posDesc 1), by simp only [begins_iff]; decide +kernel⟩,
    ⟨atTag 1 { posDesc 1 with param0 := 1 }, 0, fetch { posDesc 1 with param0 := 1 },
      by simp only [begins_iff]; decide +kernel⟩,
    ⟨atTag 4 { posDesc 0x30 with bufLen := 16 }, 0, fetch { posDesc 0x30 with bufLen := 16 },
      by simp only [begins_iff]; decide +kernel⟩,
    ⟨atTag 4 (posDesc 0x31), 0, fetch (posDesc 0x31), by simp only [begins_iff]; decide +kernel⟩,
    ⟨((serving 1).withTag { tag with verdict := 3 }).holding (posDesc 1), 0, fetch (posDesc 1), .notGenuine, (0x01,
      .verify 0), by simp only [begins_iff]; decide +kernel⟩⟩

theorem meets_CounterDescriptors :
    (∃ (s : State) (q n : Nat) (h : Fetched), s.Begins q 0x10 h ∧ s.commitsNow ∧
      s.posGate h.desc (some .retryLater) = none ∧ (s.pos h.desc.port h.desc.position).record = some n ∧
      s.pageThere (recordPage n) ∧ s.counterExists n = true ∧ s.count n < s.limit n ∧ s.count n < max48) ∧
    (∃ (s : State) (q : Nat) (h : Fetched), s.Begins q 0x11 h ∧ s.commitsNow ∧
      s.count h.desc.target.toNat < s.limit h.desc.target.toNat ∧ s.count h.desc.target.toNat < max48) ∧
    (∃ (s : State) (q : Nat) (h : Fetched), s.Begins q 0x11 h ∧ s.cnt.queue = [] ∧ s.cnt.busy = none ∧
      s.cnt.ready = true ∧ s.mode = .service ∧ s.limit h.desc.target.toNat ≤ s.count h.desc.target.toNat) ∧
    (∃ (s : State) (q : Nat) (h : Fetched), s.Begins q 0x43 h ∧ s.commitsNow ∧ globalBase ≤ h.desc.target.toNat ∧
      s.count h.desc.target.toNat ≤ h.desc.param1.toNat) :=
  ⟨⟨atTag 2 (posDesc 0x10), 0, 3, fetch (posDesc 0x10),
    by simp only [begins_iff, State.pageThere, State.commitsNow]; decide +kernel⟩,
    ⟨atTag 2 incDesc, 0, fetch incDesc, by simp only [begins_iff, State.commitsNow]; decide +kernel⟩,
    ⟨(atTag 2 incDesc).setCounts ⟨[], [(0, (9, 9))]⟩, 0, fetch incDesc, by simp only [begins_iff]; decide +kernel⟩,
    ⟨atTag 5 limDesc, 0, fetch limDesc, by simp only [begins_iff, State.commitsNow]; decide +kernel⟩⟩

theorem meets_CommitsComplete :
    (∃ (s : State) (e : Entry) (c : Commit) (o : Op), s.running = true ∧ s.quiet ∧ s.canMaster = true ∧
      s.cnt.busy = some e ∧ s.cnt.queue = [c] ∧ c.owner = .host o.ctx ∧ s.op o.ctx = some o ∧ o.desc.opcode = 0x11 ∧
      e.typ = 1 ∧ e.cause = 2 ∧ e.id = o.record ∧
      (∀ x ∈ s.sch.ops, x.ctx ≠ o.ctx → x.committed = true → x.record ≠ e.id)) ∧
    (∃ (s : State) (e : Entry) (c : Commit) (o : Op), s.running = true ∧ s.quiet ∧ s.canMaster = true ∧
      s.cnt.busy = some e ∧ s.cnt.queue = [c] ∧ c.owner = .host o.ctx ∧ s.op o.ctx = some o ∧ o.desc.opcode = 0x43 ∧
      o.committed = false ∧ e.typ = 2 ∧ e.id = o.record) ∧
    (∃ (s : State) (e : Entry) (c : Commit) (o : Op), s.running = true ∧ s.quiet ∧ s.cnt.busy = some e ∧
      s.cnt.queue = [c] ∧ c.owner = .host o.ctx ∧ s.op o.ctx = some o ∧ o.desc.opcode = 0x10 ∧ e.typ = 1 ∧
      e.cause = 1 ∧ tabFind s.cnt.visible e.id = none ∧ s.unitIs o.desc.port .active = true ∧
      (s.port o.desc.port).state ≠ .fault ∧ (s.pos o.desc.port o.desc.position).session.isSome = true) :=
  ⟨⟨committing 0x11 262144 1 2 6, entry 262144 1 2 6, commitAsk 262144 1 2 6, commitOp 0x11 262144,
    by simp only [quiet_iff]; decide +kernel⟩,
    ⟨committing 0x43 262144 2 1 8, entry 262144 2 1 8, commitAsk 262144 2 1 8, commitOp 0x43 262144,
      by simp only [quiet_iff]; decide +kernel⟩,
    ⟨committing 0x10 3 1 1 3, entry 3 1 1 3, commitAsk 3 1 1 3, commitOp 0x10 3,
      by simp only [quiet_iff]; decide +kernel⟩⟩

theorem meets_RecordDescriptors :
    (∃ (s : State) (q : Nat) (h : Fetched), s.Begins q 0x44 h ∧ s.ldr.isOpen = true ∧
      h.desc.param1.toNat + h.desc.bufLen ≤ 256 * s.ldr.capacity ∧ h.desc.param1.toNat + h.desc.bufLen ≤ 0x04000000 ∧
      h.desc.param1.toNat % 4096 + h.desc.bufLen ≤ 4096 ∧ 0 < h.desc.bufLen ∧
      s.pageThere (h.desc.param1.toNat / 4096)) ∧
    (∃ (s : State) (q : Nat) (h : Fetched) (b : Bytes), s.Begins q 0x45 h ∧ h.desc.target.toNat < s.ldr.capacity ∧
      0x80 ≤ h.desc.param0.toNat ∧ h.desc.param0.toNat + h.desc.bufLen ≤ 0x100 ∧
      (s.record h.desc.target.toNat).state = 1 ∧ s.ldr.locked.contains h.desc.target.toNat = false ∧
      s.pageThere (recordPage h.desc.target.toNat)) ∧
    (∃ (s : State) (q : Nat) (h : Fetched), s.Begins q 0x46 h ∧ h.desc.target.toNat < s.ldr.capacity ∧
      (s.record h.desc.target.toNat).state = 1 ∧ s.counterClear h.desc.target.toNat = true ∧
      s.mappedAt h.desc.target.toNat = none ∧ s.ldr.locked.contains h.desc.target.toNat = false ∧
      s.pageThere (recordPage h.desc.target.toNat) ∧ s.pageThere (indexPageOf (s.record h.desc.target.toNat).tagId)) :=
  ⟨⟨atTag 5 readDesc, 0, fetch readDesc, by simp only [begins_iff, State.pageThere]; decide +kernel⟩,
    ⟨atTag 5 writeDesc, 0, fetch writeDesc, [1, 2, 3, 4], by simp only [begins_iff, State.pageThere]; decide +kernel⟩,
    ⟨freeing, 0, fetch freeDesc, (begins_iff _ _ _ _).2 (by decide +kernel), by decide +kernel, by decide +kernel,
      by decide +kernel, by decide +kernel, by decide +kernel, by simp only [State.pageThere]; decide +kernel,
      there_indexing (by decide +kernel)⟩⟩

theorem meets_IssuerAndToken :
    (∃ (s : State) (q k : Nat) (h : Fetched) (b : Bytes), s.Begins q 0x47 h ∧
      (s.idleEcc (s.affinity q)).isSome = true ∧ (∀ p ∈ issuerPages, s.pageThere p) ∧ s.issuerJudge b = some k ∧
      s.spw.early = false ∧ s.ldr.holdoff = none) ∧
    (∃ (s : State) (q : Nat) (h : Fetched) (b : Bytes), s.Begins q 0x42 h ∧
      (s.idleEcc (s.affinity q)).isSome = true ∧ s.ackOk b = true ∧ s.commitOpen = true ∧ s.cnt.reinitDue = false ∧
      (∀ e ∈ ackFloors b, e.2 ≤ s.count e.1)) ∧
    (∃ (s : State) (q id v : Nat) (h : Fetched) (b : Bytes), s.Begins q 0x42 h ∧
      (s.idleEcc (s.affinity q)).isSome = true ∧ s.ackOk b = true ∧ s.commitOpen = true ∧ s.cnt.reinitDue = false ∧
      ackFloors b = [(id, v)] ∧ s.count id < v ∧ s.vig.buffer.length < 64 ∧ s.cnt.ready = true ∧ s.cnt.queue = [] ∧
      s.cnt.busy = none) :=
  ⟨⟨issuing, 0, 0, fetch issuerDesc, issuerBlock, (begins_iff _ _ _ _).2 (by decide +kernel), by decide +kernel,
    by simp only [State.pageThere]; decide +kernel, issuerJudge_witness, by decide +kernel, by decide +kernel⟩,
    ⟨acking ackDesc, 0, fetch ackDesc, ackBlock 0 [], (begins_iff _ _ _ _).2 (by decide +kernel), by decide +kernel,
      ackOk_witness, by decide +kernel, by decide +kernel, by decide +kernel⟩,
    ⟨acking ackDesc1, 0, 262144, 9, fetch ackDesc1, ackBlock 1 floor9, (begins_iff _ _ _ _).2 (by decide +kernel),
      by decide +kernel, ackOk_floor_witness, by decide +kernel, by decide +kernel, by decide +kernel,
      by decide +kernel, by decide +kernel, by decide +kernel, by decide +kernel, by decide +kernel⟩⟩

theorem meets_IdentifyAndRandom :
    (∃ (s : State) (q : Nat) (h : Fetched) (b r : Bytes), s.running = true ∧ s.canMaster = true ∧ s.Takes q 0x40 h ∧
      (s.idleEcc (s.affinity q)).isSome = true ∧ s.attest b = some r) ∧
    (∃ (s : State) (r : Bytes), s.running = true ∧ s.msp.mbox = some 1 ∧ s.stepDone 1 = true ∧
      (s.mode = .stage → s.stepDone 3 = true) ∧ s.attest (s.mboxRead 32) = some r) ∧
    (∃ (s : State) (q i : Nat) (h : Fetched), s.running = true ∧ s.canMaster = true ∧ s.Takes q 0x20 h ∧ s.prfQuiet ∧
      h.desc.fresh = false ∧ s.server (randomInst q) = some i ∧ h.desc.bufLen ≤ (s.inst i).buf.length) :=
  ⟨⟨(serving 5).holding idDesc, 0, fetch idDesc, [], _, by decide +kernel, by decide +kernel, (takes_iff _ _ _ _).2
    (by decide +kernel), by decide +kernel, attest_some (by decide +kernel) []⟩,
    ⟨{ serving 5 with msp := { Msp.start with mbox := some 1 } }, _, by decide +kernel, by decide +kernel,
      by decide +kernel, by decide +kernel, attest_some (by decide +kernel) _⟩,
    ⟨rolling, 0, 2, fetch rndDesc, by simp only [takes_iff, prfQuiet_iff]; decide +kernel⟩⟩

theorem meets_QueueControl :
    (∃ (s : State) (q : Nat), s.running = true ∧ s.quiet ∧ q < 1024 ∧ s.stepDone 6 = true ∧ s.mayEnable q = true) ∧
    (∃ (s : State) (q : Nat) (f : Fetched), s.running = true ∧ s.quiet ∧ s.canMaster = true ∧ q < 1024 ∧
      s.stepDone 6 = true ∧ (s.queue q).state = 1 ∧ (s.queue q).buf = [f] ∧ (s.queue q).evBufs = [] ∧
      s.inflight q = 0 ∧ s.heldFor q = 0 ∧ (∀ e ∈ s.sch.store, e.1 ≠ q)) ∧
    (∃ (s : State) (q : Nat) (v : BitVec 64), s.running = true ∧ q < 1024 ∧ (s.queue q).state = 1 ∧
      v.toNat % 4096 < (s.queue q).size) ∧
    (∃ (s : State) (q : Nat) (v : BitVec 64), s.running = true ∧ q < 1024 ∧ (s.queue q).state = 1 ∧
      (s.queue q).size ≤ v.toNat % 4096) ∧
    (∃ (s : State) (q : Nat) (v : BitVec 64), s.running = true ∧ q < 1024 ∧ (s.queue q).state = 1 ∧
      v.toNat % 4096 < (s.queue q).size ∧
      (v.toNat % 4096 + (s.queue q).size - (s.queue q).head) % (s.queue q).size ≤ (s.queue q).unread) ∧
    (∃ (s : State) (q : Nat), s.running = true ∧ q < 1024 ∧ (s.queue q).irqEn = true ∧ (s.queue q).unsent ≠ 0 ∧
      s.vectorMasked q = false ∧ s.canMaster = true) :=
  ⟨⟨disabled, 0, by simp only [quiet_iff]; decide +kernel⟩,
    ⟨(serving 1).holding (desc 1), 0, fetch (desc 1), by simp only [quiet_iff]; decide +kernel⟩,
    ⟨serving 1, 0, 5, by decide +kernel⟩,
    ⟨serving 1, 0, 16, by decide +kernel⟩,
    ⟨(serving 1).setQueue 0 { testRing with unread := 3 }, 0, 2, by decide +kernel⟩,
    ⟨(serving 1).setQueue 0 { testRing with unsent := 3, irqEn := true }, 0, by decide +kernel⟩⟩

theorem meets_DescriptorFetch :
    (∃ (s : State) (q rtt : Nat) (ds : List Bytes), s.running = true ∧ (s.mode ≠ .quarantine ∨ s.queueClass q = 5) ∧
      ds.length ≤ (s.queue q).reading ∧ 0 < (s.queue q).reading ∧
      (∀ b ∈ ds, s.isLate (parseDesc b) = false ∧ opcodeClass (parseDesc b).opcode ≠ none) ∧
      (∀ f ∈ (s.queue q).buf, opcodeClass f.desc.opcode ≠ none)) ∧
    (∃ (s : State) (q rtt : Nat) (b : Bytes), s.running = true ∧ s.canMaster = true ∧ s.mode = .quarantine ∧
      s.queueClass q ≠ 5 ∧ 0 < (s.queue q).reading ∧ (∀ f ∈ (s.queue q).buf, opcodeClass f.desc.opcode ≠ none)) ∧
    (∃ (s : State) (q rtt : Nat), s.running = true ∧ 0 < (s.queue q).reading) ∧
    (∃ (s : State) (q : Nat) (h : Fetched), s.running = true ∧ (s.queue q).buf.head? = some h ∧
      h.desc.opcode = 0x50 ∧ s.formRefusal q h.desc = none ∧
      (∀ f ∈ (s.queue q).buf, opcodeClass f.desc.opcode ≠ none) ∧ (∀ e ∈ s.sch.store, e.1 ≠ q)) ∧
    (∃ (s : State) (q : Nat) (h : Fetched) (r : Bytes), s.running = true ∧ s.canMaster = true ∧
      (s.queue q).buf = [h] ∧ h.desc.opcode = 0x50 ∧ s.formRefusal q h.desc = none ∧ (s.queue q).evBufs = [] ∧
      s.sch.store = [(q, r)]) :=
  ⟨⟨reading, 0, 1500, [descOctets 1, descOctets 0x10], by decide +kernel⟩,
    ⟨{ reading with mode := .quarantine }, 0, 1500, descOctets 1, by decide +kernel⟩,
    ⟨reading, 0, 1500, by decide +kernel⟩,
    ⟨events, 0, fetch evDesc, by decide +kernel⟩,
    ⟨{ events with sch := { events.sch with store := [(0, [1, 2, 3])] } }, 0, fetch evDesc, [1, 2, 3],
      by decide +kernel⟩⟩

theorem meets_PagesAndRounds :
    (∃ (s : State) (page : Nat) (chk : PageCheck), s.running = true ∧ s.quiet ∧ s.ldr.faults = [page] ∧
      s.poisoned page = false ∧ s.ldr.frames.length < 512 ∧ tabGet 0 s.ldr.versions page ≠ 0 ∧ s.inDdr page = true ∧
      chk.badNode = none ∧ chk.ddrOk = true ∧ chk.ddrCe = false ∧ chk.ddrUe = false ∧
      (page < 16384 → ∀ k < 16, s.counterClear (16 * page + k) = true) ∧ (∀ o ∈ s.sch.ops, o.phase ≠ .page page) ∧
      (∀ e ∈ s.auths, e.2.2.stage ≠ .bind ∧ e.2.2.stage ≠ .issuer)) ∧
    (∃ (s : State) (page : Nat) (chk : PageCheck), s.running = true ∧ s.quiet ∧ s.ldr.faults = [page] ∧
      s.poisoned page = false ∧ s.ldr.frames.length < 512 ∧ tabGet 0 s.ldr.versions page ≠ 0 ∧ s.inDdr page = true ∧
      chk.badNode = none ∧ chk.ddrOk = false ∧ (s.pageNewer page = true ∨ chk.flashOk = false) ∧ chk.ddrCe = false ∧
      chk.ddrUe = false ∧ (∀ o ∈ s.sch.ops, o.phase ≠ .page page) ∧
      (∀ e ∈ s.auths, e.2.2.stage ≠ .bind ∧ e.2.2.stage ≠ .issuer)) ∧
    (∃ s : State, s.running = true ∧ s.roundMay = true ∧ s.roundDue = true ∧ s.ldr.poisoned = []) ∧
    (∃ (s : State) (r : Round), s.running = true ∧ s.quiet ∧ s.ldr.running = some r ∧ r.needs = [] ∧
      s.recordSuspended = false) ∧
    (∃ (s : State) (r : Round), s.running = true ∧ s.quiet ∧ s.ldr.running = some r ∧ r.needs = [] ∧
      s.ldr.dirty = [] ∧ s.recordSuspended = false) ∧
    (∃ s : State, s.running = true) ∧
    (∃ (s : State) (n : Nat) (old : Record), s.running = true ∧ s.quiet ∧ s.ldr.locked = [n] ∧
      s.ldr.lockOld = [(n, old)] ∧ s.ldr.lockWait = [] ∧ s.ldr.parked = [] ∧ s.glz.commit = none ∧
      (s.record n).label ≠ old.label) :=
  ⟨⟨fetching, 2, good, by simp only [quiet_iff]; decide +kernel⟩,
    ⟨fetching, 2, bad, by simp only [quiet_iff]; decide +kernel⟩,
    ⟨dirtied, by decide +kernel⟩,
    ⟨rounding, round, by simp only [quiet_iff]; decide +kernel⟩,
    ⟨rounding, round, by simp only [quiet_iff]; decide +kernel⟩,
    ⟨{ rounding with ldr := { rounding.ldr with holdoff := some 3 } }, by decide +kernel⟩,
    ⟨lockedOut, 3, bound, by simp only [quiet_iff]; decide +kernel⟩⟩

theorem meets_EnginesReport :
    (∃ (s : State) (u : Nat), s.running = true ∧ s.quiet ∧ 128 ≤ u ∧ u < 168 ∧ s.unitIs u .active = true ∧
      (∀ e ∈ s.auths, e.2.2.unit ≠ some u)) ∧
    (∃ (s : State) (u : Nat), s.running = true ∧ s.quiet) ∧
    (∃ (s : State) (u p i : Nat) (a : Auth) (k : BitVec 256), s.running = true ∧ s.quiet ∧
      (s.auths.find? fun e => e.2.2.unit == some u) = some (p, i, a) ∧ s.auth p i = some a ∧ a.stage = .keys ∧
      a.owner = .auth ∧ a.priv = some k) ∧
    (∃ (s : State) (u p i why : Nat) (a : Auth), s.running = true ∧ s.quiet ∧
      (s.auths.find? fun e => e.2.2.unit == some u) = some (p, i, a) ∧ s.auth p i = some a ∧ a.stage = .verify ∧
      a.owner = .auth ∧ certLate (s.port p).profile.spuLimitMs a.key a.cert = some why) :=
  ⟨⟨serving 1, 130, by simp only [quiet_iff]; decide +kernel⟩,
    ⟨serving 1, 130, by simp only [quiet_iff]; decide +kernel⟩,
    ⟨authing .keys, 128, 0, 1, authWork .keys, 5, by simp only [quiet_iff]; decide +kernel⟩,
    ⟨certifying, 128, 0, 1, 5, { authWork .verify with cert := badCert }, by decide +kernel, (quiet_iff _).2
      (by decide +kernel), rfl, rfl, rfl, rfl, certLate_witness _⟩⟩

theorem meets_GlazeHandshake :
    (∃ (s u : State) (body bs : Bytes), s.running = true ∧ s.quiet ∧ s.glzHears = true ∧ s.glz.commit = none ∧
      s.glz.hushEnd = none ∧ s.glzSoon = false ∧ s.mode ≠ .quarantine ∧ s.engineActive eccUnits 0 = true ∧
      s.helloOk body = true ∧ s.draw 48 = some (bs, u)) ∧
    (∃ (s : State) (body : Bytes), s.running = true ∧ s.quiet ∧ s.glzHears = true ∧ s.glz.commit = none ∧
      s.glz.hushEnd = none ∧ s.glzSoon = false ∧
      (s.mode = .quarantine ∨ s.engineActive eccUnits 0 = true ∧ s.helloOk body = false) ∧ body.length ≤ 317) ∧
    (∃ (s : State) (h : GlzHand) (sigL : Bytes), s.running = true ∧ s.quiet ∧ s.glzHears = true ∧
      s.glz.hand = some h ∧ s.glz.commit = none ∧ s.glz.hushEnd = none ∧ h.proven sigL = true) ∧
    (∃ (s : State) (h : GlzHand) (sigL : Bytes) (c : Instr), s.running = true ∧ s.quiet ∧ s.glz.hand = some h ∧
      s.glz.state ≠ 0 ∧ s.glz.commit = none ∧
      (c = .glzProveTimeout ∨ s.glzHears = true ∧ h.proven sigL = false ∧ c = .glzProve sigL .done)) ∧
    (∃ (s : State) (h : GlzHand), s.running = true ∧ { s with glz := { s.glz with hand := none } }.quiet ∧
      s.glz.hand = some h ∧ h.reply = none ∧ s.glz.hushEnd = none) :=
  ⟨⟨signer glazeIdle, { signer glazeIdle with prf := vecSet (signer glazeIdle).prf 1 { Prf.start with state := 1, buf
    := [] } }, helloBody, List.replicate 48 1, by decide +kernel, (quiet_iff _).2 (by decide +kernel),
    by decide +kernel, by decide +kernel, by decide +kernel, by decide +kernel, by decide +kernel, by decide +kernel,
    helloOk_witness, rfl⟩,
    ⟨glazeIdle, [], by simp only [quiet_iff]; decide +kernel⟩,
    ⟨hello (some []), { body := [], reply := some [], bnonce := 0, priv := 0 }, sigOf (ascii "GLZ-L"),
      by decide +kernel, (quiet_iff _).2 (by decide +kernel), by decide +kernel, rfl, rfl, rfl, proven_witness⟩,
    ⟨hello (some []), { body := [], reply := some [], bnonce := 0, priv := 0 }, [], .glzProveTimeout,
      by decide +kernel, (quiet_iff _).2 (by decide +kernel), rfl, by decide +kernel, rfl, .inl rfl⟩,
    ⟨hello none, { body := [], reply := none, bnonce := 0, priv := 0 }, by simp only [quiet_iff]; decide +kernel⟩⟩

theorem meets_GlazeRequests :
    (∃ (s : State) (f : GlzFrame) (x : GlzSession) (off len : Nat) (chk : PageCheck), s.GlzAsks f x ∧
      x.may (some 0) = true ∧ s.ldr.isOpen = true ∧ 4 ≤ len ∧ len ≤ 256 ∧ len % 4 = 0 ∧
      off + len ≤ 256 * s.ldr.capacity ∧ (∀ p ∈ windowPages off len, s.cached p = true)) ∧
    (∃ (s : State) (f : GlzFrame) (x : GlzSession) (c : BitVec 256) (r : Bytes), s.GlzAsks f x ∧
      x.may (some 3) = true ∧ s.attest (beBytes 32 c.toNat) = some r) ∧
    (∃ (s : State) (f : GlzFrame) (x : GlzSession) (k : Nat), s.GlzAsks f x ∧ x.may (some 3) = true ∧ k < 4) ∧
    (∃ (s : State) (f : GlzFrame) (x : GlzSession), s.GlzAsks f x) ∧
    (∃ (s : State) (f : GlzFrame) (x : GlzSession), s.GlzAsks f x ∧ s.glz.waiting = none ∧ s.glz.hand = none) ∧
    (∃ (s : State) (f : GlzFrame) (x : GlzSession) (off len : Nat) (chk : PageCheck), s.GlzAsks f x ∧
      x.may (some 0) = false) :=
  ⟨⟨glazed session, nextFrame, session, 0x300, 8, good, by simp only [glzAsks_iff]; decide +kernel⟩,
    ⟨glazed session, nextFrame, session, 5, _, (glzAsks_iff _ _ _).2 (by decide +kernel), by decide +kernel,
      attest_some (by decide +kernel) _⟩,
    ⟨glazed session, nextFrame, session, 2, by simp only [glzAsks_iff]; decide +kernel⟩,
    ⟨glazed session, nextFrame, session, by simp only [glzAsks_iff]; decide +kernel⟩,
    ⟨glazed session, nextFrame, session, by simp only [glzAsks_iff]; decide +kernel⟩,
    ⟨glazed { session with rights := 0 }, nextFrame, { session with rights := 0 }, 0, 0, good,
      by simp only [glzAsks_iff]; decide +kernel⟩⟩

theorem meets_GlazeStaging :
    (∃ (s : State) (f : GlzFrame) (x : GlzSession) (n : Nat) (l : Bytes) (chk : PageCheck), s.GlzAsks f x ∧
      x.may (some 2) = true ∧ x.staged.length < 8 ∧ n < s.ldr.capacity ∧ s.pageThere (recordPage n) ∧
      (s.record n).state = 1 ∧ l.length = 32) ∧
    (∃ (s : State) (f : GlzFrame) (x : GlzSession) (k : Bytes) (n : Nat) (chk : PageCheck), s.GlzAsks f x ∧
      x.may (some 1) = true ∧ x.staged = [] ∧ k.length = 192 ∧ s.tokenOk k = true ∧
      s.pageThere (indexPageOf (BitVec.ofNat 128 (beAt k 0x18 16))) ∧
      s.indexFind (BitVec.ofNat 128 (beAt k 0x18 16)) = some n ∧ (s.record n).state = 1 ∧ s.tokenRaise n = true) ∧
    (∃ (s : State) (f : GlzFrame) (x : GlzSession), s.GlzAsks f x ∧ x.staged = [] ∧ s.spw.early = false) ∧
    (∃ (s : State) (f : GlzFrame) (x : GlzSession) (n : Nat) (l : BitVec 256), s.GlzAsks f x ∧
      x.staged = [.label n l] ∧ s.spw.early = false ∧ s.pageThere (recordPage n)) :=
  ⟨⟨glazed session, nextFrame, session, 3, List.replicate 32 7, good,
    by simp only [glzAsks_iff, State.pageThere]; decide +kernel⟩,
    ⟨loader, nextFrame, session, token, 3, good, (glzAsks_iff _ _ _).2 (by decide +kernel), by decide +kernel,
      by decide +kernel, by decide +kernel, tokenOk_witness, token_page, by decide +kernel, by decide +kernel,
      by decide +kernel⟩,
    ⟨glazed session, nextFrame, session, by simp only [glzAsks_iff]; decide +kernel⟩,
    ⟨glazed { session with staged := [.label 3 5] }, nextFrame, { session with staged := [.label 3 5] }, 3, 5,
      by simp only [glzAsks_iff, State.pageThere]; decide +kernel⟩⟩

theorem meets_GlazeEvents :
    (∃ (s : State) (f : GlzFrame) (x : GlzSession) (typ : Byte), s.running = true ∧ s.quiet ∧ s.glzHears = true ∧
      s.glz.session = some x ∧ s.glz.commit = none ∧ f.tagOk = false ∧ x.drops < 2) ∧
    (∃ (s : State) (f : GlzFrame) (x : GlzSession) (typ : Byte), s.running = true ∧ s.quiet ∧ s.glzHears = true ∧
      s.glz.session = some x ∧ s.glz.commit = none ∧ f.tagOk = false ∧ 2 ≤ x.drops ∧ s.glz.hand = none ∧
      s.glz.waiting = none) ∧
    (∃ (s : State) (c : Instr), c ∈ [.glzSessionIdleTimeout, .glzCtrlClose .pcie] ∧ s.running = true ∧
      s.stepDone 6 = true ∧ s.glz.session.isSome = true ∧ s.glz.commit = none ∧ s.glz.state ≠ 0 ∧ s.glz.hand = none ∧
      s.glz.sending = false ∧ s.glz.waiting = none) ∧
    (∃ s : State, s.running = true ∧ s.glz.sending = true) ∧
    (∃ (s : State) (why : GlzDiscard) (bad : Nat), s.running = true ∧ s.glz.state ≠ 0 ∧ s.glz.sending = false ∧
      (why = .blind ∨ s.glz.blind = true)) ∧
    (∃ (s : State) (why : GlzDiscard) (bad : Nat), s.running = true ∧ s.glz.state ≠ 0 ∧ s.glz.sending = false ∧
      s.glz.blind = false ∧ why ≠ .blind ∧ 4 < bad) ∧
    (∃ (s : State) (bs : Bytes) (framing : Bool) (bad : Nat), s.running = true ∧ s.glz.state ≠ 0 ∧
      s.glz.sending = false ∧ s.glz.blind = false ∧ bad ≤ 4 ∧ (framing = true ∨ sirContent bs = none)) ∧
    (∃ (s : State) (bs : Bytes) (bad : Nat), s.running = true ∧ s.glz.state ≠ 0 ∧ s.glz.sending = false ∧
      s.glz.blind = false ∧ bad ≤ 4 ∧ sirContent bs ≠ none) ∧
    (∃ s : State, s.running = true ∧ s.glz.state ≠ 0 ∧ s.glz.sending = false ∧ s.glz.blind = false) ∧
    (∃ (s : State) (w : Bytes) (r : Option Nat), s.running = true ∧ s.glz.waiting = some (w, r)) ∧
    (∃ s : State, s.running = true ∧ s.glz.waiting = none) ∧
    (∃ (s : State) (ua : Nat), s.running = true ∧ s.glz.state ≠ 0 ∧ 500 < ua) ∧
    (∃ (s : State) (ua : Nat), s.running = true ∧ s.glz.state ≠ 0 ∧ ua ≤ 550) :=
  ⟨⟨glazed session, { tagOk := false, seq := 5 }, session, 0, by simp only [quiet_iff]; decide +kernel⟩,
    ⟨glazed { session with drops := 2 }, { tagOk := false, seq := 5 }, { session with drops := 2 }, 0,
      by simp only [quiet_iff]; decide +kernel⟩,
    ⟨glazed session, .glzSessionIdleTimeout, by decide +kernel⟩,
    ⟨{ glazed session with glz := { (glazed session).glz with sending := true, nextRate := some 3 } },
      by decide +kernel⟩,
    ⟨{ glazed session with glz := { (glazed session).glz with blind := true } }, .pulses, 3, by decide +kernel⟩,
    ⟨glazed session, .pulses, 5, by decide +kernel⟩,
    ⟨glazed session, [], true, 3, by decide +kernel⟩,
    ⟨glazed session, sirFrame [1, 2, 3], 3, by decide +kernel⟩,
    ⟨glazed session, by decide +kernel⟩,
    ⟨{ glazed session with glz := { (glazed session).glz with waiting := some ([1], some 2), hushEnd := some 5 } },
      [1], some 2, by decide +kernel⟩,
    ⟨glazed session, by decide +kernel⟩,
    ⟨glazed session, 600, by decide +kernel⟩,
    ⟨glazed session, 400, by decide +kernel⟩⟩

theorem meets_LifecycleTransitions :
    (∃ (s : State) (c : Nat × Instr), s.running = true ∧ s.msp.mbox = some 2 ∧ s.mode ≠ .quarantine ∧
      s.life.blowing = none ∧ s.life.retireWait = false ∧ s.spw.early = false ∧ c ∈ [(1, .lifecycleOwn .mailbox
      .done), (2, .lifecycleAddKey .mailbox .done), (3, .lifecycleRevokeKey .mailbox .done), (4, .lifecycleDeploy
      .mailbox .done), (5, .lifecycleRetire .mailbox .done)] ∧ reqOp (s.mboxRead 184) = c.1 ∧
      s.requestOk (s.mboxRead 184) = true) ∧
    (∃ (s : State) (q : Nat) (h : Fetched) (b : Bytes) (c : Nat × Instr), s.running = true ∧ s.canMaster = true ∧
      s.Takes q 0x41 h ∧ (s.idleEcc (s.affinity q)).isSome = true ∧ s.life.blowing = none ∧
      s.life.retireWait = false ∧ s.spw.early = false ∧ c ∈ [(1, .lifecycleOwn (.queue q (some b)) .done), (2,
      .lifecycleAddKey (.queue q (some b)) .done), (3, .lifecycleRevokeKey (.queue q (some b)) .done), (4,
      .lifecycleDeploy (.queue q (some b)) .done), (5, .lifecycleRetire (.queue q (some b)) .done)] ∧ reqOp b = c.1 ∧
      s.requestOk b = true) ∧
    (∃ (s : State) (c : Nat × Instr), s.running = true ∧ s.msp.mbox = some 2 ∧ s.mode ≠ .quarantine ∧
      s.life.blowing = none ∧ s.life.retireWait = false ∧ s.stepDone 1 = true ∧ c ∈ [(1, .lifecycleOwn .mailbox
      .done), (2, .lifecycleAddKey .mailbox .done), (3, .lifecycleRevokeKey .mailbox .done), (4, .lifecycleDeploy
      .mailbox .done), (5, .lifecycleRetire .mailbox .done)] ∧ reqOp (s.mboxRead 184) = c.1 ∧
      s.requestOk (s.mboxRead 184) = false) ∧
    (∃ (s : State) (op : Nat) (r : PendingRec), s.running = true ∧ s.stepDone 1 = true ∧
      s.life.blowing = some (none, op) ∧ op ≠ 5 ∧ s.vig.record = some r) ∧
    (∃ (s : State) (ctx : Option Nat), s.running = true ∧ s.life.blowing = some (ctx, 5) ∧
      s.vig.record = some (.group 4) ∧ s.cnt.drain = .idle ∧ s.cnt.compaction = .none ∧ s.ldr.running = none) :=
  ⟨⟨mailed 4 0 (lifecycle 2 (serving 5)), (4, .lifecycleDeploy .mailbox .done), rfl, rfl, nofun, rfl, rfl, rfl,
    by decide +kernel, by rw [mboxRead_mailed]; rfl,
    by rw [mboxRead_mailed]; exact requestOk_witness rfl rfl (requestRule_witness rfl rfl)⟩,
    ⟨retiring, 0, fetch requesting, requestFor retiring 5 0, (5, .lifecycleRetire (.queue 0 (some (requestFor
      retiring 5 0))) .done), rfl, rfl, (takes_iff _ _ _ _).2 (by decide +kernel), by decide +kernel, rfl, rfl, rfl,
      by simp, rfl, requestOk_witness rfl rfl (requestRule_witness rfl rfl)⟩,
    ⟨mailbox (lifecycle 2 (serving 5)) [0, 0, 0, 0, 4], (4, .lifecycleDeploy .mailbox .done), rfl, rfl, nofun, rfl,
      rfl, by decide +kernel, by decide +kernel, by decide +kernel, by decide +kernel⟩,
    ⟨blowing 4 3, 4, .group 3, by decide +kernel⟩,
    ⟨blowing 5 4, none, by decide +kernel⟩⟩

theorem meets_RecipeSessions :
    (∃ (s : State) (k : Bool), s.running = true ∧ s.rcpLoaded = true ∧ s.rcp.busy = none ∧ s.rcp.session = none ∧
      s.mode = .service ∧ s.spw.early = false ∧ s.slotStands (1 - k.toNat) s.otp.rollback = true) ∧
    (∃ (s : State) (k : Bool), s.running = true ∧ s.rcpLoaded = true ∧ s.rcp.busy = none ∧ s.rcp.session = none ∧
      s.mode = .service ∧ s.spw.early = false ∧ s.slotStands (1 - k.toNat) s.otp.rollback = false) ∧
    (∃ (s : State) (x : Session) (n : Nat), s.running = true ∧ s.rcpLoaded = true ∧ s.rcp.busy = none ∧
      s.rcp.session = some x ∧ x.owner = .pcie ∧ s.spw.early = false ∧ 1 ≤ n ∧ n ≤ 4096 ∧ x.offset + n ≤ 3145728) ∧
    (∃ (s : State) (x : Session) (d : Bytes), s.running = true ∧ s.rcp.busy = some (.program x.slot d) ∧
      s.rcp.session = some x) ∧
    (∃ (s : State) (k : Nat), s.running = true ∧ s.rcp.busy = some (.erase k) ∧ s.bootSuspended = false) ∧
    (∃ (s : State) (x : Session), s.running = true ∧ s.rcpLoaded = true ∧ s.rcp.busy = none ∧
      s.rcp.session = some x ∧ x.owner = .pcie) ∧
    (∃ (s : State) (k : Bool), s.running = true ∧ s.rcpLoaded = true ∧ s.rcp.busy = none ∧ s.rcp.session = none ∧
      s.rcpOpenMode = true) ∧
    (∃ (s : State) (k : Nat) (v : SlotVerdict), s.running = true ∧ s.quiet ∧ k < 2 ∧
      s.rcp.busy = some (.verifying k)) ∧
    (∃ s : State, s.running = true ∧ s.rcpLoaded = true ∧ s.rcp.busy = none ∧ s.rcp.session = none ∧
      s.mode = .service ∧ s.spw.early = false ∧ s.slotStands s.spareSlot s.rcp.loadedFloor = true ∧
      s.otp.rollback < s.rcp.loadedFloor) ∧
    (∃ s : State, s.running = true ∧ s.rcp.busy = some .floor) :=
  ⟨⟨rcpState fun x => { x with resultB := 15 }, false, by decide +kernel⟩,
    ⟨rcpState fun x => { x with resultB := 1 }, false, by decide +kernel⟩,
    ⟨rcpState fun x => { x with session := some session0 }, session0, 5, by decide +kernel⟩,
    ⟨rcpState fun x => { x with session := some session0, busy := some (.program 0 [1, 2]) }, session0, [1, 2],
      by decide +kernel⟩,
    ⟨{ rcpState fun x => { x with session := some session0, busy := some (.erase 0) } with flash := { Flash.erased
      with slotA := [1] } }, 0, by decide +kernel⟩,
    ⟨rcpState fun x => { x with session := some session0 }, session0, by decide +kernel⟩,
    ⟨rcpState fun x => x, true, by decide +kernel⟩,
    ⟨rcpState fun x => { x with busy := some (.verifying 1) }, 1, noReadErr,
      by simp only [quiet_iff]; decide +kernel⟩,
    ⟨rcpState fun x => { x with resultB := 15, loadedFloor := 1, loadedB := true, resultA := 15 }, by decide +kernel⟩,
    ⟨rcpState fun x => { x with busy := some .floor, loadedFloor := 2 }, by decide +kernel⟩⟩

theorem meets_RecipeActivates :
    (∃ s : State, s.running = true ∧ s.rcpLoaded = true ∧ s.rcp.busy = none ∧ s.rcp.session = none ∧
      s.mode = .service ∧ s.rcp.loadedB = false ∧ (∀ p < 128, s.unitIs p .active = true ∨ s.unitIs p .off = true)) ∧
    (∃ s : State, s.running = true ∧ s.rcpLoaded = true ∧ s.rcp.busy = none ∧ s.rcp.session = none ∧
      (s.mode ≠ .service ∨ s.rcp.loadedB = true)) ∧
    (∃ (s : State) (v : SlotVerdict) (old : Recipe), s.running = true ∧ s.quiet ∧ s.rcp.busy = some .activateVerify ∧
      s.rcp.recipe = some old ∧ s.verifySlot s.flash.slotA v ≠ 15 ∧ s.verifySlot s.flash.slotA v ≠ 7) ∧
    (∃ (s : State) (v : SlotVerdict) (old : Recipe), s.running = true ∧ s.quiet ∧ s.rcp.busy = some .activateVerify ∧
      s.rcp.recipe = some old ∧ s.verifySlot s.flash.slotA v = 15 ∧ s.fab.newNet = none ∧ s.sch.classesNew = none ∧
      s.activateRefusal 15 old (parseRecipe s.flash.slotA) = none ∧ old.hash 4 = (parseRecipe s.flash.slotA).hash 4 ∧
      old.hash 10 = (parseRecipe s.flash.slotA).hash 10 ∧ old.ports = (parseRecipe s.flash.slotA).ports) ∧
    (∃ (s : State) (v : SlotVerdict) (old : Recipe), s.running = true ∧ s.quiet ∧ s.rcp.busy = some .activateVerify ∧
      s.rcp.recipe = some old ∧ s.verifySlot s.flash.slotA v = 15 ∧
      s.rcp.gen < (parseRecipe s.flash.slotA).generation ∧
      (∀ t ∈ stageOnly, old.hash t = (parseRecipe s.flash.slotA).hash t) ∧
      s.classesRefused old (parseRecipe s.flash.slotA) = true) :=
  ⟨⟨rcpState fun x => x, by decide +kernel⟩,
    ⟨rcpState fun x => { x with loadedB := true }, by decide +kernel⟩,
    ⟨rcpState fun x => { x with busy := some .activateVerify }, noReadErr, recipe 1,
      by simp only [quiet_iff]; decide +kernel⟩,
    ⟨activating, noReadErr, olderRecipe, by decide +kernel, (quiet_iff _).2 (by decide +kernel), rfl, rfl,
      image_valid rfl rfl rfl, rfl, rfl, activate_allowed, rfl, rfl, rfl⟩,
    ⟨{ activating with rcp := { activating.rcp with recipe := some { olderRecipe with acc := [accClass] } }, ldr := {
      activating.ldr with records := [(3, bound)] } }, noReadErr, { olderRecipe with acc := [accClass] },
      by decide +kernel, (quiet_iff _).2 (by decide +kernel), rfl, rfl, image_valid rfl rfl rfl, by decide +kernel,
      fun _ _ => rfl, by decide +kernel⟩⟩

theorem meets_UnitService :
    (∃ (s : State) (u : Nat) (c : DrainFor × Instr), s.running = true ∧ s.quiet ∧ u < 176 ∧ s.mode = .service ∧
      s.rcp.actBit = false ∧ s.unitIs u .active = true ∧ (c.1 = .off → s.lastOfKind u = false) ∧
      c ∈ [(.restart, .unitRestart .pcie u), (.off, .unitOff .pcie u)]) ∧
    (∃ (s : State) (i : Nat), s.running = true ∧ s.quiet ∧ s.prfQuiet ∧ i < 4 ∧ s.mode = .service ∧
      s.rcp.actBit = false ∧ s.unitIs (176 + i) .active = true ∧ (s.inst i).shadow = none) ∧
    (∃ (s : State) (u held : Nat), s.running = true ∧ s.quiet ∧ 128 ≤ u ∧ u < 168 ∧ s.unitIs u .draining = true ∧
      s.unitAtWork u = false ∧ s.rcp.activating = none) ∧
    (∃ (s : State) (u held : Nat), s.running = true ∧ s.quiet ∧ u < 128 ∧ s.unitIs u .draining = true ∧
      (s.unit u).drainFor ≠ .off ∧ s.unitAtWork u = false ∧ s.rcp.activating = none ∧ (s.port u).newEntry = none ∧
      (s.port u).entry.isSome = true) ∧
    (∃ (s : State) (u : Nat) (o : Op), s.running = true ∧ s.quiet ∧ s.canMaster = true ∧ u < 128 ∧
      s.unitIs u .draining = true ∧ (s.unit u).drainEnd ≤ s.tick ∧ s.sch.ops = [o] ∧ o.desc.opcode = 0x30 ∧
      o.committed = false ∧ (s.port u).contexts = [o.ctx]) ∧
    (∃ (s : State) (u : Nat), s.running = true ∧ s.quiet ∧ 128 ≤ u ∧ u < 176 ∧ s.mode = .service ∧
      s.rcp.actBit = false ∧ s.unitIs u .off = true) ∧
    (∃ (s : State) (u : Nat), s.running = true ∧ s.quiet ∧ u < 128 ∧ s.mode = .service ∧ s.rcp.actBit = false ∧
      s.unitIs u .off = true ∧ (s.port u).entry.isSome = true ∧ s.sch.ops = []) ∧
    (∃ (s : State) (u : Nat), s.running = true ∧ s.quiet ∧ 128 ≤ u ∧ u < 176 ∧ s.unitIs u .quiesced = true ∧
      (s.unit u).drainFor = .restart ∧ s.rcp.activating = none) ∧
    (∃ (s : State) (u : Nat), s.running = true ∧ s.quiet ∧ u < 128 ∧ s.unitIs u .quiesced = true ∧
      (s.unit u).drainFor = .restart ∧ s.rcp.activating = none ∧ (s.port u).entry.isSome = true ∧
      (s.port u).charge = false ∧ s.sch.ops = []) :=
  ⟨⟨serving 1, 130, (.restart, .unitRestart .pcie 130), by simp only [quiet_iff]; decide +kernel⟩,
    ⟨serving 1, 1, by simp only [quiet_iff, prfQuiet_iff]; decide +kernel⟩,
    ⟨unitState 130 .draining .restart, 130, 3, by simp only [quiet_iff]; decide +kernel⟩,
    ⟨unitState 0 .draining .restart, 0, 3, by simp only [quiet_iff]; decide +kernel⟩,
    ⟨cutting, 0, cutOp, by simp only [quiet_iff]; decide +kernel⟩,
    ⟨unitState 130 .off .restart, 130, by simp only [quiet_iff]; decide +kernel⟩,
    ⟨unitState 0 .off .restart, 0, by simp only [quiet_iff]; decide +kernel⟩,
    ⟨unitState 130 .quiesced .restart, 130, by simp only [quiet_iff]; decide +kernel⟩,
    ⟨unitState 0 .quiesced .restart, 0, by simp only [quiet_iff]; decide +kernel⟩⟩

theorem meets_TickAndTwoTickRule :
    (∃ s : State, s.running = true ∧ s.mode ≠ .service ∧ s.rcp.activating = none) ∧
    (∃ s : State, s.running = true ∧ s.mode = .service ∧ s.rcp.activating = none ∧ s.fab.newNet = none) :=
  ⟨⟨{ ticking with mode := .stage }, by decide +kernel⟩,
    ⟨ticking, by decide +kernel⟩⟩

theorem meets_GuardCommands :
    (∃ s : State, s.running = true ∧ s.mode = .service) ∧
    (∃ (s : State) (g n : Nat), s.running = true ∧ s.mode = .service ∧ s.vig.force = false ∧
      s.life.retireWait = false ∧ tabFind s.fab.enabledAt g = some n ∧ firstRise g n / 1000 = s.tick.toNat) ∧
    (∃ (s : State) (g : Nat), s.running = true ∧ s.guardDriven g = true) ∧
    (∃ (s : State) (m : Nat) (v : Word), s.running = true ∧ s.stepDone 6 = true ∧ m < 8) ∧
    (∃ (s : State) (m : Nat) (x : Option Word × Option Word), s.running = true ∧ s.mode = .service ∧ m < 8) ∧
    (∃ (s : State) (m : Nat) (v : Word), s.running = true ∧ s.mode ≠ .service) :=
  ⟨⟨ticking, by decide +kernel⟩,
    ⟨{ ticking with tick := 101, fab := { ticking.fab with enabledAt := [(3, 98)] } }, 3, 98, by decide +kernel⟩,
    ⟨driving, 3, by decide +kernel⟩,
    ⟨ticking, 0, 2, by decide +kernel⟩,
    ⟨{ ticking with fab := { ticking.fab with permit := 6 } }, 0, (some 3, some 2), by decide +kernel⟩,
    ⟨{ ticking with mode := .stage }, 0, 2, by decide +kernel⟩⟩

theorem meets_EntropyRuns :
    (∃ (s : State) (codes : List Nat), s.running = true ∧ s.ent.a.inRun = true ∧ s.ent.a.acquired = false ∧
      codes.length = 64) ∧
    (∃ (s : State) (ch : Channel), s.Rests ∧ (s.chan ch).inRun = true ∧ (s.chan ch).acquired = true ∧
      (s.chan ch).tested = false ∧ (s.chan ch).startEvents ≤ 4 ∧ (ch = .a → 48 ≤ s.activeLatches)) ∧
    (∃ (s : State) (ch : Channel), s.Rests ∧ (s.chan ch).state = 1 ∧ (s.chan ch).retesting = false ∧
      (s.chan ch).counted = false ∧ (s.chan ch).acquired = true ∧ (s.chan ch).tested = false ∧
      4 < (s.chan ch).startEvents) ∧
    (∃ (s : State) (f k : Nat), s.Rests ∧ s.ent.b.inRun = true ∧ s.ent.b.acquired = false ∧ freqOk f k = true) ∧
    (∃ (s : State) (ch : Channel) (latch sample : Nat) (c : Nat × Instr), s.Rests ∧ (s.chan ch).state = 1 ∧
      (s.chan ch).acquired = true ∧ (s.chan ch).tested = false ∧ s.streamOk ch latch = true ∧ c ∈ [(1,
      .repetitionEvent ch latch sample (s.chan ch).rct), (2, .proportionEvent ch latch sample (s.chan ch).apt)]) ∧
    (∃ (s : State) (ch : Channel) (latch sample : Nat) (c : Nat × Instr), s.Rests ∧ (s.chan ch).state = 2 ∧
      (s.chan ch).retesting = false ∧ (s.chan ch).counted = false ∧ s.streamOk ch latch = true ∧
      16 ≤ ((s.chan ch).recent.filter fun i => decide (sample < i + 65536)).length ∧ c ∈ [(1, .repetitionEvent ch
      latch sample (s.chan ch).rct), (2, .proportionEvent ch latch sample (s.chan ch).apt)]) ∧
    (∃ (s : State) (w : Writers) (c : Channel × Instr), s.running = true ∧
      c ∈ [(.a, .entRetestA w), (.b, .entRetestB w)] ∧ s.retestOk c.1 = true) ∧
    (∃ (s : State) (ch : Channel), s.running = true ∧ (s.chan ch).retesting = false ∧ (s.chan ch).counted = false) ∧
    (∃ (s : State) (ch : Channel) (u : BitVec 64) (l : List (BitVec 64)), s.running = true ∧
      ((s.chan ch).retesting || (s.chan ch).counted) = true ∧ (s.chan ch).retests = u :: l) :=
  ⟨⟨churning .a { Chan.start with state := 1 }, List.replicate 64 5, by decide +kernel⟩,
    ⟨churning .a { Chan.start with state := 1, acquired := true }, .a,
      by simp only [rests_iff, prfQuiet_iff]; decide +kernel⟩,
    ⟨churning .a { Chan.start with state := 1, acquired := true, startEvents := 5, lastKind := 2 }, .a,
      by simp only [rests_iff, prfQuiet_iff]; decide +kernel⟩,
    ⟨churning .b { Chan.start with state := 1 }, 900, 4000, by simp only [rests_iff, prfQuiet_iff]; decide +kernel⟩,
    ⟨churning .b { Chan.start with state := 1, acquired := true }, .b, 0, 5, (1, .repetitionEvent .b 0 5 0),
      by simp only [rests_iff, prfQuiet_iff]; decide +kernel⟩,
    ⟨churning .a { Chan.start with state := 2, recent := List.replicate 16 4 }, .a, 0, 5, (2, .proportionEvent .a 0 5
      0), by simp only [rests_iff, prfQuiet_iff]; decide +kernel⟩,
    ⟨churning .a { Chan.start with state := 3 }, ⟨true, false⟩, (.a, .entRetestA ⟨true, false⟩), by decide +kernel⟩,
    ⟨churning .a { Chan.start with retests := [5] }, .a, by decide +kernel⟩,
    ⟨churning .a { Chan.start with state := 3, retesting := true, retests := [5] }, .a, 5, [], by decide +kernel⟩⟩

theorem meets_EntropyBlocks :
    (∃ (s : State) (ones : List Nat), s.Rests ∧ s.ent.b.state = 2 ∧ s.ent.b.retesting = false ∧
      s.ent.b.tested = true ∧ s.ent.b.taken = []) ∧
    (∃ (s : State) (ones : List Nat), s.Rests ∧ s.ent.a.state = 2 ∧ s.ent.a.retesting = false ∧
      s.ent.a.tested = true ∧ s.ent.a.taken = [] ∧ s.ent.masked = 0 ∧ (∀ i < 64, s.ent.atEnd.getD i 0 < 4) ∧
      (∀ i < 4, (s.inst i).shadow = none)) ∧
    (∃ (s : State) (ch : Channel) (raw : BitVec 2048), s.Rests ∧ (s.chan ch).operational = true ∧
      s.ent.forming = true ∧ s.churnLane = true ∧ (s.chan ch).marked.contains (s.chan ch).blk = false ∧
      (s.chan ch).pool.length < 64 ∧ (s.chan ch).bitsClosed < ((s.chan ch).blk + 1) * 2048 ∧
      (∀ b ∈ (s.chan ch).pool, b.confirmed = false → (s.chan ch).closed b = false) ∧
      (∀ b ∈ (s.chan ch).taken, (s.chan ch).closed b = false)) ∧
    (∃ (s : State) (ch : Channel) (bits ones pairs agree f k : Nat), s.Rests ∧ (s.chan ch).estimated ch = true ∧
      (ch = .b → freqOk f k = true)) ∧
    (∃ (s : State) (i : Nat), s.Rests ∧ i < 4 ∧ s.prfServes i = true ∧ s.aesLane = true ∧
      (s.inst i).buf.length + 512 ≤ 8192 ∧ (s.inst i).since + 1 < s.reseedInt) :=
  ⟨⟨churning .b { Chan.start with state := 2, tested := true, pool := [⟨0, 0, 5, false⟩], bitsClosed := 1024 }, [],
    by simp only [rests_iff, prfQuiet_iff]; decide +kernel⟩,
    ⟨churning .a { Chan.start with state := 2, tested := true, pool := [⟨0, 0, 5, false⟩], bitsClosed := 1024 },
      List.replicate 64 500, by simp only [rests_iff, prfQuiet_iff]; decide +kernel⟩,
    ⟨churning .a { Chan.start with state := 2, tested := true, blk := 3, nextSeq := 7 }, .a, 99,
      by simp only [rests_iff, prfQuiet_iff]; decide +kernel⟩,
    ⟨churning .b { Chan.start with state := 2, tested := true }, .b, 1, 2, 3, 4, 900, 4000,
      by simp only [rests_iff, prfQuiet_iff]; decide +kernel⟩,
    ⟨{ serving 1 with prf := vecSet (serving 1).prf 1 ready }, 1,
      by simp only [rests_iff, prfQuiet_iff]; decide +kernel⟩⟩

theorem meets_PlaitEnumerates :
    (∃ (s : State) (p : Nat), s.Serves p .reset ∧ (s.port p).state = .charge) ∧
    (∃ (s : State) (p : Nat), s.Serves p .reset ∧ (s.port p).state = .running ∧ s.sch.ops = []) ∧
    (∃ (s : State) (p : Nat) (y : Presence), s.running = true ∧ s.quiet ∧ (s.port p).window = .presence false ∧
      12 ≤ y.fallUs ∧ y.fallUs ≤ 50 ∧ 25 ≤ y.widthUs ∧ y.widthUs ≤ 100) ∧
    (∃ (s : State) (p : Nat), s.running = true ∧ s.quiet ∧ (s.port p).window = .presence false) ∧
    (∃ (s : State) (p : Nat), s.Serves p .assign ∧ (s.port p).txn = none) ∧
    (∃ (s : State) (p : Nat) (f : RxFrame) (x : Txn) (g : TagFrame), s.Expects p x ∧ x.owner = .enum ∧
      x.op = opAssign ∧ (s.port p).state = .enumerate ∧ (s.port p).check = none ∧ f.erasures = 0 ∧
      parseTagFrame x.pos opAssign f.bits = some g ∧ g.tstat = 0) ∧
    (∃ (s : State) (p : Nat) (y : Presence), s.running = true ∧ s.quiet ∧ (s.port p).window = .extension ∧
      150 ≤ y.fallUs ∧ y.fallUs ≤ 1800 ∧ 25 ≤ y.widthUs ∧ y.widthUs ≤ 100 ∧
      (s.port p).enumPos < (s.port p).profile.maxPos) ∧
    (∃ (s : State) (p : Nat) (y : Presence), s.running = true ∧ s.quiet ∧ (s.port p).window = .extension ∧
      150 ≤ y.fallUs ∧ y.fallUs ≤ 1800 ∧ 25 ≤ y.widthUs ∧ y.widthUs ≤ 100 ∧
      (s.port p).profile.maxPos ≤ (s.port p).enumPos) ∧
    (∃ (s : State) (p : Nat), s.running = true ∧ s.quiet ∧ (s.port p).window = .extension) :=
  ⟨⟨line fun x => { x with state := .charge, resetDue := true, charge := true }, 0,
    by simp only [serves_iff]; decide +kernel⟩,
    ⟨lineTag fun x => { x with reenum := true }, 0, by simp only [serves_iff]; decide +kernel⟩,
    ⟨line fun x => { x with state := .reset, window := .presence false }, 0, pulse 20,
      by simp only [quiet_iff]; decide +kernel⟩,
    ⟨lineTag fun x => { x with state := .reset, window := .presence false }, 0,
      by simp only [quiet_iff]; decide +kernel⟩,
    ⟨line fun x => { enumerating x with expect := true }, 0, by simp only [serves_iff]; decide +kernel⟩,
    ⟨line fun x => { enumerating x with txn := some (wire .enum opAssign) }, 0, answer 0 assignAnswer, wire .enum
      opAssign, answered 0 assignAnswer, by simp only [expects_iff]; decide +kernel⟩,
    ⟨line fun x => { enumerating x with window := .extension }, 0, pulse 200,
      by simp only [quiet_iff]; decide +kernel⟩,
    ⟨line fun x => { enumerating x with window := .extension, enumPos := 32 }, 0, pulse 200,
      by simp only [quiet_iff]; decide +kernel⟩,
    ⟨line fun x => { enumerating x with window := .extension, enumPos := 3 }, 0,
      by simp only [quiet_iff]; decide +kernel⟩⟩

theorem meets_PlaitLines :
    (∃ (s : State) (p : Nat), s.running = true ∧ s.quiet ∧ p < 128 ∧ s.mode = .service ∧
      ((s.port p).state = .running ∨ (s.port p).state = .fault)) ∧
    (∃ (s : State) (p : Nat), s.running = true ∧ s.quiet ∧ p < 128 ∧ s.mode = .service ∧ (s.port p).state = .running) ∧
    (∃ (s : State) (p : Nat) (c : Instr), c ∈ [.pltReenum .pcie p, .pltProbe .pcie p] ∧ s.running = true ∧ s.quiet ∧
      (s.mode ≠ .service ∨ ((s.port p).state ≠ .running ∧ (s.port p).state ≠ .fault))) ∧
    (∃ (s : State) (p : Nat), s.Serves p .probe) ∧
    (∃ (s : State) (p : Nat), s.running = true ∧ s.quiet ∧ (s.port p).trimSent = true ∧ (s.port p).window = .none) ∧
    (∃ (s : State) (p : Nat) (y : Presence), s.running = true ∧ s.quiet ∧ (s.port p).window = .presence true ∧
      12 ≤ y.fallUs ∧ y.fallUs ≤ 50 ∧ 25 ≤ y.widthUs ∧ y.widthUs ≤ 100 ∧
      (s.port p).chainLen < (s.port p).profile.maxPos) ∧
    (∃ (s : State) (p : Nat) (y : Presence), s.running = true ∧ s.quiet ∧ (s.port p).window = .presence true ∧
      12 ≤ y.fallUs ∧ y.fallUs ≤ 50 ∧ 25 ≤ y.widthUs ∧ y.widthUs ≤ 100 ∧
      (s.port p).profile.maxPos ≤ (s.port p).chainLen) ∧
    (∃ (s : State) (p w : Nat), s.running = true ∧ s.quiet ∧ (s.port p).state = .running ∧ (s.port p).busy = false ∧
      25 ≤ w ∧ w ≤ 100) ∧
    (∃ (s : State) (p e k : Nat) (c : Nat × Nat × Instr), c ∈ [(1, 2, .lineLow ⟨p, e, k⟩), (2, 3, .lineHigh p)] ∧
      s.running = true ∧ s.quiet ∧ (s.port p).live = true ∧ (s.port p).txn = none ∧ s.sch.ops = []) ∧
    (∃ (s : State) (p : Nat), s.running = true ∧ s.quiet ∧ s.mode = .service ∧ (s.port p).state = .fault ∧
      (s.port p).window = .none) ∧
    (∃ (s : State) (p : Nat), s.running = true ∧ s.quiet ∧ (s.port p).state = .fault ∧ (s.port p).window = .release ∧
      s.sch.ops = []) ∧
    (∃ (s : State) (p : Nat), s.running = true ∧ s.quiet ∧ (s.port p).state = .fault ∧ (s.port p).window = .release) :=
  ⟨⟨line fun x => x, 0, by simp only [quiet_iff]; decide +kernel⟩,
    ⟨line fun x => x, 0, by simp only [quiet_iff]; decide +kernel⟩,
    ⟨line fun x => { x with state := .stopped }, 0, .pltProbe .pcie 0, by simp only [quiet_iff]; decide +kernel⟩,
    ⟨line fun x => { x with probeReq := true }, 0, by simp only [serves_iff]; decide +kernel⟩,
    ⟨line fun x => { x with trimSent := true }, 0, by simp only [quiet_iff]; decide +kernel⟩,
    ⟨line fun x => { x with trimSent := true, window := .presence true }, 0, pulse 20,
      by simp only [quiet_iff]; decide +kernel⟩,
    ⟨line fun x => { x with trimSent := true, window := .presence true, chainLen := 32 }, 0, pulse 20,
      by simp only [quiet_iff]; decide +kernel⟩,
    ⟨line fun x => x, 0, 30, by simp only [quiet_iff]; decide +kernel⟩,
    ⟨line fun x => x, 0, 0, 0, (1, 2, .lineLow ⟨0, 0, 0⟩), by simp only [quiet_iff]; decide +kernel⟩,
    ⟨line fun x => { x with state := .fault }, 0, by simp only [quiet_iff]; decide +kernel⟩,
    ⟨line fun x => { x with state := .fault, window := .release }, 0, by simp only [quiet_iff]; decide +kernel⟩,
    ⟨line fun x => { x with state := .fault, window := .release }, 0, by simp only [quiet_iff]; decide +kernel⟩⟩

theorem meets_PlaitCommandsBegin :
    (∃ (s : State) (p : Nat) (c : ChainCheck), s.Serves p (.check c)) ∧
    (∃ (s : State) (p i : Nat) (l : List Nat) (j : Job), s.Serves p (.job j) ∧ j.kind = jobCollect ∧ j.todo = i :: l) ∧
    (∃ (s : State) (p : Nat) (j : Job), s.Serves p (.job j) ∧ j.kind = jobPrio) ∧
    (∃ (s : State) (p k : Nat) (j : Job) (a : Auth), s.Serves p (.job j) ∧ j.kind = jobAuth ∧
      s.auth p j.pos = some a ∧ a.stage = .cert k) ∧
    (∃ (s : State) (p n : Nat) (j : Job) (a : Auth), s.Serves p (.job j) ∧ j.kind = jobAuth ∧
      s.auth p j.pos = some a ∧ a.stage = .agree ∧ (s.pos p j.pos).record = some n ∧ s.placeFree p) ∧
    (∃ (s : State) (p : Nat) (j : Job) (b : BeatPrep) (n : BitVec 64), s.Serves p (.job j) ∧ j.kind = jobBeat ∧
      j.prep = some b ∧ b.nonce = some n) ∧
    (∃ (s : State) (p n : Nat) (j : Job) (h : TagSession), s.Serves p (.job j) ∧ j.kind = jobCatchup ∧
      (s.pos p j.pos).record = some n ∧ (s.pos p j.pos).session = some h ∧ h.mseq + 2 < 2 ^ 32 ∧ s.placeFree p) ∧
    (∃ (s : State) (p : Nat) (o : Op) (h : TagSession), s.Serves p (.host o) ∧ o.desc.opcode = 0x10 ∧
      o.pastPoint = true ∧ s.aesWait o = some true ∧ (s.pos p o.desc.position).session = some h ∧
      h.mseq + 2 < 2 ^ 32 ∧ s.placeFree p) ∧
    (∃ (s : State) (p : Nat) (o : Op) (h : TagSession), s.Serves p (.host o) ∧ o.desc.opcode = 0x10 ∧
      o.pastPoint = true ∧ s.aesWait o = some true ∧ (s.pos p o.desc.position).session = some h ∧
      h.mseq + 2 < 2 ^ 32 ∧ (4 ≤ s.spuUsed p ∨ s.spuQueue p = true) ∧ s.nvHoldUs p o.desc.position ≠ 0) ∧
    (∃ (s : State) (p k : Nat) (o : Op), s.Serves p (.host o) ∧ o.fullVerify = true ∧ s.isLate o.desc = false ∧
      s.posGate o.desc o.desc.unverified = none ∧
      ((s.auth p o.desc.position).getD (authNew (.host o.ctx))).stage = .cert k) ∧
    (∃ (s u : State) (p : Nat) (o : Op) (h : TagSession) (bs : Bytes), s.Serves p (.host o) ∧ o.desc.opcode = 0x01 ∧
      o.fullVerify = false ∧ s.isLate o.desc = false ∧ s.posGate o.desc o.desc.unverified = none ∧
      s.aesWait o = some true ∧ (s.pos p o.desc.position).session = some h ∧ s.draw 8 = some (bs, u)) ∧
    (∃ (s : State) (p : Nat) (o : Op) (h : TagSession), s.Serves p (.host o) ∧ o.desc.opcode = 0x31 ∧
      s.isLate o.desc = false ∧ s.posGate o.desc (some .retryLater) = none ∧ s.aesWait o = some true ∧
      (s.pos p o.desc.position).session = some h ∧ h.mseq + 2 < 2 ^ 32 ∧ s.placeFree p ∧
      s.nvHoldUs p o.desc.position ≠ 0) ∧
    (∃ (s : State) (p : Nat) (o : Op), s.Serves p (.host o) ∧ o.desc.opcode = 0x30 ∧ s.isLate o.desc = false ∧
      s.posGate o.desc none = none) ∧
    (∃ (s : State) (p : Nat) (x : Txn), s.running = true ∧ s.quiet ∧ (s.port p).txn = some x ∧ x.due = true ∧
      x.finish = true ∧ x.op ≠ opAssign ∧ x.op ≠ opTrim ∧ x.holdUs ≠ 0 ∧ s.placeFree p) :=
  ⟨⟨line fun x => { x with check := some check }, 0, check, by simp only [serves_iff]; decide +kernel⟩,
    ⟨lineTag fun x => { x with jobs := [job jobCollect] }, 0, 1, [], job jobCollect,
      by simp only [serves_iff]; decide +kernel⟩,
    ⟨lineTag fun x => { x with jobs := [job jobPrio] }, 0, job jobPrio, by simp only [serves_iff]; decide +kernel⟩,
    ⟨authed (.cert 2), 0, 2, job jobAuth, authAt (.cert 2), by simp only [serves_iff]; decide +kernel⟩,
    ⟨authed .agree, 0, 3, job jobAuth, authAt .agree, by simp only [serves_iff, State.placeFree]; decide +kernel⟩,
    ⟨lineTag fun x => { x with jobs := [beat] }, 0, beat, prep, 5, by simp only [serves_iff]; decide +kernel⟩,
    ⟨lineTag fun x => { x with jobs := [job jobCatchup] }, 0, 3, job jobCatchup, tagSession,
      by simp only [serves_iff, State.placeFree]; decide +kernel⟩,
    ⟨hosted 0x10, 0, portOp 0x10, tagSession, by simp only [serves_iff, State.placeFree]; decide +kernel⟩,
    ⟨crowded, 0, portOp 0x10, tagSession, by simp only [serves_iff]; decide +kernel⟩,
    ⟨hosted 0x01, 0, 0, portOp 0x01, by simp only [serves_iff]; decide +kernel⟩,
    ⟨drawable, { drawable with prf := vecSet drawable.prf 1 { Prf.start with state := 1 } }, 0, hostOp { posDesc 0x01
      with param0 := 1 }, tagSession, List.replicate 8 1, by simp only [serves_iff]; decide +kernel⟩,
    ⟨hosted 0x31, 0, portOp 0x31, tagSession, by simp only [serves_iff, State.placeFree]; decide +kernel⟩,
    ⟨hosted 0x30, 0, portOp 0x30, by simp only [serves_iff]; decide +kernel⟩,
    ⟨lineTag fun x => { x with txn := some finish }, 0, finish,
      by simp only [quiet_iff, State.placeFree]; decide +kernel⟩⟩

theorem meets_PlaitAnswers :
    (∃ (s : State) (p e k : Nat) (x : Txn), s.Expects p x ∧ x.owner = .beat ∧ x.op = opChallenge ∧ x.holdUs = 0 ∧
      x.finish = false ∧ x.tries < (s.port p).profile.retries) ∧
    (∃ (s : State) (p : Nat) (x : Txn) (f : RxFrame), s.Expects p x ∧ x.owner = .beat ∧ x.op = opChallenge ∧
      x.holdUs = 0 ∧ x.finish = false ∧ x.tries < (s.port p).profile.retries ∧
      (f.erasures ≠ 0 ∨ parseTagFrame x.pos opChallenge f.bits = none)) ∧
    (∃ (s : State) (p e k : Nat) (x : Txn) (c : AccClass), s.Expects p x ∧ x.owner = .beat ∧ x.op = opChallenge ∧
      x.finish = false ∧ x.silent = true ∧ (s.port p).profile.retries ≤ x.tries ∧ (s.port p).check = none ∧
      (s.port p).state = .running ∧ (s.port p).isPresent x.pos = true ∧ x.pos < (s.port p).chainLen ∧
      s.accClass (s.pos p x.pos).classId = some c ∧ (s.pos p x.pos).misses + 1 < c.missLimit ∧
      (s.pos p x.pos).misses < 15) ∧
    (∃ (s : State) (p n : Nat) (x : Txn) (f : RxFrame) (g : TagFrame) (h : TagSession), s.Expects p x ∧
      x.owner = .beat ∧ x.op = opChallenge ∧ f.erasures = 0 ∧ parseTagFrame x.pos opChallenge f.bits = some g ∧
      g.tstat = 0 ∧ (s.port p).check = none ∧ (s.pos p x.pos).session = some h ∧ (s.pos p x.pos).record = some n ∧
      beAt g.payload 0 6 = s.count n) ∧
    (∃ (s : State) (p : Nat) (x : Txn) (f : RxFrame) (g : TagFrame), s.Expects p x ∧ x.op = opCatchup ∧
      f.erasures = 0 ∧ parseTagFrame x.pos opCatchup f.bits = some g ∧ g.tstat = 1 ∧
      x.holdUsed < (s.port p).spuLimitUs) ∧
    (∃ (s : State) (p n : Nat) (x : Txn), s.running = true ∧ s.quiet ∧ (s.port p).txn = some x ∧
      (s.port p).spuWait = some n ∧ s.spuUsed p < 4 ∧ x.op ≠ opAssign ∧ x.op ≠ opTrim ∧ x.finish = false ∧
      x.holdUs ≠ 0 ∧ (∀ e ∈ s.ports, e.1 / 16 = p / 16 → e.1 ≠ p → ∀ m, e.2.spuWait = some m → n < m ∨ (n = m ∧ p <
      e.1))) ∧
    (∃ (s : State) (p : Nat) (x : Txn), s.running = true ∧ s.quiet ∧ (s.port p).txn = some x ∧ x.holding = true) ∧
    (∃ (s : State) (p : Nat) (x : Txn), s.running = true ∧ s.quiet ∧ (s.port p).txn = some x ∧ x.holding = true ∧
      x.owner = .catchup ∧ (s.port p).check = none) :=
  ⟨⟨lineTag fun x => { x with txn := some beatTxn }, 0, 0, 0, beatTxn, by simp only [expects_iff]; decide +kernel⟩,
    ⟨lineTag fun x => { x with txn := some beatTxn }, 0, beatTxn, { bits := [], erasures := 3, contention := 0 },
      by simp only [expects_iff]; decide +kernel⟩,
    ⟨lineTag fun x => { x with txn := some { wire .beat opChallenge with tries := 1 }, chainLen := 2, present := 3 },
      0, 0, 0, { wire .beat opChallenge with tries := 1 }, accClass, by simp only [expects_iff]; decide +kernel⟩,
    ⟨lineTag fun x => { x with txn := some beatTxn }, 0, 3, beatTxn, answer 0 beatAnswer, answered 0 beatAnswer,
      tagSession, by simp only [expects_iff]; decide +kernel⟩,
    ⟨lineTag fun x => limited { x with txn := some catchup }, 0, catchup, answer 1 [], answered 1 [],
      by simp only [expects_iff]; decide +kernel⟩,
    ⟨lineTag fun x => limited { x with txn := some { catchup with holdUs := 10 }, spuWait := some 3 }, 0, 3, {
      catchup with holdUs := 10 }, by simp only [quiet_iff]; decide +kernel⟩,
    ⟨lineTag fun x => limited { x with txn := some { catchup with holding := true } }, 0, { catchup with holding :=
      true }, by simp only [quiet_iff]; decide +kernel⟩,
    ⟨lineTag fun x => limited { x with txn := some { catchup with holding := true } }, 0, { catchup with holding :=
      true }, by simp only [quiet_iff]; decide +kernel⟩⟩

theorem meets_JournalDrainsAndCompacts :
    (∃ s : State, s.running = true ∧ s.cnt.ready = true ∧ s.cnt.drain = .idle ∧ s.drainSize ≠ 0) ∧
    (∃ (s : State) (n : Nat) (l : List Readback) (e : Entry), s.running = true ∧ s.cnt.drain = .programming n ∧
      (∀ r ∈ l, r = .equal) ∧ (s.vig.buffer.take n).getLast? = some e) ∧
    (∃ s : State, s.running = true ∧ s.cnt.drain = .programming 1 ∧ s.cnt.drainFails < 2) ∧
    (∃ s : State, s.running = true ∧ s.cnt.drain = .programming 1 ∧ s.cnt.drainFails = 2) ∧
    (∃ s : State, s.running = true ∧ s.mode = .service ∧ s.cnt.drain = .programming 1 ∧ s.cnt.compaction = .none ∧
      s.ldr.running = none) ∧
    (∃ (s : State) (u : BitVec 64), s.running = true ∧ s.cnt.drain = .paused u) ∧
    (∃ s : State, s.running = true ∧ s.compactionDue = true ∧ s.spw.early = false) ∧
    (∃ s : State, s.running = true ∧ s.compactionDue = true ∧ s.spw.early = true) ∧
    (∃ (s : State) (k : Checkpoint), s.running = true ∧ s.cnt.compaction = .program k true) ∧
    (∃ (s : State) (k : Checkpoint), s.running = true ∧ s.cnt.compaction = .blow k true ∧ s.otp.ratchet < 65536) ∧
    (∃ s : State, s.running = true ∧ s.cnt.compaction = .erase ∧ s.bootSuspended = true) ∧
    (∃ s : State, s.running = true ∧ s.cnt.compaction = .erase ∧ s.bootSuspended = false) :=
  ⟨⟨journal id, by decide +kernel⟩,
    ⟨journal fun c => { c with drain := .programming 1 }, 1, [.equal], journalled, by decide +kernel⟩,
    ⟨journal fun c => { c with drain := .programming 1 }, by decide +kernel⟩,
    ⟨journal fun c => { c with drain := .programming 1, drainFails := 2 }, by decide +kernel⟩,
    ⟨journal fun c => { c with drain := .programming 1 }, by decide +kernel⟩,
    ⟨journal fun c => { c with drain := .paused 5 }, 5, by decide +kernel⟩,
    ⟨journal fun c => { c with headSeq := 393216 }, by decide +kernel⟩,
    ⟨early (journal fun c => { c with headSeq := 393216 }), by decide +kernel⟩,
    ⟨journal fun c => { c with compaction := .program ckpt true }, ckpt, by decide +kernel⟩,
    ⟨journal fun c => { c with compaction := .blow ckpt true }, ckpt, by decide +kernel⟩,
    ⟨journal fun c => { c with compaction := .erase, drain := .programming 1 }, by decide +kernel⟩,
    ⟨journal fun c => { c with compaction := .erase }, by decide +kernel⟩⟩

theorem meets_SupplyWatch :
    (∃ (s : State) (nv c : Nat) (e : SupplyEntry), s.running = true ∧ s.spw.running = true ∧
      s.spw.lastConv ≠ some s.tick ∧ s.spwNext = some c ∧ s.supplyEntry c = some e ∧ e.ac = false ∧ s.noBind) ∧
    (∃ (s : State) (nv c : Nat) (e : SupplyEntry), s.running = true ∧ s.spw.running = true ∧
      s.spw.lastConv ≠ some s.tick ∧ s.spwNext = some c ∧ s.supplyEntry c = some e ∧ e.ac = true ∧ s.noBind) ∧
    (∃ (s : State) (nv : Nat), s.running = true ∧ (s.spw.running = false ∨ s.spw.lastConv = some s.tick)) ∧
    (∃ (s : State) (nv c : Nat) (e : SupplyEntry), s.running = true ∧ s.spw.running = true ∧
      s.spw.lastConv ≠ some s.tick ∧ s.spwNext = some c ∧ s.supplyEntry c = some e ∧ e.ac = false ∧ e.bus = true ∧
      mean ((supplyMv (spwCode nv) e.scale :: (s.spwChan c).samples).take 8) < mv e.warn ∧ s.spw.early = false ∧
      s.noBind) ∧
    (∃ (s : State) (u : BitVec 64), s.running = true ∧ s.quiet ∧ s.spw.early = true ∧ s.spw.clearAt = some u ∧
      u ≤ s.tick ∧ s.mod.snapDeferred = false ∧ s.cnt.compaction = .none) ∧
    (∃ (s : State) (c : Nat) (u : BitVec 64), s.running = true ∧ s.spw.running = true ∧ c < 8 ∧
      (s.spwChan c).transEnd = some u ∧ u ≤ s.tick) ∧
    (∃ (s : State) (c : Nat) (e : SupplyEntry) (lo hi : Rat), s.running = true ∧ s.spw.running = true ∧ c < 8 ∧
      s.supplyEntry c = some e ∧ e.ac = false ∧ s.tick.toNat % 1000 = 0 ∧ (s.spwChan c).winWhole = true ∧
      (s.spwChan c).winMin = some lo ∧ (s.spwChan c).winMax = some hi) ∧
    (∃ (s : State) (c : Nat) (e : SupplyEntry), s.running = true ∧ s.spw.running = true ∧ c < 8 ∧
      s.supplyEntry c = some e ∧ e.ac = true ∧ (s.spwChan c).synth = none ∧ s.noBind ∧
      3000000 ≤ (s.tick - (s.spwChan c).lastCross).toNat * e.hz * 2) :=
  ⟨⟨supply 3 0 id, 600000000, 0, rail 3 0, by simp only [noBind_iff]; decide +kernel⟩,
    ⟨supply 1 0 id, 600000000, 0, rail 1 0, by simp only [noBind_iff]; decide +kernel⟩,
    ⟨supply 1 0 fun x => { x with running := false }, 600000000, by decide +kernel⟩,
    ⟨supply 3 2 id, 600000000, 0, rail 3 2, by simp only [noBind_iff]; decide +kernel⟩,
    ⟨supply 3 2 fun x => { x with early := true, clearAt := some 5 }, 5, by simp only [quiet_iff]; decide +kernel⟩,
    ⟨supply 3 2 (channel fun x => { x with transEnd := some 5, events := 8 }), 0, 5, by decide +kernel⟩,
    ⟨{ supply 3 2 (channel fun x => { x with winWhole := true, winMin := some 0, winMax := some 500 }) with tick :=
      3000 }, 0, rail 3 2, 0, 500, by decide +kernel⟩,
    ⟨{ supply 1 2 id with tick := 30000 }, 0, rail 1 2, by simp only [noBind_iff]; decide +kernel⟩⟩

theorem meets_WindowAndLinks :
    (∃ (s : State) (off len : Nat) (chk : PageCheck), s.running = true ∧ s.ldr.isOpen = true ∧
      (∀ i < len, s.readable (off + i) = true) ∧ s.readable off = true ∧
      (∀ g ∈ windowPages off len, s.cached g = true)) ∧
    (∃ (s : State) (off len : Nat) (chk : PageCheck), s.running = true ∧ s.ldr.isOpen = false) ∧
    (∃ (s : State) (off len : Nat) (chk : PageCheck), s.running = true ∧ s.ldr.isOpen = true ∧
      s.readable off = false) ∧
    (∃ (s : State) (off : Nat) (data : Bytes) (chk : PageCheck), s.running = true ∧ s.mode = .service ∧
      s.ldr.isOpen = true ∧ (∀ i < data.length, s.writable (off + i) = true) ∧ (data.length = 4 ∨ data.length = 8) ∧
      off % data.length = 0 ∧ s.cached (recordPage (off / 256)) = true ∧ s.ldr.locked = [] ∧ s.ldr.stalled = [] ∧ (∀
      k < 16, (s.record (16 * recordPage (off / 256) + k)).state = 0 → s.counterClear (16 * recordPage (off / 256) +
      k) = true)) ∧
    (∃ (s : State) (off : Nat) (data : Bytes) (chk : PageCheck), s.running = true ∧ s.mode ≠ .service ∧
      s.ldr.errValid = false) ∧
    (∃ s : State, s.running = true ∧ s.stepDone 10 = true) ∧
    (∃ (s : State) (ce ue : Nat) (a : BitVec 64), s.running = true ∧ s.links.trained = true ∧ ue ≠ 0) ∧
    (∃ s : State, s.running = true ∧ s.links.trained = true) ∧
    (∃ (s : State) (speed : Nat) (width : Nat) (rev : Bool), s.running = true ∧ s.stepDone 2 = true ∧
      s.links.perstN = true ∧ s.links.linkUp = false ∧ 1 ≤ speed ∧ speed ≤ 4 ∧ width ∈ [1, 2, 4, 8]) ∧
    (∃ s : State, s.running = true ∧ s.mode = .service ∧ s.links.linkUp = true) ∧
    (∃ (s : State) (d3 : Bool), s.running = true ∧ s.quiet ∧ s.links.linkUp = true ∧ s.sch.held = [] ∧
      s.links.pba = 0 ∧ s.links.busMaster = true) ∧
    (∃ (s : State) (v : Nat), s.running = true ∧ s.stepDone 1 = true ∧ v < 1024 ∧ s.links.pba.getLsbD v = true ∧
      s.links.fnMask = false ∧ s.canMaster = true ∧ tabGet 0 s.links.msixTable (16 * v + 12) = 1) ∧
    (∃ (s : State) (i : TapInstr), s.running = true ∧ i ∈ [.bypass, .idcode, .sample]) ∧
    (∃ (s : State) (i : TapInstr), s.running = true ∧ i ∈ [.extest, .clamp, .highz, .vendor] ∧ s.otp.stateOf < 3) ∧
    (∃ (s : State) (i : TapInstr), s.running = true ∧ i ∈ [.extest, .clamp, .highz, .vendor] ∧ 3 ≤ s.otp.stateOf) :=
  ⟨⟨serving 1, 0x80, 8, good, by decide +kernel⟩,
    ⟨{ serving 1 with ldr := Larder.start }, 0x80, 8, good, by decide +kernel⟩,
    ⟨serving 1, 0x5000000, 8, good, by decide +kernel⟩,
    ⟨((serving 1).withRecord 3 bound).counting, 0x380, [1, 2, 3, 4], good, by decide +kernel⟩,
    ⟨{ serving 1 with mode := .stage }, 0x380, [1, 2, 3, 4], good, by decide +kernel⟩,
    ⟨serving 1, by decide +kernel⟩,
    ⟨serving 1, 1, 1, 5, by decide +kernel⟩,
    ⟨serving 1, by decide +kernel⟩,
    ⟨unlinked, 3, 4, true, by decide +kernel⟩,
    ⟨serving 1, by decide +kernel⟩,
    ⟨serving 1, true, by simp only [quiet_iff]; decide +kernel⟩,
    ⟨messaging, 3, by decide +kernel⟩,
    ⟨serving 1, .sample, by decide +kernel⟩,
    ⟨serving 1, .extest, by decide +kernel⟩,
    ⟨deployed, .extest, by decide +kernel⟩⟩

theorem meets_SchedulerEpochs :
    (∃ s : State, s.running = true ∧ s.quiet ∧ s.sch.epochDue = false ∧ s.rcp.activating = none) ∧
    (∃ (s : State) (n : List AccClass × List CtrClass), s.running = true ∧ s.quiet ∧ s.sch.epochDue = true ∧
      s.prfQuiet ∧ s.mode ≠ .service ∧ s.que = [] ∧ s.sch.ops = [] ∧ s.rcp.activating = none ∧
      s.sch.classesNew = some n) ∧
    (∃ (s : State) (u : Nat), s.running = true ∧ s.quiet ∧ s.sch.epochDue = true ∧ s.prfQuiet ∧ s.ports = [] ∧
      s.que = [] ∧ s.sch.ops = [] ∧ s.rcp.activating = none ∧ 128 ≤ u ∧ u < 176 ∧ s.unitIs u .rejoining = true ∧
      (s.unit u).passed = true) ∧
    (∃ (s : State) (p i r : Nat) (x : Port) (y : Pos), s.running = true ∧ s.quiet ∧ s.sch.epochDue = true ∧
      s.prfQuiet ∧ s.mode = .service ∧ s.que = [] ∧ s.sch.ops = [] ∧ s.rcp.activating = none ∧
      s.sch.classesNew = none ∧ s.ports = [(p, x)] ∧ x.pos = [(i, y)] ∧ s.unitIs p .active = true ∧
      x.state = .running ∧ x.jobs = [] ∧ x.probeAt = none ∧ x.collectAt = none ∧ y.beatAt = some r ∧
      r ≤ s.tick.toNat ∧ y.authAt = none ∧ y.prioAt = none ∧ y.catchupAt = none ∧ y.catchupDue = false ∧
      y.shadow = none) ∧
    (∃ (s : State) (p i : Nat) (x : Port) (y : Pos) (j : Job) (c : AccClass), s.running = true ∧ s.quiet ∧
      s.sch.epochDue = true ∧ s.prfQuiet ∧ s.mode = .service ∧ s.que = [] ∧ s.sch.ops = [] ∧
      s.rcp.activating = none ∧ s.sch.classesNew = none ∧ s.ports = [(p, x)] ∧ x.pos = [(i, y)] ∧ x.jobs = [j] ∧
      j.kind = jobBeat ∧ j.pos = i ∧ j.deadline ≤ s.tick.toNat ∧ x.txn = none ∧ x.probeAt = none ∧
      x.collectAt = none ∧ y.beatAt = none ∧ y.authAt = none ∧ y.prioAt = none ∧ y.catchupAt = none ∧
      s.accClass y.classId = some c ∧ y.misses + 1 < c.missLimit ∧ y.misses < 15) ∧
    (∃ (s : State) (p i n : Nat) (run : SpecRun) (h : TagSession), s.running = true ∧ s.quiet ∧
      s.mayPrepare p i = true ∧ (s.pos p i).record = some n ∧ (s.pos p i).session = some h ∧
      s.pageThere (recordPage n) ∧ s.server 1 = none) ∧
    (∃ (s : State) (p i l : Nat) (run : SpecRun) (b : BeatPrep) (n : BitVec 64), s.running = true ∧ s.quiet ∧
      (s.pos p i).shadow = some b ∧ b.lane = some l ∧ b.nonce = some n ∧ run.lane = none) ∧
    (∃ (s : State) (p i : Nat) (run : SpecRun), s.running = true ∧ s.quiet ∧ s.mayPrepare p i = false ∧
      (∀ b, (s.pos p i).shadow = some b → b.lane = none)) ∧
    (∃ (s : State) (c f : Nat) (a : AccClass), s.running = true ∧ s.mode = .service ∧
      tabFind s.sch.firstBeat c = some f ∧ s.accClass c = some a ∧ f - 1 + 2 * a.beatMs * 1000 ≤ s.tick.toNat) :=
  ⟨⟨serving 1, by simp only [quiet_iff]; decide +kernel⟩,
    ⟨epochDue { serving 1 with mode := .stage, que := [], sch := { (serving 1).sch with classesNew := some ([⟨2, 1,
      3, false, 100, 10, 0⟩], []) } }, ([⟨2, 1, 3, false, 100, 10, 0⟩], []),
      by simp only [quiet_iff, prfQuiet_iff]; decide +kernel⟩,
    ⟨epochDue { (serving 1).setUnit 130 { st := .rejoining, drainFor := .restart, drainEnd := 0, passed := true }
      with ports := [], que := [] }, 130, by simp only [quiet_iff, prfQuiet_iff]; decide +kernel⟩,
    ⟨epochDue (scheduled id lateTag), 0, 1, 50, (scheduled id lateTag).port 0, lateTag,
      by simp only [quiet_iff, prfQuiet_iff]; decide +kernel⟩,
    ⟨epochDue (scheduled lateJobs tag), 0, 1, (scheduled lateJobs tag).port 0, tag, lateBeat, accClass,
      by simp only [quiet_iff, prfQuiet_iff]; decide +kernel⟩,
    ⟨warmed, 0, 1, 3, ⟨true, 0, none⟩, tagSession, by simp only [quiet_iff, State.pageThere]; decide +kernel⟩,
    ⟨scheduled id { tag with shadow := some { prep with lane := some 3 } }, 0, 1, 3, ⟨true, 0, none⟩, { prep with
      lane := some 3 }, 5, by simp only [quiet_iff]; decide +kernel⟩,
    ⟨serving 1, 0, 1, ⟨true, 0, none⟩, by decide +kernel, (quiet_iff _).2 (by decide +kernel), by decide +kernel,
      nofun⟩,
    ⟨{ serving 1 with tick := 300000, sch := { (serving 1).sch with firstBeat := [(1, 5)] } }, 1, 5, accClass,
      by decide +kernel⟩⟩

theorem meets_StepRunsTheFront :
    ∃ s : State, s.pending = [] :=
  ⟨serving 1, rfl⟩

theorem meets_GuardsStaySafe :
    ∃ s t : State, s.guardsSafe ∧ step s = .next t :=
  ⟨{ serving 1 with pending := [.vbatLowDetect] }, _, by unfold State.guardsSafe; decide +kernel, rfl⟩

end Sys2Proof.Tests
end

section
/-! PROOF. Every command ends in `settle`, and what `settle` answers has safe guards (R39, R47, R85, R102). -/

namespace Sys2Proof.Machine

/-- Every arm of the dispatch is one of the frames `always`, `onClock` and `reacting`, and each of them is `settle` of
what the command did, whatever that was. -/
theorem exec_ends_in_settle (c : Instr) (s : State) : ∃ e, exec c s = .next (settle s e) := by
  cases c <;> exact ⟨_, rfl⟩

/-- The mode, the guard-force line and the waiting RETIRE that a command leaves are the ones `settle` judges the guards
by. -/
theorem settle_guardsSafe (old e : State) : (settle old e).guardsSafe := by
  intro h
  rw [settle_mode, settle_vig, settle_life] at h
  have forbidden : ¬ (e.mode = .service ∧ e.vig.force = false ∧ e.life.retireWait = false) := by
    rintro ⟨hmode, hforce, hretire⟩
    simp [hmode, hforce, hretire] at h
  have hguards := (settle_settled old e).guards
  rw [if_neg forbidden] at hguards
  exact hguards.1

theorem exec_guardsSafe {c : Instr} {s t : State} (h : exec c s = .next t) : t.guardsSafe := by
  obtain ⟨e, he⟩ := exec_ends_in_settle c s
  obtain rfl : settle s e = t := Host.Outcome.next.inj (he.symm.trans h)
  exact settle_guardsSafe s e

theorem step_nil {s : State} (h : s.pending = []) : step s = .next s := by simp [step, h]

theorem step_cons {s : State} {c : Instr} {cs : List Instr} (h : s.pending = c :: cs) :
    step s = exec c { s with pending := cs } := by simp [step, h]

/-- Settles O60: a command's end makes the guards safe whatever the command did, and an idle step changes nothing. -/
theorem guardsStaySafe : Obligations.GuardsStaySafe := by
  intro s t hs ht
  cases hp : s.pending with
  | nil =>
    obtain rfl : s = t := Host.Outcome.next.inj ((step_nil hp).symm.trans ht)
    exact hs
  | cons c cs => exact exec_guardsSafe ((step_cons hp).symm.trans ht)

end Sys2Proof.Machine
end

section
/-! PROOF. A QUARANTINE request of MOD_CTRL: entry from SERVICE with its cause, the discard elsewhere, and the link reset of
PERST_N in QUARANTINE (R43, R49, R52, R55, R57). -/

namespace Sys2Proof.Machine

/-! ## The first of a list by a key -/

/-- An element put behind a list comes first only when its key is smaller than every other. -/
theorem minBy_append_singleton {α : Type} (key : α → Nat) (l : List α) (a : α) :
    minBy key (l ++ [a]) = match minBy key l with
      | none => some a
      | some m => if key a < key m then some a else some m := by
  induction l with
  | nil => rfl
  | cons c l ih =>
    rw [List.cons_append, minBy, ih, minBy]
    cases minBy key l with
    | none => rfl
    | some m => grind

theorem minBy_le_of_mem {α : Type} (key : α → Nat) {l : List α} {b : α} (h : b ∈ l) :
    ∃ m, minBy key l = some m ∧ key m ≤ key b := by
  induction l with
  | nil => cases h
  | cons c l ih =>
    rw [minBy]
    rcases List.mem_cons.1 h with rfl | h
    · cases minBy key l <;> grind
    · obtain ⟨m, hm, hle⟩ := ih h
      rw [hm]
      grind

theorem minBy_insertNew_of_mem {α : Type} [DecidableEq α] (key : α → Nat) {l : List α} {a b : α} (hb : b ∈ l)
    (h : key b ≤ key a) : minBy key (insertNew l a) = minBy key l := by
  unfold insertNew
  split
  · rfl
  · obtain ⟨m, hm, hle⟩ := minBy_le_of_mem key hb
    rw [minBy_append_singleton, hm]
    exact if_neg (by omega)

theorem mem_insertNew {α : Type} [DecidableEq α] {l : List α} {a b : α} : b ∈ insertNew l a ↔ b = a ∨ b ∈ l := by
  unfold insertNew
  split <;> grind

/-! ## Recording a cause -/

theorem State.recordCause_keeps (s : State) (c : QuarCause) : KeepsBut [.vig] s (s.recordCause c) := by
  intro p hp
  cases p with
  | vig => exact absurd (by decide) hp
  | queues => exact fun _ => rfl
  | guards => exact .inl ⟨rfl, rfl, rfl⟩
  | irq => exact ⟨rfl, rfl, rfl⟩
  | hold => exact ⟨rfl, rfl⟩
  | _ => rfl

theorem State.mem_recordCause {s : State} {c d : QuarCause} : d ∈ (s.recordCause c).vig.causes ↔ d = c ∨ d ∈ s.vig.causes :=
  mem_insertNew

/-- A cause that stands behind a recorded one leaves the first as it is. -/
theorem State.firstCause_recordCause {s : State} {c d : QuarCause} (hd : d ∈ s.vig.causes) (h : d.code ≤ c.code) :
    (s.recordCause c).firstCause = s.firstCause :=
  minBy_insertNew_of_mem QuarCause.code hd h

theorem State.zeroizeFor_of_not {s : State} {c : QuarCause} (h : c.zeroizes = false) : s.zeroizeFor c = s := by
  simp [State.zeroizeFor, h]

theorem State.quarantine_service {s : State} {c : QuarCause} (hs : s.mode = .service) (hz : c.zeroizes = false) :
    s.quarantine c = (s.recordCause c).enterQuarantine := by
  simp only [State.quarantine, hs, zeroizeFor_of_not hz]

/-- A cause behind the first one, which QUARANTINE was entered with, is recorded and does no more (R55). -/
theorem State.quarantine_behind {s : State} {c : QuarCause} (hs : s.mode = .quarantine) (hz : c.zeroizes = false)
    (hf : (s.recordCause c).firstCause = s.mod.quarCause) : s.quarantine c = s.recordCause c := by
  simp only [State.quarantine, hs, zeroizeFor_of_not hz, State.recause]
  exact if_pos hf

/-! ## Entering QUARANTINE -/

/-- A state with the fields of another that the entry into QUARANTINE sets or silences, or that completions and events
change. -/
def State.withEntryOf (t s : State) : State :=
  { t with
    mode := s.mode, mod := s.mod, rcp := s.rcp, ports := s.ports, ent := s.ent, prf := s.prf, cnt := s.cnt, ldr := s.ldr,
    spc := s.spc, glz := s.glz, msp := s.msp, out := s.out, que := s.que, sch := s.sch, sts := s.sts,
    irqStat := s.irqStat, links := s.links }

/-- Nothing else differs: the Retained Store, which holds the causes, is the same too. -/
def EntersOnly (s t : State) : Prop := t.withEntryOf s = s

/-- The parts that `EntersOnly` lets change. -/
def entryParts : List Part := [.mode, .mod, .rcp, .ports, .ent, .prf, .cnt, .ldr, .spc, .glz, .msp] ++ talkParts

theorem EntersOnly.refl (s : State) : EntersOnly s s := rfl

theorem EntersOnly.trans {s t u : State} (h : EntersOnly s t) (k : EntersOnly t u) : EntersOnly s u :=
  (congrArg (·.withEntryOf s) k :).trans h

theorem EntersOnly.foldl {α : Type} (f : State → α → State) (hf : ∀ s a, EntersOnly s (f s a)) (l : List α) (s : State) :
    EntersOnly s (l.foldl f s) := by
  induction l generalizing s with
  | nil => exact .refl s
  | cons a l ih => exact (hf s a).trans (ih _)

theorem TalksOnly.enters {s t : State} (h : TalksOnly s t) : EntersOnly s t := (congrArg (·.withEntryOf s) h :)

theorem EntersOnly.vig {s t : State} (h : EntersOnly s t) : t.vig = s.vig := (congrArg State.vig h :)

theorem EntersOnly.keeps {s t : State} (h : EntersOnly s t) : KeepsBut entryParts s t := by
  have fab : t.fab = s.fab := (congrArg State.fab h :)
  intro p hp
  cases p with
  | mode | mod | rcp | ports | ent | prf | cnt | ldr | spc | glz | msp | out | queues | sch | sts | irq | links =>
    exact absurd (by decide) hp
  | free => exact (congrArg State.free h :)
  | refclk => exact (congrArg State.refclk h :)
  | tick => exact (congrArg State.tick h :)
  | kept => exact (congrArg State.kept h :)
  | vig => exact h.vig
  | otp => exact (congrArg State.otp h :)
  | life => exact (congrArg State.life h :)
  | rng => exact (congrArg State.rngEmpty h :)
  | flash => exact (congrArg State.flash h :)
  | spw => exact (congrArg State.spw h :)
  | hold => exact ⟨(congrArg State.holdPcie h :), (congrArg State.holdMsp h :)⟩
  | fabric => simp only [Part.same, fab]
  | guards => exact .inl (by rw [fab]; exact ⟨rfl, rfl, rfl⟩)

theorem State.dropOp_enters (s : State) (ctx : Nat) : EntersOnly s (s.dropOp ctx) := rfl

theorem State.finishOp_enters (s : State) (ctx : Nat) (st : Status) (r : Bytes) (b : Option Bytes) :
    EntersOnly s (s.finishOp ctx st r b) := by
  unfold State.finishOp
  split
  · exact .refl s
  · exact (s.dropOp_enters ctx).trans (State.complete_talks ..).enters

theorem State.holdCount_talks (s : State) (id n : Nat) : TalksOnly s (s.holdCount id n) := rfl

theorem State.quarantineOps_enters (s : State) : EntersOnly s s.quarantineOps := by
  unfold State.quarantineOps
  refine EntersOnly.foldl _ (fun s o => ?_) _ s
  exact (s.finishOp_enters o.ctx _ [] none).trans (TalksOnly.ite (State.holdCount_talks ..)).enters

theorem State.quarantineQueue_talks (s : State) (q : Nat) : TalksOnly s (s.quarantineQueue q) := by
  unfold State.quarantineQueue
  split
  · exact .refl s
  · have emptied : TalksOnly s (s.setQueue q { s.queue q with buf := [], evBufs := [] }) := rfl
    exact (emptied.trans (State.dropStore_talks _ q)).trans
      (TalksOnly.foldl _ (fun s d => s.complete_talks q d .quarantined [] none false) _ _)

theorem State.quiesceBlocks_enters (s : State) : EntersOnly s s.quiesceBlocks := rfl

theorem State.attend_enters (s : State) (i : Nat) : EntersOnly s (s.attend i) := by
  unfold State.attend; split <;> rfl

theorem State.setMode_enters (s : State) (m : Mode) : EntersOnly s (s.setMode m) := by
  have moved : EntersOnly s { s with mode := m } := rfl
  exact (moved.trans (State.raise_talks _ .mode).enters).trans (State.attend_enters _ 0)

@[simp] theorem State.setMode_mode (s : State) (m : Mode) : (s.setMode m).mode = m := by simp [setMode]
@[simp] theorem State.setMode_mod (s : State) (m : Mode) : (s.setMode m).mod = s.mod := by simp [setMode]
@[simp] theorem State.setMode_vig (s : State) (m : Mode) : (s.setMode m).vig = s.vig := by simp [setMode]
@[simp] theorem State.setMode_sch (s : State) (m : Mode) : (s.setMode m).sch = s.sch := by simp [setMode]

/-- The entry's first half: operations and descriptors completed, the blocks quiet. -/
def State.quieted (s : State) : State :=
  (s.quarantineOps.que.foldl (fun s e => s.quarantineQueue e.1) s.quarantineOps).quiesceBlocks

theorem State.quieted_enters (s : State) : EntersOnly s s.quieted := by
  have queues := TalksOnly.foldl _ (fun s (e : Nat × Queue) => s.quarantineQueue_talks e.1) s.quarantineOps.que s.quarantineOps
  exact (s.quarantineOps_enters.trans queues.enters).trans (State.quiesceBlocks_enters _)

@[simp] theorem State.quieted_ops (s : State) : s.quieted.sch.ops = [] := rfl

/-- The entry's second half, from SERVICE: the first cause is shown, unread by both requesters (R45). -/
def State.showCause (s : State) : State :=
  { s with mod := { s.mod with
    quarCause := s.firstCause, fromMode := 2, readHost := false, readMsp := false, ackDone := false, goReq := false } }

theorem State.showCause_enters (s : State) : EntersOnly s s.showCause := rfl

theorem State.enterQuarantine_service {s : State} (h : s.mode = .service) :
    s.enterQuarantine = ((s.quieted.showCause.setMode .quarantine).raise .quarantine).attend 3 := by
  unfold State.enterQuarantine
  rw [if_pos h]
  rfl

theorem State.enterQuarantine_enters {s : State} (h : s.mode = .service) : EntersOnly s s.enterQuarantine := by
  rw [enterQuarantine_service h]
  exact (((s.quieted_enters.trans (State.showCause_enters _)).trans (State.setMode_enters _ _)).trans
    (State.raise_talks _ _).enters).trans (State.attend_enters _ _)

/-- `e` is `s` after a QUARANTINE request taken in SERVICE. -/
structure EnteredFrom (s e : State) : Prop where
  keeps : KeepsBut (.vig :: entryParts) s e
  mode : e.mode = .quarantine
  fromService : e.mod.fromMode = 2
  ops : e.sch.ops = []
  cause : e.mod.quarCause = e.firstCause
  unreadHost : e.mod.readHost = false
  unreadMsp : e.mod.readMsp = false

theorem State.enterQuarantine_entered {s : State} (h : s.mode = .service) : EnteredFrom s s.enterQuarantine := by
  refine ⟨(enterQuarantine_enters h).keeps.mono (by decide), ?_, ?_, ?_, ?_, ?_, ?_⟩ <;>
    simp [enterQuarantine_service h, showCause, firstCause]

/-! ## Requests -/

/-- A request of one requester in SERVICE. -/
theorem State.quarantine_entered {s : State} {c : QuarCause} (hs : s.mode = .service) (hz : c.zeroizes = false) :
    EnteredFrom s (s.quarantine c) ∧ c ∈ (s.quarantine c).vig.causes := by
  rw [quarantine_service hs hz]
  have entered := enterQuarantine_entered (s := s.recordCause c) hs
  refine ⟨{ entered with keeps := ((s.recordCause_keeps c).mono (by decide)).trans entered.keeps }, ?_⟩
  rw [(enterQuarantine_enters (s := s.recordCause c) hs).vig]
  exact mem_recordCause.2 (.inl rfl)

/-- A second request in the same cycle, its cause behind one recorded. -/
theorem EnteredFrom.quarantine {s e : State} {c d : QuarCause} (h : EnteredFrom s e) (hz : c.zeroizes = false)
    (hd : d ∈ e.vig.causes) (hc : d.code ≤ c.code) :
    EnteredFrom s (e.quarantine c) ∧ c ∈ (e.quarantine c).vig.causes ∧ d ∈ (e.quarantine c).vig.causes := by
  have first := State.firstCause_recordCause hd hc
  rw [State.quarantine_behind h.mode hz (first.trans h.cause.symm)]
  refine ⟨?_, State.mem_recordCause.2 (.inl rfl), State.mem_recordCause.2 (.inr hd)⟩
  exact {
    keeps := h.keeps.trans ((e.recordCause_keeps c).mono (by decide))
    mode := h.mode, fromService := h.fromService, ops := h.ops, cause := h.cause.trans first.symm
    unreadHost := h.unreadHost, unreadMsp := h.unreadMsp }

theorem State.writeQuarantine_entered {s : State} {pcie msp : Bool} (hs : s.mode = .service) (h : (pcie || msp) = true) :
    EnteredFrom s (s.writeQuarantine pcie msp)
      ∧ (pcie = true → .hostRequest ∈ (s.writeQuarantine pcie msp).vig.causes)
      ∧ (msp = true → .mspRequest ∈ (s.writeQuarantine pcie msp).vig.causes) := by
  unfold State.writeQuarantine
  simp only [if_pos hs]
  obtain ⟨host, hostIn⟩ := quarantine_entered (c := .hostRequest) hs rfl
  obtain ⟨mgmt, mgmtIn⟩ := quarantine_entered (c := .mspRequest) hs rfl
  match pcie, msp with
  | false, false => simp at h
  | true, false => exact ⟨host, fun _ => hostIn, nofun⟩
  | false, true => exact ⟨mgmt, nofun, fun _ => mgmtIn⟩
  | true, true =>
    obtain ⟨both, mgmtIn, hostIn⟩ := host.quarantine (c := .mspRequest) rfl hostIn (by decide)
    exact ⟨both, fun _ => hostIn, fun _ => mgmtIn⟩

theorem State.writeQuarantine_reject {s : State} (h : s.mode ≠ .service) :
    s.writeQuarantine true false = s.reject .pcie := by
  simp [writeQuarantine, h]

theorem State.reject_pcie_keeps (s : State) : KeepsBut [.sts] s (s.reject .pcie) := by
  intro p hp
  cases p with
  | sts => exact absurd (by decide) hp
  | queues => exact fun _ => rfl
  | guards => exact .inl ⟨rfl, rfl, rfl⟩
  | irq => exact ⟨rfl, rfl, rfl⟩
  | hold => exact ⟨rfl, rfl⟩
  | _ => rfl

/-- A command in which no device condition changes sends no message, and leaves the statistics it made. -/
theorem settle_sts {old e : State} (h : e.irqStat = old.irqStat) : (settle old e).sts = e.sts :=
  ((settle_settled old e).calm h).2

/-! ## PERST_N in QUARANTINE -/

theorem foldl_links {α : Type} {f : State → α → State} (hf : ∀ s a, (f s a).links = s.links) (l : List α) (s : State) :
    (l.foldl f s).links = s.links := by
  induction l generalizing s with
  | nil => rfl
  | cons a l ih => exact (ih _).trans (hf s a)

@[simp] theorem State.dropStore_links (s : State) (q : Nat) : (s.dropStore q).links = s.links := by
  unfold State.dropStore
  exact foldl_links (fun s _ => by simp [eventLost]) _ _

theorem State.queuesReset_talks (s : State) : TalksOnly s s.queuesReset := by
  have dropped := TalksOnly.foldl _ (fun s (e : Nat × Queue) => s.dropStore_talks e.1) s.que s
  exact dropped.trans rfl

@[simp] theorem State.queuesReset_que (s : State) : s.queuesReset.que = [] := rfl

@[simp] theorem State.queuesReset_links (s : State) : s.queuesReset.links = s.links :=
  (foldl_links (fun s (e : Nat × Queue) => s.dropStore_links e.1) s.que s :)

theorem State.restartWith_none (s : State) : s.restartWith false false false = s := rfl

/-- In QUARANTINE a link reset restarts nothing: only the link and the queues are reset (R57). -/
theorem State.linkReset_quarantine {s : State} (hr : s.running = true) (hm : s.mode = .quarantine) :
    s.linkReset false false = s.linkDown.queuesReset := by
  have runs : s.linkDown.running = true := hr
  unfold State.linkReset
  simp only [hm, runs]
  exact restartWith_none _

/-- PERST_N is low. -/
def State.perstLow (s : State) : State := { s with links := { s.links with perstN := false } }

theorem State.perstLow_linkDown_talks (s : State) : TalksOnly s s.perstLow.linkDown := rfl

theorem State.perstFalls_quarantine {s : State} (hr : s.running = true) (hm : s.mode = .quarantine)
    (hp : s.links.perstN = true) : s.perstFalls false false = s.perstLow.linkDown.queuesReset := by
  unfold State.perstFalls
  rw [if_pos hp]
  exact linkReset_quarantine (s := s.perstLow) hr hm

theorem State.pump_que_nil {s : State} (h : s.que = []) : s.pump = s := by
  simp [pump, h]

theorem settle_que_nil {old e : State} (h : e.que = []) : (settle old e).que = [] := by
  have quiet : e.safeGuards.que = [] := (congrArg State.que e.safeGuards_rest :).trans h
  unfold settle State.deviceVector
  rw [State.pump_que_nil quiet]
  split
  · exact quiet
  · rcases e.safeGuards.signal_cases with hs | hs <;> rw [hs] <;> exact quiet

/-! ## The commands -/

/-- MOD_QUARANTINE of a running block whose maintenance controller, if it writes, is heard. -/
theorem exec_modQuarantine {s : State} {pcie msp : Bool} (hr : s.running = true) (hh : msp = true → s.hears .msp = true) :
    exec (.modQuarantine pcie msp) s = always s (·.writeQuarantine pcie msp) := by
  have heard : (msp && s.hears .msp) = msp := by cases msp <;> simp [hh]
  show execModQuarantine pcie msp s = _
  simp only [execModQuarantine, always, hr, heard, if_true]

/-- Settles O10: a request in SERVICE records its cause and enters QUARANTINE, both requesters' causes standing in R55's
order; elsewhere it is counted; and PERST_N in QUARANTINE resets the link and the queues and restarts nothing. -/
theorem quarantineRequests : Obligations.QuarantineRequests := by
  unfold Obligations.QuarantineRequests
  refine ⟨fun s pcie msp hr hh hm h => ?_, fun s hr hm => ?_, fun s hr hm hp => ?_⟩
  · obtain ⟨entered, host, mgmt⟩ := State.writeQuarantine_entered hm h
    refine runs_always _ (exec_modQuarantine hr fun _ => hh) _ rfl (entered.keeps.mono (by decide)) ?_
    have off := settle_off (old := s) (e := s.writeQuarantine pcie msp) (by simp [entered.mode])
    simp only [State.firstCause, settle_mode, settle_mod, settle_vig, settle_sch]
    exact ⟨entered.mode, entered.fromService, off, entered.ops, host, mgmt, entered.cause, entered.unreadHost,
      entered.unreadMsp⟩
  · have discarded := State.writeQuarantine_reject hm
    refine runs_always _ (exec_modQuarantine hr nofun) _ discarded s.reject_pcie_keeps ?_
    rw [settle_sts (s.reject_irqStat .pcie)]
    rfl
  · have talks : TalksOnly s s.perstLow.linkDown.queuesReset := s.perstLow_linkDown_talks.trans (State.queuesReset_talks _)
    refine runs_always (·.perstFalls false false) rfl _ (State.perstFalls_quarantine hr hm hp) talks.keeps ?_
    have links := (settle_settled s s.perstLow.linkDown.queuesReset).links
    rw [State.queuesReset_links] at links
    refine ⟨?_, ?_, (congrArg Links.perstN links :), (congrArg Links.linkUp links :), settle_que_nil rfl⟩
    · rw [settle_mode]
      exact (congrArg State.mode talks :).trans hm
    · rw [settle_mod]
      exact (congrArg State.mod talks :)

end Sys2Proof.Machine
end

section
/-! PROOF. RCP_VERIFY_DONE of an ACTIVATE that brings a newer recipe with no section changed (R137, R138), and why what it
changes is not confined to the recipe, the ports, the speculation and the Larder. The HASH of QUEUES is compared, not the
queues: a recipe in force may name another affinity than slot A under the same HASH, and an operation that waits for an
engine of the old set goes on with one of the new (R386, R387). -/

namespace Sys2Proof.Machine

open Sys2Proof.Tests

/-! ## A reload that is in force at once -/

/-- A recipe in force with its generation and its floor; no snapshot is of it yet (R137, step 5). -/
def State.inForce (s : State) (new : Recipe) : State :=
  { s with rcp := { s.rcp with
    gen := new.generation, loadedFloor := new.floor, snapStale := true, recipe := some new } }

theorem portChanges_self (l : List PortEntry) : portChanges l l = [] := by simp [portChanges]

/-- With no live section changed and no reload of FABRIC pending, step 6 has nothing to apply. -/
theorem State.activateApply_inForce {s : State} {old new : Recipe} (hn : (s.squashAll .generation).fab.newNet = none)
    (hc : old.hash 4 = new.hash 4) (hf : old.hash 10 = new.hash 10) (hp : old.ports = new.ports) :
    s.activateApply old new = ((s.squashAll .generation).inForce new).cmdEnd cmdOk := by
  simp [activateApply, activateGo, hn, hc, hf, hp, portChanges_self, inForce, cmdEnd]

theorem State.activateRefusal_none {s : State} {old new : Recipe} (hg : s.rcp.gen < new.generation)
    (hh : ∀ t ∈ stageOnly, old.hash t = new.hash t) (hc : s.classesRefused old new = false) :
    s.activateRefusal 15 old new = none := by
  have newer : ¬ new.generation ≤ s.rcp.gen := by omega
  have stage : (stageOnly.any fun t => old.hash t != new.hash t) = false := by simpa using hh
  simp [activateRefusal, newer, stage, hc]

theorem State.rcpVerifyDone_inForce {s : State} {v : SlotVerdict} {old : Recipe} (hb : s.rcp.busy = some .activateVerify)
    (ho : s.rcp.recipe = some old) (hv : s.verifySlot s.flash.slotA v = 15)
    (ha : s.activateRefusal 15 old (parseRecipe s.flash.slotA) = none)
    (hn : ((s.setSlotResult 0 15).squashAll .generation).fab.newNet = none)
    (hh : ∀ t, old.hash t = (parseRecipe s.flash.slotA).hash t) (hp : old.ports = (parseRecipe s.flash.slotA).ports) :
    s.rcpVerifyDone v
      = (((s.setSlotResult 0 15).squashAll .generation).inForce (parseRecipe s.flash.slotA)).cmdEnd cmdOk := by
  have recipe : (s.setSlotResult 0 15).rcp.recipe = some old := ho
  have allowed : (s.setSlotResult 0 15).activateRefusal 15 old (parseRecipe s.flash.slotA) = none := ha
  simp only [rcpVerifyDone, hb, hv, recipe, allowed]
  exact activateApply_inForce hn (hh 4) (hh 10) hp

/-- RCP_VERIFY_DONE of a running block. -/
theorem exec_rcpVerifyDone {s : State} (v : SlotVerdict) (h : s.running = true) :
    exec (.rcpVerifyDone v) s = .next (settle s (s.rcpVerifyDone v).react) :=
  reacting_next (fun s => s.rcpVerifyDone v) h

/-! ## A waiting operation that the reload lets go on -/

/-- A recipe with every HASH and the ports of the image, whose queue 0 may use ECC engine 128 only: the image's queue 0 may
use any. -/
def pinnedRecipe : Recipe := { olderRecipe with queues := [⟨0, 5, 8, 1⟩] }

/-- An ANCHOR_ACK of queue 0 that waits for an ECC engine. -/
def waitingAck : Op := { State.newOp (serving 5) 0 (fetch ackDesc) with phase := .ecc }

/-- ACTIVATE verifies the image in slot A, and the ANCHOR_ACK waits for engine 128, which an authentication holds. -/
def contended : State :=
  let s := activating.withTag { tag with auth := some (authWork .verify) }
  { s with rcp := { s.rcp with recipe := some pinnedRecipe }, sch := { s.sch with ops := [waitingAck] } }

theorem contended_quiet : contended.quiet := (quiet_iff _).2 (by decide +kernel)

theorem contended_slotA : contended.flash.slotA = image := rfl

theorem contended_valid : contended.verifySlot contended.flash.slotA noReadErr = 15 := by
  rw [contended_slotA]
  exact image_valid rfl rfl rfl

theorem pinnedRecipe_hash (t : Nat) : pinnedRecipe.hash t = (parseRecipe contended.flash.slotA).hash t := rfl

theorem pinnedRecipe_ports : pinnedRecipe.ports = (parseRecipe contended.flash.slotA).ports := by decide +kernel

theorem contended_allowed : contended.activateRefusal 15 pinnedRecipe (parseRecipe contended.flash.slotA) = none :=
  State.activateRefusal_none (by decide +kernel) (fun t _ => pinnedRecipe_hash t) (by decide +kernel)

/-- The image is in force, and nothing has reacted to it. -/
def reloaded : State :=
  (((contended.setSlotResult 0 15).squashAll .generation).inForce (parseRecipe contended.flash.slotA)).cmdEnd cmdOk

theorem contended_reloads : contended.rcpVerifyDone noReadErr = reloaded :=
  State.rcpVerifyDone_inForce rfl rfl contended_valid contended_allowed (by decide +kernel) pinnedRecipe_hash
    pinnedRecipe_ports

/-- By the image's affinity engine 129 is idle for the ANCHOR_ACK, which runs on it and ends. -/
theorem reloaded_react_ops : reloaded.react.sch.ops = [] := by decide +kernel

/-- Refutes O43: its fourth clause holds the scheduler's operations among what a reload in force at once leaves alone, and
here the reload ends the one that waits. -/
theorem not_recipeActivates : ¬ Obligations.RecipeActivates := by
  rintro ⟨-, -, -, inForce, -⟩
  obtain ⟨t, ran, keeps, -⟩ := inForce contended noReadErr pinnedRecipe rfl contended_quiet rfl rfl contended_valid
    rfl rfl contended_allowed (pinnedRecipe_hash 4) (pinnedRecipe_hash 10) pinnedRecipe_ports
  rw [exec_rcpVerifyDone _ rfl, contended_reloads] at ran
  obtain rfl : settle contended reloaded.react = t := Host.Outcome.next.inj ran
  have kept : reloaded.react.sch = contended.sch := (settle_sch ..).symm.trans (keeps .sch (by decide))
  have ended : contended.sch.ops = [] := kept ▸ reloaded_react_ops
  exact List.cons_ne_nil waitingAck [] ended

end Sys2Proof.Machine
end

section
/-! PROOF. The register reads with a row of their own: what a read of one word does before the command's end, and what the
hold latch gives for the words above a lowest one (R19, R45, R173, R264, R311, R485). -/

namespace Sys2Proof.Machine

/-! ## The hold latch (R19) -/

theorem State.held_latch (s : State) (r : Requester) (off k : Nat) (w : Word) :
    (s.latch r off w).held r k = if k = off then w else s.held r k := by
  cases r <;> exact tabGet_tabSet ..

/-- The words that a lowest word latches lie at its offset and above. -/
theorem State.held_latchAll_below (s : State) (r : Requester) (ws : List Word) {off k : Nat} (h : k < off) :
    (s.latchAll r off ws).held r k = s.held r k := by
  induction ws generalizing s off with
  | nil => rfl
  | cons w ws ih =>
    calc ((s.latch r off w).latchAll r (off + 4) ws).held r k
        = (s.latch r off w).held r k := ih _ (by omega)
      _ = s.held r k := by rw [held_latch, if_neg (by omega)]

/-- Each latched word is read back at its own offset. -/
theorem State.held_latchAll (s : State) (r : Requester) (ws : List Word) (off : Nat) {i : Nat} {v : Word}
    (h : ws[i]? = some v) : (s.latchAll r off ws).held r (off + 4 * i) = v := by
  induction ws generalizing s off i with
  | nil => cases h
  | cons w ws ih =>
    cases i with
    | zero =>
      calc ((s.latch r off w).latchAll r (off + 4) ws).held r off
          = (s.latch r off w).held r off := held_latchAll_below _ r ws (by omega)
        _ = w := by rw [held_latch, if_pos rfl]
        _ = v := Option.some.inj h
    | succ i =>
      have above : off + 4 * (i + 1) = off + 4 + 4 * i := by omega
      rw [above]
      exact ih _ _ h

@[simp] theorem State.emit_held (s : State) (o : Output) (r : Requester) (k : Nat) : (s.emit o).held r k = s.held r k := by
  cases r <;> rfl

@[simp] theorem settle_held (old e : State) (r : Requester) (k : Nat) : (settle old e).held r k = e.held r k := by
  cases r <;> simp [State.held]

/-- The latched words stand when the command has ended. -/
theorem settle_held_latchAll (old s : State) (r : Requester) (ws : List Word) (off : Nat) (o : Output) {i : Nat}
    {v : Word} (h : ws[i]? = some v) : (settle old ((s.latchAll r off ws).emit o)).held r (off + 4 * i) = v := by
  rw [settle_held, State.emit_held, State.held_latchAll _ _ _ _ h]

/-! ## Frames -/

theorem State.emit_keeps (s : State) (o : Output) : KeepsBut [.out] s (s.emit o) := by
  intro p hp
  have same := KeepsBut.refl [] s p List.not_mem_nil
  cases p with
  | out => exact absurd (by decide) hp
  | _ => exact same

theorem State.latch_keeps (s : State) (r : Requester) (off : Nat) (w : Word) : KeepsBut [.hold] s (s.latch r off w) := by
  intro p hp
  have same := KeepsBut.refl [] s p List.not_mem_nil
  cases p with
  | hold => exact absurd (by decide) hp
  | _ => cases r <;> exact same

theorem State.latchAll_keeps (s : State) (r : Requester) (off : Nat) (ws : List Word) :
    KeepsBut [.hold] s (s.latchAll r off ws) := by
  induction ws generalizing s off with
  | nil => exact .refl _ s
  | cons w ws ih => exact (s.latch_keeps r off w).trans (ih _ _)

@[simp] theorem State.latchAll_sts (s : State) (r : Requester) (off : Nat) (ws : List Word) :
    (s.latchAll r off ws).sts = s.sts := by
  induction ws generalizing s off with
  | nil => rfl
  | cons w ws ih => exact (ih _ _).trans (by cases r <;> rfl)

@[simp] theorem State.latchAll_irqStat (s : State) (r : Requester) (off : Nat) (ws : List Word) :
    (s.latchAll r off ws).irqStat = s.irqStat :=
  (s.latchAll_keeps r off ws .irq (by decide)).1

/-! ## A read of one word -/

/-- The lowest word of a wide value, in a loaded block. -/
theorem State.readWord_lowest {s u : State} {r : Requester} {off : Nat} {w : Word} {ws : List Word}
    (hg : s.reg r off = some (.lowest w ws u)) (hl : s.offLoaded off = true) :
    s.readWord r off = (w, u.latchAll r (off + 4) ws) := by
  simp [readWord, hg, hl]

/-- A word that the read changes, in a loaded block. -/
theorem State.readWord_clears {s u : State} {r : Requester} {off : Nat} {w : Word}
    (hg : s.reg r off = some (.clears w u)) (hl : s.offLoaded off = true) : s.readWord r off = (w, u) := by
  simp [readWord, hg, hl]

theorem State.busRead_word {s u : State} {r : Requester} {off : Nat} {w : Word} (ha : off % 4 = 0)
    (hw : s.readWord r off = (w, u)) : s.busRead r off false = u.emit (.readData r [w]) := by
  simp [busRead, ha, hw]

/-- A command that reads one word hands it to a requester the block hears, and the read does the rest. -/
theorem runs_wordRead {c : Instr} {s u : State} {r : Requester} {off : Nat} {w : Word} {ch : List Part} {post : State → Prop}
    (hx : exec c s = onClock s fun s => if s.hears r then s.busRead r off false else s) (hr : s.running = true)
    (hh : s.hears r = true) (ha : off % 4 = 0) (hw : s.readWord r off = (w, u)) (hk : KeepsBut (.out :: ch) s u)
    (hp : post (settle s (u.emit (.readData r [w])))) :
    Runs c s (.out :: ch) fun t => .readData r [w] ∈ t.out ∧ post t := by
  have sent : .readData r [w] ∈ (u.emit (.readData r [w])).out := List.mem_append_right _ (List.mem_singleton_self _)
  exact runs_clock _ hx hr _ ((if_pos hh).trans (State.busRead_word ha hw))
    (hk.trans ((u.emit_keeps _).mono (by simp))) ⟨mem_settle_out sent, hp⟩

/-- A command that reads the lowest word of a wide value: the words above it stand in the requester's latch. -/
theorem runs_lowestRead {c : Instr} {s u : State} {r : Requester} {off : Nat} {w : Word} {ws : List Word} {ch : List Part}
    {post : State → Prop} (hx : exec c s = onClock s fun s => if s.hears r then s.busRead r off false else s)
    (hr : s.running = true) (hh : s.hears r = true) (ha : off % 4 = 0) (hg : s.reg r off = some (.lowest w ws u))
    (hl : s.offLoaded off = true) (hk : KeepsBut (.out :: .hold :: ch) s u)
    (hp : ∀ t, t = settle s ((u.latchAll r (off + 4) ws).emit (.readData r [w])) →
      (∀ i v, ws[i]? = some v → t.held r (off + 4 + 4 * i) = v) → post t) :
    Runs c s (.out :: .hold :: ch) fun t => .readData r [w] ∈ t.out ∧ post t :=
  runs_wordRead hx hr hh ha (State.readWord_lowest hg hl) (hk.trans ((u.latchAll_keeps r _ ws).mono (by simp)))
    (hp _ rfl fun _ _ h => settle_held_latchAll s u r ws _ _ h)

/-! ## The registers -/

theorem State.reg_modQuarCause (s : State) (r : Requester) : s.reg r 0x1000C = some (.clears s.quarWord (s.quarRead r)) :=
  rfl

/-- A read in QUARANTINE records its requester beside those that have read before (R45). -/
theorem State.quarRead_mod {s : State} (r : Requester) (h : s.mode = .quarantine) :
    (s.quarRead r).mod
      = { s.mod with readHost := s.mod.readHost || r == .pcie, readMsp := s.mod.readMsp || r == .msp } := by
  cases r <;> simp [quarRead, h]

theorem State.quarRead_keeps (s : State) (r : Requester) : KeepsBut [.mod] s (s.quarRead r) := by
  unfold quarRead
  split
  · intro p hp
    have same := KeepsBut.refl [] s p List.not_mem_nil
    cases p with
    | mod => exact absurd (by decide) hp
    | _ => exact same
  · exact .refl _ s

theorem State.reg_fabCellOut0 (s : State) (r : Requester) :
    s.reg r 0x48100 = some (.lowest (s.cellWord 0) ((List.range 31).map fun m => s.cellWord (m + 1)) s) := rfl

theorem State.reg_cntCountLo (s : State) (r : Requester) :
    s.reg r 0x160024 = some (.lowest (BitVec.ofNat 32 (s.visibleCount s.cnt.sel))
      [high48 (s.visibleCount s.cnt.sel), BitVec.ofNat 32 (s.limit s.cnt.sel), high48 (s.limit s.cnt.sel), s.cntFlags] s) :=
  rfl

/-- The offset of ENT_x_EST_SEQ. -/
def estSeqAt (ch : Channel) : Nat := if ch = .a then 0x140040 else 0x140060

theorem estSeqAt_aligned (ch : Channel) : estSeqAt ch % 4 = 0 := by cases ch <;> rfl

theorem State.reg_entEstSeq (s : State) (r : Requester) (ch : Channel) :
    s.reg r (estSeqAt ch) = s.estWords (s.chan ch) := by cases ch <;> rfl

theorem State.offLoaded_entEstSeq (s : State) (ch : Channel) : s.offLoaded (estSeqAt ch) = s.mod.begun.contains 9 := by
  cases ch <;> rfl

/-- What a read of STS_CTX_FULL leaves of the counter (R485). -/
def State.ctxFullCleared (s : State) : State := { s with sts := { s.sts with ctxFull := 0 } }

theorem State.reg_stsCtxFull (s : State) (r : Requester) :
    s.reg r 0x300020 = some (.lowest (lowWord s.sts.ctxFull) [highWord s.sts.ctxFull] s.ctxFullCleared) := rfl

theorem State.ctxFullCleared_keeps (s : State) : KeepsBut [.sts] s s.ctxFullCleared := by
  intro p hp
  have same := KeepsBut.refl [] s p List.not_mem_nil
  cases p with
  | sts => exact absurd (by decide) hp
  | _ => exact same

/-! ## The reads -/

/-- Settles O20: each read answers its register's word; that of MOD_QUAR_CAUSE records its requester, and the others latch
the words above theirs, each at its own offset. -/
theorem readsWithRowsOfTheirOwn : Obligations.ReadsWithRowsOfTheirOwn := by
  unfold Obligations.ReadsWithRowsOfTheirOwn
  refine ⟨fun s r hr hh quarantined => ?_, fun s r hr hh loaded => ?_, fun s r hr hh loaded => ?_,
    fun s r ch hr hh loaded => ?_, fun s r hr hh loaded => ?_⟩
  · refine runs_wordRead rfl hr hh rfl (State.readWord_clears (s.reg_modQuarCause r) rfl)
      ((s.quarRead_keeps r).mono (by decide)) ?_
    rw [settle_mod, State.emit_mod, State.quarRead_mod r quarantined]
  · refine runs_lowestRead rfl hr hh rfl (s.reg_fabCellOut0 r) loaded (.refl _ s) fun t _ latched i hi => ?_
    exact latched i _ (by simp [hi])
  · refine runs_lowestRead rfl hr hh rfl (s.reg_cntCountLo r) loaded (.refl _ s) fun t _ latched => ?_
    exact ⟨latched 0 _ rfl, latched 1 _ rfl⟩
  · refine runs_lowestRead rfl hr hh (estSeqAt_aligned ch) (s.reg_entEstSeq r ch) ((s.offLoaded_entEstSeq ch).trans loaded)
      (.refl _ s) fun t _ latched => ?_
    exact ⟨latched 0 _ rfl, latched 1 _ rfl, latched 2 _ rfl, latched 3 _ rfl⟩
  · refine runs_lowestRead rfl hr hh rfl (s.reg_stsCtxFull r) loaded (s.ctxFullCleared_keeps.mono (by decide))
      fun t ht latched => ⟨latched 0 _ rfl, ?_⟩
    subst ht
    rw [settle_sts (by simp [State.ctxFullCleared]), State.emit_sts, State.latchAll_sts]
    rfl

end Sys2Proof.Machine
end

section
/-! PROOF. Accesses to holes, and BAR0 requests of a wrong width: what they count and what they answer (R480, R481, R482). -/

namespace Sys2Proof.Machine

/-! ## The statistics -/

/-- A command that counts in the statistics, the messages aside, leaves every other part alone. -/
theorem State.withSts_keeps (s : State) (x : Stats) (messages : x.devMsgs = s.sts.devMsgs) :
    KeepsBut [.sts] s { s with sts := x } := by
  intro p hp
  have same := KeepsBut.refl [] s p List.not_mem_nil
  cases p with
  | sts => exact absurd (by decide) hp
  | irq => exact ⟨rfl, rfl, messages⟩
  | _ => exact same

theorem State.countHole_keeps (s : State) : KeepsBut [.sts] s s.countHole := s.withSts_keeps _ rfl

@[simp] theorem State.countHole_unmapped (s : State) : s.countHole.sts.unmapped = satInc s.sts.unmapped := rfl

/-- What a refused BAR0 request leaves of the counter (R482). -/
def State.countWidthErr (s : State) : State := { s with sts := { s.sts with widthErr := satInc s.sts.widthErr } }

theorem State.countWidthErr_keeps (s : State) : KeepsBut [.sts] s s.countWidthErr := s.withSts_keeps _ rfl

/-! ## What leaves the block -/

/-- The end of a command sends nothing but due reads and the device vector's message. -/
theorem settle_undue (old e : State) :
    ((settle old e).out.filter fun o => !o.due) = e.out.filter fun o => !o.due := by
  obtain ⟨l, sent, due⟩ := (settle_settled old e).out
  have noneLeft : (l.filter fun o => !o.due) = [] := List.filter_eq_nil_iff.2 fun o ho => by simp [due o ho]
  rw [sent, List.filter_append, noneLeft, List.append_nil]

@[simp] theorem State.emit_out (s : State) (o : Output) : (s.emit o).out = s.out ++ [o] := rfl

/-- An answer that is not one of the due outputs stands behind those before it when the command has ended. -/
theorem settle_undue_emit (old e : State) {o : Output} (h : o.due = false) :
    ((settle old (e.emit o)).out.filter fun o => !o.due) = (e.out.filter fun o => !o.due) ++ [o] := by
  have stays : ([o].filter fun o => !o.due) = [o] := List.filter_eq_self.2 fun x hx => by
    rw [List.mem_singleton.1 hx, h, Bool.not_false]
  rw [settle_undue, State.emit_out, List.filter_append, stays]

/-! ## A refused width (R482) -/

theorem State.badWidth_write (s : State) (off : Nat) :
    s.badWidth off true = s.countWidthErr.emit (.aer aerAbort off) := rfl

theorem State.badWidth_read (s : State) (off : Nat) :
    s.badWidth off false = (s.badWidth off true).emit .completerAbort := rfl

theorem State.badWidth_keeps (s : State) (off : Nat) (write : Bool) : KeepsBut [.out, .sts] s (s.badWidth off write) := by
  have dropped : KeepsBut [.out, .sts] s (s.badWidth off true) :=
    (s.countWidthErr_keeps.mono (by decide)).trans ((s.countWidthErr.emit_keeps _).mono (by decide))
  cases write with
  | true => exact dropped
  | false => exact dropped.trans ((State.emit_keeps _ _).mono (by decide))

@[simp] theorem State.badWidth_irqStat (s : State) (off : Nat) (write : Bool) :
    (s.badWidth off write).irqStat = s.irqStat := by cases write <;> rfl

@[simp] theorem State.badWidth_widthErr (s : State) (off : Nat) (write : Bool) :
    (s.badWidth off write).sts.widthErr = satInc s.sts.widthErr := by cases write <;> rfl

theorem State.aer_mem_badWidth (s : State) (off : Nat) (write : Bool) : .aer aerAbort off ∈ (s.badWidth off write).out := by
  have logged : .aer aerAbort off ∈ (s.badWidth off true).out := by simp [badWidth_write]
  cases write with
  | true => exact logged
  | false => exact List.mem_append_left _ logged

theorem State.completerAbort_mem_badWidth (s : State) (off : Nat) : .completerAbort ∈ (s.badWidth off false).out := by
  simp [badWidth_read]

/-! ## The commands -/

theorem exec_bar0BadWidth (s : State) (off : Nat) (write : Bool) :
    exec (.bar0BadWidth off write) s = onClock s fun s => s.badWidth off write := rfl

/-- A refused request is logged and counted; a read of them is answered with Completer Abort. -/
theorem runs_bar0BadWidth {s : State} (off : Nat) (write : Bool) (hr : s.running = true) :
    Runs (.bar0BadWidth off write) s [.out, .sts] fun t =>
      .aer aerAbort off ∈ t.out ∧ (write = false → .completerAbort ∈ t.out)
        ∧ t.sts.widthErr = satInc s.sts.widthErr := by
  refine runs_clock _ (exec_bar0BadWidth s off write) hr _ rfl (s.badWidth_keeps off write)
    ⟨mem_settle_out (s.aer_mem_badWidth off write), ?_, ?_⟩
  · rintro rfl
    exact mem_settle_out (s.completerAbort_mem_badWidth off)
  · rw [settle_sts (s.badWidth_irqStat off write), State.badWidth_widthErr]

theorem exec_holeAccess (s : State) (r : Requester) (off : Nat) (write : Bool) :
    exec (.holeAccess r off write) s = onClock s fun s =>
      if !s.hears r || (s.reg r off).isSome then s
      else if write then s.countHole else s.countHole.emit (.readData r [0]) := rfl

/-- Settles O22: a hole is counted and a read of it answers 0 alone; a refused width is logged and counted, and a read of
one is answered with Completer Abort. -/
theorem holesAndWidths : Obligations.HolesAndWidths := by
  unfold Obligations.HolesAndWidths
  refine ⟨fun s r off hr hh _ hole => ?_, fun s r off hr hh _ hole => ?_, fun s off hr => ?_, fun s off hr => ?_⟩
  · refine runs_clock _ (exec_holeAccess s r off false) hr (s.countHole.emit (.readData r [0])) (by simp [hh, hole])
      ((s.countHole_keeps.mono (by decide)).trans ((State.emit_keeps _ _).mono (by decide))) ⟨?_, ?_⟩
    · rw [settle_undue_emit _ _ rfl, State.countHole_out]
    · rw [settle_sts (by simp), State.emit_sts, State.countHole_unmapped]
  · refine runs_clock _ (exec_holeAccess s r off true) hr s.countHole (by simp [hh, hole]) s.countHole_keeps ?_
    rw [settle_sts s.countHole_irqStat, State.countHole_unmapped]
  · obtain ⟨t, runs, keeps, logged, _, counted⟩ := runs_bar0BadWidth off true hr
    exact ⟨t, runs, keeps, logged, counted⟩
  · obtain ⟨t, runs, keeps, logged, aborted, counted⟩ := runs_bar0BadWidth off false hr
    exact ⟨t, runs, keeps, logged, aborted rfl, counted⟩

end Sys2Proof.Machine
end

section
/-! PROOF. What a frame is made of: a state that equals another once some parts are put back differs from it in those parts
only. -/

namespace Sys2Proof.Machine

/-- `t` with what a part holds in `s`; of the links the pending bits stay, which are no part of their own. -/
def Part.put (p : Part) (s t : State) : State :=
  match p with
  | .out => { t with out := s.out }
  | .free => { t with free := s.free }
  | .mode => { t with mode := s.mode }
  | .refclk => { t with refclk := s.refclk }
  | .tick => { t with tick := s.tick }
  | .kept => { t with kept := s.kept }
  | .mod => { t with mod := s.mod }
  | .vig => { t with vig := s.vig }
  | .otp => { t with otp := s.otp }
  | .life => { t with life := s.life }
  | .rcp => { t with rcp := s.rcp }
  | .fabric => { t with fab := { s.fab with
      enabled := t.fab.enabled, carrier := t.fab.carrier, enabledAt := t.fab.enabledAt } }
  | .guards => { t with fab := { t.fab with
      enabled := s.fab.enabled, carrier := s.fab.carrier, enabledAt := s.fab.enabledAt } }
  | .ports => { t with ports := s.ports }
  | .ent => { t with ent := s.ent }
  | .prf => { t with prf := s.prf }
  | .rng => { t with rngEmpty := s.rngEmpty }
  | .cnt => { t with cnt := s.cnt }
  | .flash => { t with flash := s.flash }
  | .spw => { t with spw := s.spw }
  | .ldr => { t with ldr := s.ldr }
  | .queues => { t with que := s.que }
  | .sch => { t with sch := s.sch }
  | .spc => { t with spc := s.spc }
  | .glz => { t with glz := s.glz }
  | .links => { t with links := { s.links with pba := t.links.pba } }
  | .irq => { t with irqStat := s.irqStat, sts := { t.sts with devMsgs := s.sts.devMsgs } }
  | .msp => { t with msp := s.msp }
  | .sts => { t with sts := { s.sts with devMsgs := t.sts.devMsgs } }
  | .hold => { t with holdPcie := s.holdPcie, holdMsp := s.holdMsp }

/-- `t` with what the parts hold in `s`. -/
def restore (ch : List Part) (s t : State) : State := ch.foldl (fun t p => p.put s t) t

theorem Part.same_put {p q : Part} (h : p ≠ q) (s t : State) : p.same (q.put s t) t := by
  have same := KeepsBut.refl [] t p List.not_mem_nil
  cases q <;> cases p <;> first | exact absurd rfl h | exact same

theorem Part.put_keeps (q : Part) (s t : State) : KeepsBut [q] (q.put s t) t :=
  fun _ hp => Part.same_put (fun h => hp (List.mem_singleton.2 h)) s t

theorem restore_keeps (ch : List Part) (s t : State) : KeepsBut ch (restore ch s t) t := by
  induction ch generalizing t with
  | nil => exact .refl _ t
  | cons q ch ih =>
    exact ((ih (q.put s t)).mono fun _ => List.mem_cons_of_mem q).trans
      ((q.put_keeps s t).mono (by simp))

/-- With the parts put back nothing differs, so only they do. -/
theorem keepsBut_of_restore {ch : List Part} {s t : State} (h : restore ch s t = s) : KeepsBut ch s t :=
  h ▸ restore_keeps ch s t

theorem keepsBut_of_eq {s t : State} {ch : List Part} (h : t = s) : KeepsBut ch s t := h ▸ .refl ch t

/-- One step after another, each in parts of its own. -/
theorem KeepsBut.step {a b ch : List Part} {s t u : State} (h : KeepsBut a s t) (k : KeepsBut b t u)
    (ha : ∀ p ∈ a, p ∈ ch) (hb : ∀ p ∈ b, p ∈ ch) : KeepsBut ch s u :=
  (h.mono ha).trans (k.mono hb)

/-- The parts of a first step, among those that a goal names. -/
theorem KeepsBut.within {a ch : List Part} {s t : State} (h : KeepsBut a s t) (ha : ∀ p ∈ a, p ∈ ch := by decide) :
    KeepsBut ch s t := h.mono ha

/-- A further step in parts that the goal names. -/
theorem KeepsBut.also {ch b : List Part} {s t u : State} (h : KeepsBut ch s t) (k : KeepsBut b t u)
    (hb : ∀ p ∈ b, p ∈ ch := by decide) : KeepsBut ch s u := h.trans (k.mono hb)

theorem KeepsBut.ite {ch : List Part} {s t u : State} {c : Prop} [Decidable c] (h : c → KeepsBut ch s t)
    (k : ¬ c → KeepsBut ch s u) : KeepsBut ch s (if c then t else u) := by
  split
  · exact h ‹_›
  · exact k ‹_›

/-- What survives the core: outputs, free values, REFCLK, OTP and the flashes. -/
theorem keepsBut_core {s t : State} (out : t.out = s.out) (free : t.free = s.free) (refclk : t.refclk = s.refclk)
    (otp : t.otp = s.otp) (flash : t.flash = s.flash) : KeepsBut (.vig :: coreParts) s t := by
  intro p hp
  cases p with
  | out => simp only [Part.same, out]
  | free => exact free
  | refclk => exact refclk
  | otp => exact otp
  | flash => exact flash
  | _ => exact absurd (by decide) hp

/-! Updates of one part, by name. -/

def State.withVig (s : State) (x : Vigil) : State := { s with vig := x }
def State.withMod (s : State) (x : Mod) : State := { s with mod := x }

theorem State.withVig_keeps (s : State) (x : Vigil) : KeepsBut [.vig] s (s.withVig x) := keepsBut_of_restore (by cases s; rfl)
theorem State.withMod_keeps (s : State) (x : Mod) : KeepsBut [.mod] s (s.withMod x) := keepsBut_of_restore (by cases s; rfl)

end Sys2Proof.Machine
end

section
/-! PROOF. A step runs the command in front, and the block before its first power (R40, R75). -/

namespace Sys2Proof.Machine

/-- Settles O57: a step is the dispatch of the command in front; with none the block idles. -/
theorem stepRunsTheFront : Obligations.StepRunsTheFront :=
  ⟨fun _ _ _ => step_cons rfl, fun _ h => step_nil h⟩

/-- Settles O59: every table of the reset state is empty, so each position and queue reads its default. -/
theorem resetState : Obligations.ResetState := by
  have noGuard : State.reset.fab.enabled = 0 := rfl
  exact ⟨fun _ => noGuard, rfl, rfl, rfl, noGuard, rfl, rfl, rfl, rfl, fun _ _ => rfl, fun _ => rfl⟩

end Sys2Proof.Machine
end

section
/-! PROOF. The vigil rail, the detectors, the tamper latches and the end of a zeroization (R47, R75, R77, R81–R90, R104). -/

namespace Sys2Proof.Machine

/-! ## The vigil rail and VBAT -/

/-- A command of the vigil domain that gives it a state of its own and moves nothing else. -/
theorem runs_vigil {c : Instr} {s : State} (f : State → State) (x : Vigil) (hx : exec c s = always s f)
    (hf : f s = s.withVig x) : Runs c s [.vig] fun t => t.vig = x :=
  runs_always f hx _ hf (s.withVig_keeps x) (settle_vig ..)

/-- A change of VBAT while the domain has a supply (R74, R81, R82). -/
theorem runs_vbat {c : Instr} {s : State} (g : Vigil → Vigil)
    (hx : exec c s = always s fun s => if s.mode = .unpowered then s else s.withVig (g s.vig)) (hm : s.mode ≠ .unpowered) :
    Runs c s [.vig] fun t => t.vig = g s.vig :=
  runs_vigil _ _ hx (if_neg hm)

/-- Without any supply: of the vigil domain the balls' levels stay (R77). -/
def State.unpoweredFrom (s : State) : State := { s.coreOff with
    mode := .unpowered
    vig := { Vigil.empty with wrongA := s.vig.wrongA, wrongB := s.vig.wrongB, wrongLong := s.vig.wrongLong } }

theorem State.unpoweredFrom_keeps (s : State) : KeepsBut (.vig :: coreParts) s s.unpoweredFrom :=
  keepsBut_core rfl rfl rfl rfl rfl

theorem State.powerLost_still {s : State} (h : s.still) : s.powerLost = s.unpoweredFrom := by
  simp only [powerLost, tear_still h]
  rfl

/-- Settles O1: each of the rail's and VBAT's commands writes the vigil domain, and the loss of both sources empties it and
takes the core off. -/
theorem vigilRailAndVbat : Obligations.VigilRailAndVbat := by
  unfold Obligations.VigilRailAndVbat
  refine ⟨fun s src hm => ?_, fun s dst hm => ?_, fun s still => ?_, fun s hm => ?_, fun s hm => ?_, fun s b hm => ?_⟩
  · refine runs_always (·.vigilWindow src) rfl _ (if_pos hm) (keepsBut_of_restore (by cases s; rfl)) ?_
    rw [settle_mode, settle_vig]
    exact ⟨rfl, rfl, rfl, rfl, rfl, rfl, rfl, rfl, rfl⟩
  · exact runs_vigil (·.vigilSwitch dst) _ rfl (if_neg hm)
  · refine runs_always State.powerLost rfl _ (State.powerLost_still still) s.unpoweredFrom_keeps ?_
    rw [settle_mode, settle_vig]
    exact ⟨rfl, rfl, rfl, rfl, rfl, rfl, rfl⟩
  · exact runs_vbat (fun v => { v with vbatLow := true }) rfl hm
  · exact runs_vbat (fun v => { v with vbatLow := false }) rfl hm
  · exact runs_vbat (fun v => { v with vbatPresent := b }) rfl hm

/-! ## Detectors -/

theorem State.powered_cases {s : State} (h : s.powered = true) :
    s.mode = .stage ∨ s.mode = .service ∨ s.mode = .quarantine := by
  simpa [powered, or_assoc] using h

/-- The vigil domain once a detector has taken the core to VIGIL (R84, R85). -/
def State.vigilFrom (s : State) (c : Nat) : Vigil :=
  { s.vig with fired := insertNew s.vig.fired c, lastMode := s.mode.lastCode, force := true }

/-- In VIGIL: the core is off, and the detector stands behind those that fired before (R47, R84). -/
def State.inVigilBy (s : State) (c : Nat) : State := s.coreOff.withVig (s.vigilFrom c)

theorem State.inVigilBy_keeps (s : State) (c : Nat) : KeepsBut (.vig :: coreParts) s (s.inVigilBy c) :=
  keepsBut_core rfl rfl rfl rfl rfl

theorem State.detect_powered {s : State} (c : Nat) (hp : s.powered = true) (h : s.still) :
    s.detect c = s.inVigilBy c := by
  have recorded : (s.detected c).recordLastMode.still := h
  have entered : (s.detected c).enterVigil = s.inVigilBy c := by
    simp only [enterVigil, tear_still recorded]
    rfl
  unfold detect
  rcases powered_cases hp with hm | hm | hm <;> rw [hm] <;> exact entered

/-- A command that has a detector fire in a powered mode. -/
theorem runs_detect {c : Instr} {s : State} {n : Nat} (f : State → State) (hx : exec c s = always s f)
    (hf : f s = s.detect n) (hp : s.powered = true) (h : s.still) :
    Runs c s (.vig :: coreParts) fun t => t.mode = .vigil ∧ t.vig = s.vigilFrom n ∧ t.fab.enabled = 0 := by
  refine runs_always f hx _ (hf.trans (s.detect_powered n hp h)) (s.inVigilBy_keeps n) ?_
  rw [settle_mode, settle_vig]
  exact ⟨rfl, rfl, settle_off nofun⟩

theorem State.excursion_detect {s : State} {ns : Nat} (h : 10 ≤ ns) : s.excursion ns = s.detect 2 := by
  have notZero : ns ≠ 0 := by omega
  simp only [excursion, notZero, h, if_true, if_false]

/-- Settles O2: every detector does the same, and an excursion of 10 ns is one. -/
theorem detectorsEnterVigil : Obligations.DetectorsEnterVigil :=
  ⟨fun _ => runs_detect (·.detect 1) rfl rfl,
    fun _ ns hp still wide => runs_detect (·.excursion ns) rfl (State.excursion_detect wide) hp still,
    fun _ => runs_detect (·.detect 3) rfl rfl⟩

/-! ## Tamper -/

/-- The vigil domain with its anchor cleared (R104). -/
def Vigil.unanchored (v : Vigil) : Vigil :=
  { v with headSeq := 0, chain := 0, anchorOk := false, buffer := [], snapSlot := 0, snapGen := 0, snapOk := false }

/-- With no drain under way, clearing the anchor stops none. -/
theorem State.clearAnchor_idle {s : State} (h : s.cnt.drain = .idle) :
    s.clearAnchor = s.withVig s.vig.unanchored := by
  have untorn : s.tearDrain = s := by simp [tearDrain, h]
  have stays : { s.cnt with drain := .idle } = s.cnt := by rw [← h]
  simp only [clearAnchor, untorn, stays]
  rfl

theorem State.quarantine_vigil {s : State} {c : QuarCause} (h : s.mode = .vigil) : s.quarantine c = s.recordCause c := by
  simp only [quarantine, h]

/-- The vigil domain once the latches of some pairs are set (R90, R92). -/
def Vigil.latch (v : Vigil) (inVigil : Bool) (hit a b : BitVec 8) : Vigil :=
  let i := lowestBit hit
  let w : Vigil := if v.latched = 0 then
      { v with firstPair := i, firstKind := (a.getLsbD i).toNat + 2 * (b.getLsbD i).toNat, inVigil := inVigil } else v
  { w with latched := w.latched ||| hit, inhibit := true, force := true, forceTamper := w.forceTamper || !inVigil }

theorem Vigil.latch_latched (v : Vigil) (inVigil : Bool) (hit a b : BitVec 8) :
    (v.latch inVigil hit a b).latched = v.latched ||| hit := by
  unfold latch; simp only; split <;> rfl

theorem Vigil.latch_armed (v : Vigil) (inVigil : Bool) (hit a b : BitVec 8) :
    (v.latch inVigil hit a b).armed = v.armed := by
  unfold latch; simp only; split <;> rfl

/-- A tamper latch in VIGIL: the cause is recorded, and the core is off already. -/
theorem State.latchTamper_vigil {s : State} {hit a b : BitVec 8} (hm : s.mode = .vigil) (hd : s.cnt.drain = .idle) :
    s.latchTamper hit a b = (s.withVig (s.vig.latch true hit a b).unanchored).recordCause .tamper := by
  have latched : s.latchTamper hit a b = (s.withVig (s.vig.latch true hit a b)).clearAnchor.quarantine .tamper := by
    have inVigil : (s.mode == .vigil) = true := by rw [hm]; rfl
    simp only [latchTamper, Vigil.latch, bne, inVigil]
    rfl
  have cleared : (s.withVig (s.vig.latch true hit a b)).clearAnchor = s.withVig (s.vig.latch true hit a b).unanchored :=
    State.clearAnchor_idle (s := s.withVig _) hd
  exact latched.trans ((congrArg (State.quarantine · .tamper) cleared).trans (quarantine_vigil hm))

/-- Settles O4: a long fault reaches the latch, a short one only the levels of the balls. -/
theorem tamperLatchesInVigil : Obligations.TamperLatchesInVigil := by
  unfold Obligations.TamperLatchesInVigil
  refine ⟨fun s a b ns hm still long hit => ?_, fun s a b ns hm short => ?_⟩
  · obtain ⟨-, -, idle, -, -, -⟩ := still
    have sets : (s.loopLevels a b ns).tamperSets (a ||| b) ns
        = ((a ||| b) &&& s.vig.armed &&& ~~~ s.vig.latched, s.loopLevels a b ns) := by
      unfold State.tamperSets
      rw [if_neg (by omega), if_neg (by omega)]
      rfl
    have powered : (s.loopLevels a b ns).mode ≠ .unpowered := by rw [show (s.loopLevels a b ns).mode = .vigil from hm]; decide
    have tampered : s.tamper a b ns
        = (s.loopLevels a b ns).latchTamper ((a ||| b) &&& s.vig.armed &&& ~~~ s.vig.latched) a b := by
      unfold State.tamper
      simp only [sets, if_neg powered, if_neg hit]
    refine runs_always (·.tamper a b ns) rfl _
      (tampered.trans (State.latchTamper_vigil (s := s.loopLevels a b ns) hm idle)) (keepsBut_of_restore (by cases s; rfl)) ?_
    rw [settle_vig]
    exact ⟨Vigil.latch_latched .., rfl, rfl, State.mem_recordCause.2 (.inl rfl), rfl, rfl, Vigil.latch_armed ..⟩
  · have tampered : s.tamper a b ns = s.loopLevels a b ns := by
      have sets : (s.loopLevels a b ns).tamperSets (a ||| b) ns = (0, s.loopLevels a b ns) := if_pos short
      unfold State.tamper
      simp only [sets, if_true, ite_self]
    have levels : s.loopLevels a b ns = s.withVig { s.vig with wrongA := a, wrongB := b, wrongLong := 0 } := by
      have brief : ns < 1000 := by omega
      simp only [State.loopLevels, brief, if_true]
      rfl
    exact runs_vigil (·.tamper a b ns) _ rfl (tampered.trans levels)

/-! ## Zeroization -/

/-- Settles O5: with no RETIRE waiting, the end of a zeroization only finishes the key blocks. -/
theorem zeroizationCompletes : Obligations.ZeroizationCompletes := by
  intro s hr pending noRetire
  have ended : s.zeroizeEnd = s.zeroizeFinish := by
    have waits : s.zeroizeFinish.life.retireWait = false := noRetire
    simp only [State.zeroizeEnd, pending, waits]
    rfl
  refine runs_clock State.zeroizeEnd rfl hr _ ended (keepsBut_of_restore (by cases s; rfl)) ?_
  rw [settle_vig, settle_otp]
  exact ⟨rfl, rfl⟩

end Sys2Proof.Machine
end

section
/-! PROOF. The requests of MOD_CTRL, PERST_N and the snapshots: GO, SNAP, RESTART, the warm prelude and its end, and the exit
of QUARANTINE (R43, R49, R50, R55, R56, R65, R66). -/

namespace Sys2Proof.Machine

/-! ## Discarded writes, device conditions, the mode -/

theorem State.reject_keeps (s : State) (r : Requester) : KeepsBut [.sts, .msp] s (s.reject r) := keepsBut_of_restore (by cases s; rfl)

@[simp] theorem State.reject_rejects (s : State) (r : Requester) :
    (s.reject r).sts.rejects = satInc s.sts.rejects := rfl

/-- A discarded write is counted, and stays counted when the command has ended. -/
theorem settle_reject_rejects (s : State) (r : Requester) :
    (settle s (s.reject r)).sts.rejects = satInc s.sts.rejects := by
  rw [settle_sts (s.reject_irqStat r), State.reject_rejects]

theorem State.raise_keeps (s : State) (i : Irq) : KeepsBut [.irq] s (s.raise i) := by
  unfold raise
  split
  · exact keepsBut_of_restore (by cases s; rfl)
  · exact .refl _ s

theorem State.attend_keeps (s : State) (i : Nat) : KeepsBut [.msp] s (s.attend i) := by
  unfold attend
  split
  · exact keepsBut_of_restore (by cases s; rfl)
  · exact .refl _ s

theorem State.setMode_keeps (s : State) (m : Mode) : KeepsBut [.mode, .irq, .msp] s (s.setMode m) := by
  have moved : KeepsBut [.mode] s { s with mode := m } := keepsBut_of_restore (by cases s; rfl)
  exact (moved.step (State.raise_keeps _ .mode) (ch := [.mode, .irq]) (by decide) (by decide)).step
    (State.attend_keeps _ 0) (by decide) (by decide)

@[simp] theorem State.setMode_glz (s : State) (m : Mode) : (s.setMode m).glz = s.glz := by simp [setMode]
@[simp] theorem State.setMode_que (s : State) (m : Mode) : (s.setMode m).que = s.que := by simp [setMode]
@[simp] theorem State.setMode_ports (s : State) (m : Mode) : (s.setMode m).ports = s.ports := by simp [setMode]
@[simp] theorem State.setMode_spc (s : State) (m : Mode) : (s.setMode m).spc = s.spc := by simp [setMode]
@[simp] theorem State.setMode_links (s : State) (m : Mode) : (s.setMode m).links = s.links := by simp [setMode]

/-- What the links hold beside the pending bits stands when the command has ended. -/
theorem settle_links {α : Type} (f : Links → α) (old e : State) (h : ∀ (l : Links) x, f { l with pba := x } = f l) :
    f (settle old e).links = f e.links := by
  rw [← h (settle old e).links 0, (settle_settled old e).links, h]

/-- What a queue holds beside its read in flight stands when the command has ended. -/
theorem settle_queue {α : Type} (f : Queue → α) (old e : State) (q : Nat) (h : ∀ (x : Queue) n, f { x with reading := n } = f x) :
    f ((settle old e).queue q) = f (e.queue q) := by
  rw [← h ((settle old e).queue q) 0, (settle_settled old e).que q, h]

/-! ## GO and SNAP -/

/-- The write of a snapshot of this cycle to the next slot (R65, R66). -/
def State.snapStart (s : State) : SnapWrite := { image := s.snapImage, slot := (s.vig.snapSlot + 1) % 16, second := false }

/-- A snapshot that is due begins when none is written, a generation is left and there are keys and supply. -/
theorem State.snapRequest_begins {s : State} (ask : Bool) (idle : s.mod.snapWrite = none)
    (left : s.vig.snapGen ≠ 0xFFFFFFFF) (keys : s.hasKeys = true) (supply : s.spw.early = false) :
    s.snapRequest ask
      = s.withMod { s.mod with snapReq := s.mod.snapReq || ask, snapWrite := some s.snapStart } := by
  have free : (s.withMod { s.mod with snapReq := s.mod.snapReq || ask }).snapBusy = false := by
    simp [snapBusy, withMod, idle]
  have gens : (s.withMod { s.mod with snapReq := s.mod.snapReq || ask }).snapExhausted = false := by
    simpa [snapExhausted, withMod] using left
  have due : (s.withMod { s.mod with snapReq := s.mod.snapReq || ask }).snapDue
      = s.withMod { s.mod with snapReq := s.mod.snapReq || ask, snapWrite := some s.snapStart } := by
    have here : (s.withMod { s.mod with snapReq := s.mod.snapReq || ask }).hasKeys = true := keys
    have calm : (s.withMod { s.mod with snapReq := s.mod.snapReq || ask }).spw.early = false := supply
    simp only [snapDue, gens, here, calm]
    rfl
  unfold snapRequest
  exact (if_neg (Bool.eq_false_iff.1 free)).trans due

/-- A command that gives the start and the snapshots a state of their own and moves nothing else. -/
theorem runs_mod {c : Instr} {s : State} (f : State → State) (x : Mod) (hx : exec c s = onClock s f)
    (hr : s.running = true) (hf : f s = s.withMod x) : Runs c s [.mod] fun t => t.mod = x :=
  runs_clock f hx hr _ hf (s.withMod_keeps x) (settle_mod ..)

theorem exec_modGo (s : State) (r : GoWrite) :
    exec (.modGo r) s = onClock s fun s => if s.hears r.by_ then s.writeGo r.by_ r.met else s := rfl

/-- Settles O6: GO writes its bit or is rejected, and a snapshot that may begin does. -/
theorem goAndSnapRequests : Obligations.GoAndSnapRequests := by
  unfold Obligations.GoAndSnapRequests
  refine ⟨fun s r hr hh hm unmet => ?_, fun s r hr hh met causes => ?_, fun s r hr hh hm idle left keys supply => ?_,
    fun s hr timer noPrelude idle left keys supply => ?_⟩
  · have free : (r.met && s.vig.causes != []) = false := by rcases unmet with h | h <;> simp [h]
    have held : s.writeGo r.by_ r.met = s.withMod { s.mod with goReq := true } :=
      (if_neg (Bool.eq_false_iff.1 free)).trans (if_pos hm)
    exact runs_mod _ _ (exec_modGo s r) hr ((if_pos hh).trans held)
  · have held : (r.met && s.vig.causes != []) = true := by simp [met, causes]
    have discarded : s.writeGo r.by_ r.met = s.reject r.by_ := if_pos held
    exact runs_clock _ (exec_modGo s r) hr _ ((if_pos hh).trans discarded) (s.reject_keeps _) (settle_reject_rejects s _)
  · refine runs_mod (fun s => if s.hears r then s.writeSnap r else s) _ rfl hr ?_
    have begun := State.snapRequest_begins true idle left keys supply
    rw [Bool.or_true] at begun
    have written : s.writeSnap r = s.snapRequest true := if_pos hm
    exact (if_pos hh).trans (written.trans begun)
  · refine runs_mod State.snapIdle _ rfl hr ?_
    have begun := State.snapRequest_begins (s := s.withMod { s.mod with snapTimer := none }) false idle left keys supply
    have due : s.snapIdle = (s.withMod { s.mod with snapTimer := none }).snapRequest false :=
      if_pos (by simp [timer, noPrelude])
    refine due.trans (begun.trans ?_)
    rw [Bool.or_false]
    rfl

/-! ## The end of a snapshot's write -/

/-- With no snapshot behind it, the end of one only clears its request (R14). -/
theorem State.snapNext_last {s : State} (h : s.mod.snapPending = false) :
    s.snapNext = s.withMod { s.mod with snapWrite := none, snapPending := false, snapReq := false, snapAsk := false } := by
  simp only [snapNext, h, Bool.false_and]
  rfl

/-- A verified snapshot: in its slot, and named by the vigil domain (R66). -/
def State.snapAnchored (s : State) (w : SnapWrite) : State := { s with
  flash := { s.flash with snaps := tabPut s.flash.snaps w.slot w.image }
  vig := { s.vig with snapSlot := w.slot, snapGen := w.image.generation, snapOk := true }
  mod := { s.mod with snapResult := 1 }
  rcp := { s.rcp with snapStale := s.rcp.snapStale && w.image.recipeGen != s.rcp.gen } }

theorem State.snapAnchored_keeps (s : State) (w : SnapWrite) : KeepsBut [.mod, .vig, .flash, .rcp] s (s.snapAnchored w) :=
  keepsBut_of_restore (by cases s; rfl)

theorem State.tearSnap_keeps (s : State) (w : SnapWrite) : KeepsBut [.flash, .free] s (s.tearSnap w) :=
  keepsBut_of_restore (by cases s; rfl)

@[simp] theorem State.tearSnap_mod (s : State) (w : SnapWrite) : (s.tearSnap w).mod = s.mod := rfl

/-- Settles O7: the end of a snapshot's write anchors it, has it written once more, or gives it up. -/
theorem snapshotWriteAnchors : Obligations.SnapshotWriteAnchors := by
  unfold Obligations.SnapshotWriteAnchors
  refine ⟨fun s w hr writes alone => ?_, fun s w hr writes first => ?_, fun s w hr writes second alone => ?_⟩
  · have last := State.snapNext_last (s := s.snapAnchored w) alone
    have ended : s.snapWritten true = (s.snapAnchored w).snapNext := by simp only [State.snapWritten, writes]; rfl
    refine runs_clock (·.snapWritten true) rfl hr _ (ended.trans last)
      ((s.snapAnchored_keeps w).step (State.withMod_keeps _ _) (by decide) (by decide)) ?_
    rw [settle_flash, settle_vig, settle_mod]
    exact ⟨rfl, rfl, rfl, rfl, rfl⟩
  · have ended : s.snapWritten false = (s.tearSnap w).withMod { s.mod with
        snapWrite := some { w with slot := (w.slot + 1) % 16, second := true } } := by
      simp only [State.snapWritten, writes, first]; rfl
    refine runs_clock (·.snapWritten false) rfl hr _ ended
      ((s.tearSnap_keeps w).step (State.withMod_keeps _ _) (by decide) (by decide)) ?_
    rw [settle_mod]
    rfl
  · have last := State.snapNext_last (s := (s.tearSnap w).withMod { s.mod with snapResult := 3 }) alone
    have ended : s.snapWritten false = ((s.tearSnap w).withMod { s.mod with snapResult := 3 }).snapNext := by
      simp only [State.snapWritten, writes, second]; rfl
    have torn : KeepsBut [.flash, .free, .mod] s ((s.tearSnap w).withMod { s.mod with snapResult := 3 }) :=
      (s.tearSnap_keeps w).step (State.withMod_keeps _ _) (by decide) (by decide)
    refine runs_clock (·.snapWritten false) rfl hr _ (ended.trans last)
      (torn.step (State.withMod_keeps _ _) (by decide) (by decide)) ?_
    rw [settle_mod]
    exact ⟨rfl, rfl⟩

/-! ## The warm prelude -/

theorem State.recordLastMode_keeps (s : State) : KeepsBut [.vig] s s.recordLastMode := keepsBut_of_restore (by cases s; rfl)

theorem State.endHostOps_keeps (s : State) : KeepsBut [.sch, .queues] s s.endHostOps := keepsBut_of_restore (by cases s; rfl)

theorem State.quiesceBlocks_keeps (s : State) :
    KeepsBut [.rcp, .ports, .ent, .prf, .cnt, .ldr, .sch, .spc, .glz] s s.quiesceBlocks := keepsBut_of_restore (by cases s; rfl)

/-- Host operations have ended and the blocks are quiet, the run's mode recorded (R50). -/
def State.preludeQuiet (s : State) : State := s.recordLastMode.endHostOps.quiesceBlocks

theorem State.preludeQuiet_keeps (s : State) : KeepsBut warmParts s s.preludeQuiet :=
  ((s.recordLastMode_keeps.step (State.endHostOps_keeps _) (ch := warmParts) (by decide) (by decide)).trans
    ((State.quiesceBlocks_keeps _).mono (by decide)))

/-- The lines are held low, and the start that will follow is known. -/
def State.preludeHolds (s : State) (c : StartCause) : State := { s with
  ports := tabMap (fun _ (p : Port) => { p with state := if p.entry.isSome then .held else p.state }) s.ports
  mod := { s.mod with
    nextCause := c, preludeOn := true, stageDone := false, goReq := false,
    snapPending := false, snapAsk := false, snapDeferred := false, snapTimer := none }
  glz := { s.glz with state := 0 } }

theorem State.preludeHolds_keeps (s : State) (c : StartCause) : KeepsBut [.ports, .mod, .glz] s (s.preludeHolds c) :=
  keepsBut_of_restore (by cases s; rfl)

theorem State.warmPrelude_eq (s : State) (c : StartCause) :
    s.warmPrelude c = (s.preludeQuiet.preludeHolds c).setMode .stage := rfl

theorem State.warmPrelude_keeps (s : State) (c : StartCause) : KeepsBut warmParts s (s.warmPrelude c) := by
  rw [warmPrelude_eq]
  exact (s.preludeQuiet_keeps.trans ((State.preludeHolds_keeps _ c).mono (by decide))).trans
    ((State.setMode_keeps _ _).mono (by decide))

@[simp] theorem State.warmPrelude_mode (s : State) (c : StartCause) : (s.warmPrelude c).mode = .stage := by
  simp [warmPrelude_eq]

/-- What the snapshots and the start hold in the prelude. -/
theorem State.warmPrelude_mod (s : State) (c : StartCause) :
    (s.warmPrelude c).mod = { s.mod with
      nextCause := c, preludeOn := true, stageDone := false, goReq := false,
      snapPending := false, snapAsk := false, snapDeferred := false, snapTimer := none } := by
  rw [warmPrelude_eq, setMode_mod]
  rfl

theorem State.warmPrelude_vig (s : State) (c : StartCause) :
    (s.warmPrelude c).vig = { s.vig with lastMode := s.mode.lastCode } := by
  rw [warmPrelude_eq, setMode_vig]
  rfl

@[simp] theorem State.warmPrelude_ops (s : State) (c : StartCause) : (s.warmPrelude c).sch.ops = [] := by
  rw [warmPrelude_eq, setMode_sch]
  rfl

@[simp] theorem State.warmPrelude_glzState (s : State) (c : StartCause) : (s.warmPrelude c).glz.state = 0 := by
  rw [warmPrelude_eq, setMode_glz]
  rfl

@[simp] theorem State.warmPrelude_links (s : State) (c : StartCause) : (s.warmPrelude c).links = s.links := by
  rw [warmPrelude_eq, setMode_links]
  rfl

/-- An index that is not listed keeps the default under a map that keeps it. -/
theorem tabGet_tabMap {α β γ : Type} (g : β → γ) (d : β) (e : γ) (f : Nat → α → β) (t : Tab α) (k : Nat)
    (hd : g d = e) (hf : ∀ i x, g (f i x) = e) : g (tabGet d (tabMap f t) k) = e := by
  induction t with
  | nil => exact hd
  | cons a t ih =>
    show g (if a.1 = k then f a.1 a.2 else tabGet d (tabMap f t) k) = e
    split
    · exact hf _ _
    · exact ih

theorem State.warmPrelude_buf (s : State) (c : StartCause) (q : Nat) : ((s.warmPrelude c).queue q).buf = [] := by
  unfold queue
  rw [warmPrelude_eq, setMode_que]
  exact tabGet_tabMap Queue.buf queueIdle [] (fun _ x => { x with buf := [], evBufs := [], reading := 0 }) s.que q rfl
    fun _ _ => rfl

/-! ## RESTART and PERST_N in SERVICE -/

/-- Outside STAGE a restart begins the warm prelude. -/
theorem State.restart_warm {s : State} (h : s.mode ≠ .stage) (perst host msp retire : Bool) :
    s.restart perst host msp retire
      = s.warmPrelude (s.restartCause perst host msp (s.mode == .quarantine) retire) := by
  unfold restart
  exact if_neg h

/-- In SERVICE every RESTART is accepted. -/
theorem State.restartWith_service {s : State} (hm : s.mode = .service) {perst pcie msp : Bool}
    (h : (perst || pcie || msp) = true) :
    s.restartWith perst pcie msp = s.warmPrelude { StartCause.none with
      kind := 2, perst := perst, hostRestart := pcie, mspRestart := msp } := by
  have accepted : ∀ r, s.restartOk r = true := fun r => by simp [restartOk, hm]
  have notRefused : ∀ b r, s.restartRefused b r = s := fun b r => by simp [restartRefused, accepted]
  have exits : ¬ (s.mode = .quarantine) := by simp [hm]
  have other : s.mode ≠ .stage := by simp [hm]
  have warm := State.restart_warm other perst pcie msp false
  have cause : s.restartCause perst pcie msp (s.mode == .quarantine) false = { StartCause.none with
      kind := 2, perst := perst, hostRestart := pcie, mspRestart := msp } := by
    have notQuarantine : (s.mode == .quarantine) = false := by rw [hm]; rfl
    simp only [restartCause, if_neg other, notQuarantine]
    rfl
  simp only [restartWith, accepted, Bool.and_true, notRefused, h, exits, if_true, if_false, warm, cause]

theorem State.linkDown_keeps (s : State) : KeepsBut [.links] s s.linkDown := keepsBut_of_restore (by cases s; rfl)

/-- The cause of the start that a reset of the link brings (R47). -/
def perstCause : StartCause := { StartCause.none with kind := 2, perst := true }

/-- A reset of the link in SERVICE takes the link down and begins the warm prelude. -/
theorem State.linkReset_service {s : State} (hr : s.running = true) (hm : s.mode = .service) :
    s.linkReset false false = s.linkDown.warmPrelude perstCause := by
  have runs : s.linkDown.running = true := hr
  have serving : s.linkDown.mode = .service := hm
  have warm := State.restartWith_service serving (perst := true) (pcie := false) (msp := false) rfl
  have notQuarantine : (s.mode == .quarantine) = false := by rw [hm]; rfl
  unfold linkReset
  simp only [runs, notQuarantine]
  exact warm

theorem State.linkReset_service_keeps (s : State) :
    KeepsBut (.links :: warmParts) s (s.linkDown.warmPrelude perstCause) :=
  s.linkDown_keeps.step (State.warmPrelude_keeps _ _) (by decide) (by decide)

theorem State.perstLow_keeps (s : State) : KeepsBut [.links] s s.perstLow := keepsBut_of_restore (by cases s; rfl)

theorem State.perstFalls_service {s : State} (hr : s.running = true) (hm : s.mode = .service)
    (hp : s.links.perstN = true) : s.perstFalls false false = s.perstLow.linkDown.warmPrelude perstCause := by
  unfold perstFalls
  rw [if_pos hp]
  exact linkReset_service (s := s.perstLow) hr hm

/-- What a command that begins the warm prelude of a link reset leaves. -/
theorem settle_warmPrelude {old s : State} (c : StartCause) :
    (settle old (s.warmPrelude c)).mode = .stage ∧ (settle old (s.warmPrelude c)).mod.preludeOn = true
      ∧ (settle old (s.warmPrelude c)).mod.nextCause = c ∧ (settle old (s.warmPrelude c)).fab.enabled = 0 := by
  rw [settle_mode, settle_mod, State.warmPrelude_mod]
  exact ⟨s.warmPrelude_mode c, rfl, rfl, settle_off (by simp)⟩

/-- A part of the links, the pending bits aside, that the warm prelude leaves as the command found it. -/
theorem settle_warmPrelude_links {α : Type} (f : Links → α) (old s : State) (c : StartCause)
    (h : ∀ (l : Links) x, f { l with pba := x } = f l) : f (settle old (s.warmPrelude c)).links = f s.links := by
  rw [settle_links f _ _ h, State.warmPrelude_links]

/-! ## The end of the prelude -/

/-- Stage step 1 follows, every block at its Start value. -/
def State.stageFrom (s : State) (c : StartCause) : State := (s.withMod { s.mod with nextCause := c }).startBlocks

theorem State.beginStage_still {s : State} (c : StartCause) (h : s.still) : s.beginStage c = s.stageFrom c := by
  simp only [beginStage, tear_still h]
  rfl

theorem State.stageFrom_keeps (s : State) (c : StartCause) : KeepsBut (.vig :: coreParts) s (s.stageFrom c) :=
  keepsBut_core rfl rfl rfl rfl rfl

theorem State.preludeDone_busy {s : State} (h : s.preludeBusy = true) : s.preludeDone = s := by
  simp [preludeDone, h]

theorem exec_modRestart (s : State) (pcie msp : Bool) :
    exec (.modRestart pcie msp) s = onClock s fun s => s.restartWith false pcie (msp && s.hears .msp) := rfl

/-- Settles O8: RESTART and PERST_N are one warm prelude each with their own cause, and its end is a Stage of its own. -/
theorem warmStarts : Obligations.WarmStarts := by
  unfold Obligations.WarmStarts
  refine ⟨fun s pcie msp hr hh hm asked => ?_, fun s hr hm hp => ?_, fun s => ?_,
    fun s hr hm prelude still idle => ?_, fun s hr busy => ?_⟩
  · refine runs_clock _ (exec_modRestart s pcie msp) hr (s.warmPrelude _)
      (by rw [hh, Bool.and_true]; exact State.restartWith_service hm (by simpa using asked)) (s.warmPrelude_keeps _) ?_
    obtain ⟨mode, prelude, cause, safe⟩ := settle_warmPrelude (old := s) (s := s) { StartCause.none with
      kind := 2, perst := false, hostRestart := pcie, mspRestart := msp }
    refine ⟨mode, prelude, ?_, cause, ?_, safe, ?_, ?_, fun q => ?_⟩
    · rw [settle_mod, State.warmPrelude_mod]
    · rw [settle_vig, State.warmPrelude_vig, hm]; rfl
    · rw [settle_sch, State.warmPrelude_ops]
    · rw [settle_glz, State.warmPrelude_glzState]
    · rw [settle_queue Queue.buf _ _ _ fun _ _ => rfl, State.warmPrelude_buf]
  · refine runs_always (·.perstFalls false false) rfl _ (State.perstFalls_service hr hm hp)
      (s.perstLow_keeps.step s.perstLow.linkReset_service_keeps (by decide) (by decide)) ?_
    obtain ⟨mode, prelude, cause, safe⟩ := settle_warmPrelude (old := s) (s := s.perstLow.linkDown) perstCause
    refine ⟨mode, prelude, cause, ?_, ?_, ?_, safe⟩
    · exact settle_warmPrelude_links Links.perstN _ _ _ fun _ _ => rfl
    · exact settle_warmPrelude_links Links.linkUp _ _ _ fun _ _ => rfl
    · exact settle_warmPrelude_links Links.busMaster _ _ _ fun _ _ => rfl
  · refine runs_always (fun s => { s with links := { s.links with perstN := true } }) rfl _ rfl
      (keepsBut_of_restore (by cases s; rfl)) ?_
    exact settle_links Links.perstN _ _ fun _ _ => rfl
  · have ended : s.preludeDone = s.stageFrom s.mod.nextCause := by
      unfold State.preludeDone
      rw [if_pos ⟨hm, prelude, idle⟩, State.beginStage_still _ still]
    refine runs_clock State.preludeDone rfl hr _ ended (s.stageFrom_keeps _) ?_
    rw [settle_mode, settle_mod, settle_tick, settle_kept, settle_ports, settle_cnt, settle_ent, settle_vig]
    exact ⟨rfl, rfl, rfl, rfl, rfl, rfl, rfl, rfl⟩
  · refine runs_clock State.preludeDone rfl hr s (State.preludeDone_busy busy) (.refl _ s) ?_
    rw [settle_mode, settle_mod]
    exact ⟨rfl, rfl⟩

/-! ## The exit of QUARANTINE -/

/-- With every loop whole, the exit clears the causes and the latches and no latch sets again (R55, R90). -/
theorem State.quarantineExit_whole {s : State} (h : (s.vig.wrongA ||| s.vig.wrongB) &&& s.vig.armed = 0) :
    s.quarantineExit = s.withVig { s.vig with
      causes := [], latched := 0, firstPair := 0, firstKind := 0, inVigil := false } := by
  have noHit : (s.vig.wrongA ||| s.vig.wrongB) &&& s.vig.armed &&& s.vig.wrongLong &&& ~~~ (0 : BitVec 8) = 0 := by
    rw [h]; simp
  unfold quarantineExit watchLoops
  simp only [noHit, if_true]
  rfl

/-- A RESTART of the PCIe host alone in QUARANTINE, accepted. -/
theorem State.restartWith_quarantine {s : State} (hm : s.mode = .quarantine) (h : s.restartOk .pcie = true) :
    s.restartWith false true false
      = (s.warmPrelude { StartCause.none with kind := 2, hostRestart := true, quarExit := true }).quarantineExit := by
  have other : s.mode ≠ .stage := by simp [hm]
  have quarantined : (s.mode == .quarantine) = true := by simp [hm]
  have cause : s.restartCause false true false (s.mode == .quarantine) false
      = { StartCause.none with kind := 2, hostRestart := true, quarExit := true } := by
    simp only [restartCause, if_neg other, quarantined]
    rfl
  have exits := (State.restart_warm other false true false false).trans (congrArg s.warmPrelude cause)
  simp [restartWith, restartRefused, h, hm, exits]

/-- One that is not accepted is rejected. -/
theorem State.restartWith_refused {s : State} (h : s.restartOk .pcie = false) :
    s.restartWith false true false = s.reject .pcie := by
  simp [restartWith, restartRefused, h]

/-- Settles O9: an accepted RESTART is a warm prelude with the exit's clearing behind it; another is rejected. -/
theorem quarantineExit : Obligations.QuarantineExit := by
  unfold Obligations.QuarantineExit
  refine ⟨fun s hr hm read acked whole => ?_, fun s hr hm refused => ?_⟩
  · have accepted : s.restartOk .pcie = true := by
      rcases acked with h | h <;> simp [State.restartOk, read, h]
    have loops : ((s.warmPrelude { StartCause.none with kind := 2, hostRestart := true, quarExit := true }).vig.wrongA
        ||| (s.warmPrelude { StartCause.none with kind := 2, hostRestart := true, quarExit := true }).vig.wrongB)
        &&& (s.warmPrelude { StartCause.none with kind := 2, hostRestart := true, quarExit := true }).vig.armed = 0 := by
      rw [State.warmPrelude_vig]; exact whole
    refine runs_clock _ (exec_modRestart s true false) hr _
      ((State.restartWith_quarantine hm accepted).trans (State.quarantineExit_whole loops))
      ((s.warmPrelude_keeps _).trans ((State.withVig_keeps _ _).mono (by decide))) ?_
    rw [settle_mode, settle_mod, settle_vig]
    refine ⟨s.warmPrelude_mode _, ?_, ?_, rfl, rfl, ?_⟩
    · exact congrArg Mod.preludeOn (s.warmPrelude_mod _)
    · exact congrArg Mod.nextCause (s.warmPrelude_mod _)
    · exact (congrArg Vigil.lastMode (s.warmPrelude_vig _)).trans (by rw [hm]; rfl)
  · have notOk : s.restartOk .pcie = false := by
      rcases refused with h | ⟨h, k⟩
      · simp [State.restartOk, hm, h]
      · simp [State.restartOk, hm, h, k]
    exact runs_clock _ (exec_modRestart s true false) hr _ (State.restartWith_refused notOk) s.reject_pcie_keeps
      (settle_reject_rejects s .pcie)

end Sys2Proof.Machine
end

section
/-! PROOF. Stage steps 1 to 8: how a step is due and ends, and what each writes (R44, R58–R60, R69, R77, R98, R128, R302,
R457, R518). -/

namespace Sys2Proof.Machine

/-! ## How a step is due, ends and fails (R58, R59) -/

theorem State.stageRuns_running {s : State} (h : s.stageRuns = true) : s.running = true := by
  simp only [stageRuns, Bool.and_eq_true] at h
  exact h.1.2

theorem State.stageRuns_notDone {s : State} (h : s.stageRuns = true) : s.mod.stageDone = false := by
  simp only [stageRuns, Bool.and_eq_true, Bool.not_eq_true'] at h
  exact h.1.1.2

theorem State.stageRuns_mode {s : State} (h : s.stageRuns = true) : s.mode = .stage := by
  simp only [stageRuns, Bool.and_eq_true, beq_iff_eq] at h
  exact h.1.1.1.1

theorem State.stageRuns_of_next {s : State} {n : Nat} (h : s.stageNext = some n) :
    s.stageRuns = true ∧ s.mod.stageFault = 0 := by
  unfold stageNext at h
  split at h
  · cases h
  · rename_i free
    simpa using free

theorem State.stepDue_of_next {s : State} {n : Nat} (h : s.stageNext = some n) : s.stepDue n = true := by
  simp [stepDue, h]

theorem State.stageRuns_of_due {s : State} {n : Nat} (h : s.stepDue n = true) : s.stageRuns = true := by
  simp only [stepDue, Bool.or_eq_true, beq_iff_eq, Bool.and_eq_true] at h
  rcases h with (h | h) | h
  · exact (stageRuns_of_next h).1
  · exact h.1.1.1.2
  · exact h.1.1.1.2

/-- A command of step `n`, when it is due. -/
theorem runs_step {c : Instr} {s : State} {n : Nat} {ch : List Part} {post : State → Prop} (f : State → State)
    (hx : exec c s = onClock s fun s => s.atStep n f) (due : s.stepDue n = true) (e : State) (he : f s = e)
    (hk : KeepsBut ch s e) (hp : post (settle s e)) : Runs c s ch post :=
  runs_clock _ hx (State.stageRuns_running (State.stageRuns_of_due due)) e ((if_pos due).trans he) hk hp

/-- The run of Stage once step `n` has ended. -/
def Mod.stepEnded (m : Mod) (n : Nat) : Mod := { m with done := m.done ++ [n], stageStep := n, inStep9 := false }

/-- A step that is not the last only ends. -/
theorem State.endStep_early {s : State} {n : Nat} (h : s.mod.done.length < 9) :
    s.endStep n = s.withMod (s.mod.stepEnded n) := by
  have notLast : ¬ (s.withMod (s.mod.stepEnded n)).mod.done.length = 10 := by
    simp only [withMod, Mod.stepEnded, List.length_append, List.length_singleton]
    omega
  unfold endStep
  exact if_neg notLast

/-- The run of Stage that a fault holds. -/
def Mod.faulted (m : Mod) (code : Nat) : Mod :=
  { m with stageFault := if m.stageFault = 0 then code else m.stageFault, inStep9 := false }

/-- With no recorded cause a fault holds Stage and does no more. -/
theorem State.stageFault_calm {s : State} {code : Nat} (h : s.vig.causes = []) :
    s.stageFault code = s.withMod (s.mod.faulted code) := by
  unfold stageFault
  exact if_neg (fun hc => hc h)

theorem State.beginStep_keeps (s : State) (n : Nat) : KeepsBut [.mod] s (s.beginStep n) := s.withMod_keeps _

/-! ## Steps 1 and 2 -/

/-- MOD_START_CAUSE as step 1 writes it (R44, R77). -/
def State.step1Cause (s : State) : StartCause := { s.mod.nextCause with
  firstPower := s.mod.nextCause.firstPower || !s.vig.intact, lastMode := s.vig.lastMode }

/-- Step 1 before it ends. -/
def State.step1Writes (s : State) (straps : BitVec 6) : State := { s with
  mod := { s.mod with nextCause := s.step1Cause, cause := s.step1Cause }
  vig := { s.vig with intact := true }
  links := { s.links with straps := straps }
  sts := .start }

theorem State.step1Writes_keeps (s : State) (straps : BitVec 6) :
    KeepsBut [.mod, .vig, .links, .sts, .irq] s (s.step1Writes straps) := keepsBut_of_restore (by cases s; rfl)

theorem State.activeBlock_lt (s : State) : s.activeBlock < 2 := by
  unfold activeBlock; split <;> decide

/-- With no marker fuse blown, none of the active block is. -/
theorem State.keyBlock_unmarked {s : State} (h : ∀ k ∈ s.otp.blocks, k.marker = false) : s.keyBlock.marker = false := by
  unfold keyBlock vecGet
  rw [dif_pos s.activeBlock_lt]
  exact h _ (Vector.getElem_mem _)

/-- The lifecycle check before its verdict: OTP resolved, the record cleared, the shadow written (R98). -/
def State.resolved (s : State) : State := { s with
  otp := s.otp.resolve s.vig.record
  vig := { s.vig with record := none, shadow := some (s.otp.resolve s.vig.record).stateOf }
  life := { s.life with
    completed := s.otp.resolve s.vig.record != s.otp, state := (s.otp.resolve s.vig.record).stateOf } }

theorem State.resolved_keeps (s : State) : KeepsBut [.vig, .otp, .life] s s.resolved :=
  keepsBut_of_restore (by cases s; rfl)

/-- The lifecycle check fails (R99, R518). -/
def State.resolveFails (s : State) : Bool :=
  (s.otp.resolve s.vig.record).broken || (s.otp.resolve s.vig.record).skips
    || !s.shadowAgrees (s.otp.resolve s.vig.record).stateOf

theorem State.resolveOtp_pass {s : State} (h : s.resolveFails = false) : s.resolveOtp = s.resolved :=
  if_neg (Bool.eq_false_iff.1 h)

theorem State.resolveOtp_fail {s : State} (h : s.resolveFails = true) : s.resolveOtp = s.resolved.quarantine .lifecycle :=
  if_pos h

/-- The end of step 2: the identity shows and the guard force follows its two lasting causes (R86, R96). -/
def State.showIdentity (s : State) : State := { s with
  life := { s.life with keyBlock := s.keyBlockField, shown := true }
  vig := { s.vig with force := s.vig.forceTamper || s.vig.forceTap } }

theorem State.showIdentity_keeps (s : State) : KeepsBut [.vig, .life] s s.showIdentity :=
  keepsBut_of_restore (by cases s; rfl)

/-- Outside a quarantine exit no spare key block is at stake. -/
theorem State.step2_eq {s u : State} (h : s.resolveOtp.resumeZeroize.keyRule = u) (exits : u.mod.cause.quarExit = false) :
    s.step2 = (u.showIdentity.withMod { u.mod with exitSpare := false }).endStep 2 := by
  subst h
  have noSpare : (s.resolveOtp.resumeZeroize.keyRule.showIdentity.mod.cause.quarExit
      && s.resolveOtp.resumeZeroize.keyRule.showIdentity.keyBlock.marker
      && s.resolveOtp.resumeZeroize.keyRule.showIdentity.life.state != 4
      && !(vecGet KeyBlock.blank s.resolveOtp.resumeZeroize.keyRule.showIdentity.otp.blocks 1).used) = false := by
    rw [show s.resolveOtp.resumeZeroize.keyRule.showIdentity.mod.cause.quarExit = false from exits]
    rfl
  unfold step2
  exact congrArg (fun b => (s.resolveOtp.resumeZeroize.keyRule.showIdentity.withMod
    { s.resolveOtp.resumeZeroize.keyRule.mod with exitSpare := b }).endStep 2) noSpare

/-- Finishing the marked key blocks changes nothing while none is marked. -/
theorem Vector.map_unmarked {v : Vector KeyBlock 2} (h : ∀ k ∈ v, k.marker = false) :
    v.map (fun k => if k.marker && k.unblown then k.finished else k) = v := by
  refine Vector.ext fun i hi => ?_
  rw [Vector.getElem_map, h _ (Vector.getElem_mem hi)]
  rfl

/-- With no zeroization due and no marker blown, step 2 has nothing to resume. -/
theorem State.resumeZeroize_none {s : State} (causes : s.vig.causes = []) (live : s.life.state ≠ 4)
    (unmarked : ∀ k ∈ s.otp.blocks, k.marker = false) :
    s.resumeZeroize = s.withVig { s.vig with zeroPending := false } := by
  have notDue : (s.vig.causes.any QuarCause.zeroizes || s.life.state == 4) = false := by simp [causes, live]
  have noneOpen : (s.otp.blocks.toList.any fun k => k.marker && k.unblown) = false := by
    rw [List.any_eq_false]
    intro k hk
    simp [unmarked k (Vector.mem_toList_iff.1 hk)]
  simp only [resumeZeroize, notDue, Bool.false_and, Bool.false_eq_true, if_false, noneOpen, Bool.or_false]
  unfold zeroizeFinish
  simp only [Vector.map_unmarked unmarked]
  rfl

theorem State.keyRule_none {s : State} (exits : s.mod.cause.quarExit = false)
    (h : ¬ (s.keyBlock.marker = true ∧ s.vig.causes = [] ∧ s.life.state ≠ 4)) : s.keyRule = s := by
  unfold keyRule
  rw [if_neg (by rw [exits]; decide), if_neg h]

/-! ## Zeroization (R104, R105) -/

theorem vecGet_vecSet {α : Type} {n : Nat} (d : α) (v : Vector α n) {i : Nat} (hi : i < n) (j : Nat) (x : α) :
    vecGet d (vecSet v i x) j = if j = i then x else vecGet d v j := by
  unfold vecGet vecSet
  by_cases hj : j < n
  · rw [dif_pos hj, dif_pos hj, Vector.getElem_setIfInBounds]
    grind
  · rw [dif_neg hj, dif_neg hj, if_neg (by omega)]

theorem vecGet_map {α β : Type} {n : Nat} (d : α) (e : β) (v : Vector α n) (f : α → β) {i : Nat} (hi : i < n) :
    vecGet e (v.map f) i = f (vecGet d v i) := by
  unfold vecGet
  rw [dif_pos hi, dif_pos hi, Vector.getElem_map]

/-- What zeroization writes to the vigil domain, to OTP and to MOD_QUAR_CAUSE, nothing being torn. -/
def State.zeroizeMarks (s : State) : State := { s with
  vig := { s.vig.unanchored with inhibit := true, zeroPending := true }
  mod := { s.mod with zeroized := true }
  otp := { s.otp with blocks := vecSet s.otp.blocks s.activeBlock s.keyBlock.marked } }

theorem State.zeroizeMarks_keeps (s : State) : KeepsBut [.vig, .mod, .otp] s s.zeroizeMarks :=
  keepsBut_of_restore (by cases s; rfl)

theorem State.wipeCore_keeps (s : State) : KeepsBut [.ports, .prf, .ent, .glz, .ldr, .cnt, .spc] s s.wipeCore :=
  keepsBut_of_restore (by cases s; rfl)

/-- Zeroization with no drain, compaction or round under way. -/
theorem State.zeroizeBegin_idle {s : State} (drain : s.cnt.drain = .idle) (compaction : s.cnt.compaction = .none)
    (round : s.ldr.running = none) : s.zeroizeBegin = s.zeroizeMarks.wipeCore := by
  have untorn : (s.withVig s.vig.unanchored).tearCompaction.tearRound = s.withVig s.vig.unanchored := by
    have whole : (s.withVig s.vig.unanchored).tearCompaction = s.withVig s.vig.unanchored := by
      unfold tearCompaction
      rw [show (s.withVig s.vig.unanchored).cnt.compaction = .none from compaction]
    rw [whole]
    unfold tearRound
    rw [show (s.withVig s.vig.unanchored).ldr.running = none from round]
  unfold zeroizeBegin
  rw [clearAnchor_idle drain, untorn]
  rfl

/-- The marker of the active block stays its own: no `used` changes. -/
theorem State.zeroizeMarks_marker (s : State) : s.zeroizeMarks.keyBlock.marker = true := by
  have same : s.zeroizeMarks.activeBlock = s.activeBlock := by
    unfold activeBlock
    simp only [zeroizeMarks, vecGet_vecSet _ _ s.activeBlock_lt]
    split
    · rename_i h
      simp only [KeyBlock.marked, keyBlock, ← h]
    · rfl
  unfold keyBlock
  rw [same]
  simp only [zeroizeMarks, vecGet_vecSet _ _ s.activeBlock_lt, if_true]
  rfl

/-- Finishing the marked blocks unmarks none. -/
theorem State.zeroizeFinish_marker (s : State) : s.zeroizeFinish.keyBlock.marker = s.keyBlock.marker := by
  have used : ∀ k : KeyBlock, (if k.marker && k.unblown then k.finished else k).used = k.used := fun k => by
    split <;> rfl
  have marker : ∀ k : KeyBlock, (if k.marker && k.unblown then k.finished else k).marker = k.marker := fun k => by
    split <;> rfl
  have same : s.zeroizeFinish.activeBlock = s.activeBlock := by
    unfold activeBlock
    simp only [zeroizeFinish, vecGet_map KeyBlock.blank KeyBlock.blank _ _ (show 1 < 2 by decide), used]
  unfold keyBlock
  rw [same]
  simp only [zeroizeFinish, vecGet_map KeyBlock.blank KeyBlock.blank _ _ s.activeBlock_lt, marker]

theorem State.zeroizeFinish_keeps (s : State) : KeepsBut [.vig, .otp] s s.zeroizeFinish :=
  keepsBut_of_restore (by cases s; rfl)

/-- A marked block calls for no second zeroization, only for its end (R104). -/
theorem State.resumeZeroize_marked {s : State} (h : s.keyBlock.marker = true) : s.resumeZeroize = (s.withMod { s.mod with
    zeroized := s.mod.zeroized || s.otp.blocks.toList.any fun k => k.marker && k.unblown }).zeroizeFinish := by
  simp only [resumeZeroize, h, Bool.not_true, Bool.and_false, Bool.false_eq_true, if_false]
  rfl

/-- A cause that zeroizes, arising in STAGE while the keys stand. -/
theorem State.quarantine_stage {s : State} {c : QuarCause} (hm : s.mode = .stage) (early : s.mod.stageDone = false)
    (hz : c.zeroizes = true) (keys : s.keyBlock.marker = false) (drain : s.cnt.drain = .idle)
    (compaction : s.cnt.compaction = .none) (round : s.ldr.running = none) :
    s.quarantine c = (s.recordCause c).zeroizeMarks.wipeCore := by
  have begun : (s.recordCause c).zeroizeFor c = (s.recordCause c).zeroizeMarks.wipeCore := by
    unfold zeroizeFor
    rw [if_pos (by rw [hz, show (s.recordCause c).keyBlock.marker = false from keys]; rfl)]
    exact zeroizeBegin_idle drain compaction round
  have still : ¬ (((s.recordCause c).zeroizeFor c).mod.stageDone = true) := by
    rw [begun]
    exact Bool.eq_false_iff.1 early
  unfold quarantine
  rw [hm]
  exact (if_neg still).trans begun

/-! ## Steps 1 and 2: the statement -/

/-- Step 2 when its lifecycle check passes and there is nothing to zeroize. -/
theorem State.step2_pass {s : State} (early : s.mod.done.length < 9) (causes : s.vig.causes = [])
    (ok : s.resolveFails = false) (live : (s.otp.resolve s.vig.record).stateOf ≠ 4)
    (unmarked : ∀ k ∈ s.otp.blocks, k.marker = false) (exits : s.mod.cause.quarExit = false) :
    s.step2 = (s.resolved.withVig { s.resolved.vig with zeroPending := false }).showIdentity.withMod
      (Mod.stepEnded { s.mod with exitSpare := false } 2) := by
  have resumed : s.resolved.resumeZeroize = s.resolved.withVig { s.resolved.vig with zeroPending := false } :=
    resumeZeroize_none (s := s.resolved) causes live unmarked
  have keys : (s.resolved.withVig { s.resolved.vig with zeroPending := false }).keyBlock.marker = false :=
    keyBlock_unmarked unmarked
  have checked : s.resolveOtp.resumeZeroize.keyRule = s.resolved.withVig { s.resolved.vig with zeroPending := false } := by
    rw [resolveOtp_pass ok, resumed]
    exact keyRule_none exits fun h => Bool.noConfusion (keys.symm.trans h.1)
  exact (step2_eq checked exits).trans (endStep_early early)

/-- Step 2's core after a failed lifecycle check: LIFECYCLE recorded, the keys zeroized to the end. -/
def State.resolveZeroized (s : State) : State :=
  ((s.resolved.recordCause .lifecycle).zeroizeMarks.wipeCore).resumeZeroize

theorem State.wipeCore_marker (s : State) : s.wipeCore.keyBlock.marker = s.keyBlock.marker := rfl

theorem State.resolveZeroized_eq (s : State) : ∃ m, s.resolveZeroized
    = ((((s.resolved.recordCause .lifecycle).zeroizeMarks).wipeCore).withMod m).zeroizeFinish
      ∧ m.done = s.mod.done ∧ m.cause = s.mod.cause := by
  refine ⟨_, resumeZeroize_marked ?_, rfl, rfl⟩
  exact (wipeCore_marker _).trans (zeroizeMarks_marker _)

theorem State.resolveZeroized_keeps (s : State) :
    KeepsBut [.mod, .vig, .otp, .life, .ports, .ent, .prf, .cnt, .ldr, .spc, .glz] s s.resolveZeroized := by
  obtain ⟨m, eq, -, -⟩ := s.resolveZeroized_eq
  rw [eq]
  have recorded : KeepsBut [.vig, .otp, .life] s (s.resolved.recordCause .lifecycle) :=
    s.resolved_keeps.trans ((State.recordCause_keeps _ _).mono (by decide))
  have marked : KeepsBut [.mod, .vig, .otp, .life] s ((s.resolved.recordCause .lifecycle).zeroizeMarks) :=
    recorded.step (State.zeroizeMarks_keeps _) (by decide) (by decide)
  have wiped : KeepsBut [.mod, .vig, .otp, .life, .ports, .ent, .prf, .cnt, .ldr, .spc, .glz] s
      ((s.resolved.recordCause .lifecycle).zeroizeMarks.wipeCore) :=
    marked.step (State.wipeCore_keeps _) (by decide) (by decide)
  exact (wiped.trans ((State.withMod_keeps _ m).mono (by decide))).trans ((State.zeroizeFinish_keeps _).mono (by decide))

/-- Step 2 when its lifecycle check fails. -/
theorem State.step2_fail {s : State} (hm : s.mode = .stage) (running : s.mod.stageDone = false)
    (early : s.mod.done.length < 9) (still : s.still) (exits : s.mod.cause.quarExit = false)
    (bad : s.resolveFails = true) (keys : s.keyBlock.marker = false) :
    s.step2 = s.resolveZeroized.showIdentity.withMod
      (Mod.stepEnded { s.resolveZeroized.mod with exitSpare := false } 2) := by
  obtain ⟨-, -, drain, compaction, round, -⟩ := still
  have zeroized : s.resolveOtp = (s.resolved.recordCause .lifecycle).zeroizeMarks.wipeCore := by
    rw [resolveOtp_fail bad]
    exact quarantine_stage (s := s.resolved) hm running rfl keys drain compaction round
  obtain ⟨m, eq, done, cause⟩ := s.resolveZeroized_eq
  have modEq : s.resolveZeroized.mod = m := congrArg State.mod eq
  have exits' : s.resolveZeroized.mod.cause.quarExit = false := by rw [modEq, cause]; exact exits
  have recorded : s.resolveZeroized.vig.causes ≠ [] := by
    have mem : .lifecycle ∈ s.resolveZeroized.vig.causes := by
      rw [eq]
      exact State.mem_recordCause.2 (.inl rfl)
    exact List.ne_nil_of_mem mem
  have checked : s.resolveOtp.resumeZeroize.keyRule = s.resolveZeroized := by
    rw [zeroized]
    exact keyRule_none exits' fun h => recorded h.2.1
  refine (step2_eq checked exits').trans (endStep_early ?_)
  show s.resolveZeroized.mod.done.length < 9
  rw [modEq, done]
  exact early

/-- Settles O11: each step is the writes named here and its end. -/
theorem stageSteps1And2 : Obligations.StageSteps1And2 := by
  unfold Obligations.StageSteps1And2
  refine ⟨fun s straps next early => ?_, fun s straps hr => ?_, fun s next early causes ok live unmarked exits => ?_,
    fun s next early still exits bad keys => ?_⟩
  · have ended : s.step1 straps = (s.step1Writes straps).withMod ((s.step1Writes straps).mod.stepEnded 1) :=
      State.endStep_early (s := s.step1Writes straps) early
    refine runs_step (fun s => if true then s.step1 straps else s) rfl (State.stepDue_of_next next) _ ended
      ((s.step1Writes_keeps straps).trans ((State.withMod_keeps _ _).mono (by decide))) ?_
    have sts : (settle s ((s.step1Writes straps).withMod ((s.step1Writes straps).mod.stepEnded 1))).sts = .start :=
      settle_sts rfl
    rw [settle_mod, settle_vig, settle_irqStat]
    exact ⟨rfl, rfl, rfl, rfl, settle_links Links.straps _ _ fun _ _ => rfl, sts, rfl⟩
  · refine runs_clock (fun s => s.atStep 1 fun s => if false then s.step1 straps else s) rfl hr s (ite_self s)
      (.refl _ s) ?_
    rw [settle_mod, settle_vig]
    exact ⟨rfl, rfl⟩
  · have resumed : KeepsBut [.vig, .otp, .life] s (s.resolved.withVig { s.resolved.vig with zeroPending := false }) :=
      s.resolved_keeps.trans ((State.withVig_keeps _ _).mono (by decide))
    refine runs_step State.step2 rfl (State.stepDue_of_next next) _
      (State.step2_pass early causes ok live unmarked exits)
      ((resumed.trans ((State.showIdentity_keeps _).mono (by decide))).step (State.withMod_keeps _ _) (by decide)
        (by decide)) ?_
    rw [settle_otp, settle_vig, settle_life, settle_mod]
    exact ⟨rfl, rfl, rfl, rfl, rfl, rfl, rfl⟩
  · have runs := (State.stageRuns_of_next next).1
    have step := State.step2_fail (State.stageRuns_mode runs) (State.stageRuns_notDone runs) early still exits bad keys
    refine runs_step State.step2 rfl (State.stepDue_of_next next) _ step
      ((s.resolveZeroized_keeps.trans ((State.showIdentity_keeps _).mono (by decide))).trans
        ((State.withMod_keeps _ _).mono (by decide))) ?_
    obtain ⟨m, eq, done, -⟩ := s.resolveZeroized_eq
    have marker : s.resolveZeroized.keyBlock.marker = true := by
      rw [eq, State.zeroizeFinish_marker]
      exact (State.wipeCore_marker _).trans (State.zeroizeMarks_marker _)
    have settled : ∀ e : State, (settle s e).keyBlock = e.keyBlock := fun e => by
      unfold State.keyBlock State.activeBlock; rw [settle_otp]
    rw [settle_vig, settle_life, settle_mod, settled]
    refine ⟨?_, ?_, ?_, marker, ?_, rfl, ?_, rfl⟩
    · show QuarCause.lifecycle ∈ s.resolveZeroized.vig.causes
      rw [eq]
      exact State.mem_recordCause.2 (.inl rfl)
    · show s.resolveZeroized.vig.inhibit = true
      rw [eq]
      rfl
    · show s.resolveZeroized.vig.anchorOk = false
      rw [eq]
      rfl
    · show s.resolveZeroized.life.state = _
      rw [eq]
      rfl
    · show s.resolveZeroized.mod.done ++ [2] = _
      rw [eq]
      exact congrArg (· ++ [2]) done

end Sys2Proof.Machine
end

section
/-! PROOF. What completions, messages and events leave of the parts they change: outputs are only added, conditions only
rise, and of the scheduler, the statistics, the links and a queue only the fields named here differ (R20, R364–R368, R376). -/

namespace Sys2Proof.Machine

/-- A queue without what completions and event buffers move. -/
def Queue.quietly (x : Queue) : Queue := { x with
  state := 0, bq := 0, write := 0, phase := false, unread := 0, completions := 0, late := 0, evBufs := [], unsent := 0
  oldest := none }

/-- The scheduler without what waits for bus mastering or for an event buffer. -/
def Scheduler.quietly (x : Scheduler) : Scheduler := { x with held := [], store := [], evSeq := 0 }

/-- The statistics without those of completions, events and messages. -/
def Stats.quietly (x : Stats) : Stats := { x with evDrops := 0, devMsgs := 0, status := [] }

/-- `t` is `s` after completions, messages and events. -/
structure Chats (s t : State) : Prop where
  talks : TalksOnly s t
  out : s.out ⊆ t.out
  sch : t.sch.quietly = s.sch.quietly
  sts : t.sts.quietly = s.sts.quietly
  links : { t.links with pba := 0 } = { s.links with pba := 0 }
  irq : ∀ i, s.irqStat.getLsbD i = true → t.irqStat.getLsbD i = true
  queue : ∀ q, (t.queue q).quietly = (s.queue q).quietly

theorem Chats.refl (s : State) : Chats s s :=
  ⟨.refl s, fun _ h => h, rfl, rfl, rfl, fun _ h => h, fun _ => rfl⟩

theorem Chats.trans {s t u : State} (h : Chats s t) (k : Chats t u) : Chats s u :=
  ⟨h.talks.trans k.talks, fun _ m => k.out (h.out m), k.sch.trans h.sch, k.sts.trans h.sts, k.links.trans h.links,
    fun i m => k.irq i (h.irq i m), fun q => (k.queue q).trans (h.queue q)⟩

theorem Chats.ite {s t : State} {c : Prop} [Decidable c] (h : Chats s t) : Chats s (if c then t else s) := by
  split
  · exact h
  · exact .refl s

theorem Chats.foldl {α : Type} (f : State → α → State) (hf : ∀ s a, Chats s (f s a)) (l : List α) (s : State) :
    Chats s (l.foldl f s) := by
  induction l generalizing s with
  | nil => exact .refl s
  | cons a l ih => exact (hf s a).trans (ih _)

/-- A field of the scheduler that is neither held entries nor stored events. -/
theorem Chats.schField {α : Type} {s t : State} (h : Chats s t) (f : Scheduler → α) (hf : ∀ x, f x.quietly = f x) :
    f t.sch = f s.sch := by rw [← hf t.sch, h.sch, hf]

theorem Chats.ops {s t : State} (h : Chats s t) : t.sch.ops = s.sch.ops := h.schField Scheduler.ops fun _ => rfl

theorem Chats.stsField {α : Type} {s t : State} (h : Chats s t) (f : Stats → α) (hf : ∀ x, f x.quietly = f x) :
    f t.sts = f s.sts := by rw [← hf t.sts, h.sts, hf]

theorem Chats.linksField {α : Type} {s t : State} (h : Chats s t) (f : Links → α)
    (hf : ∀ (x : Links) v, f { x with pba := v } = f x) : f t.links = f s.links := by
  rw [← hf t.links 0, h.links, hf]

theorem Chats.queueField {α : Type} {s t : State} (h : Chats s t) (q : Nat) (f : Queue → α) (hf : ∀ x, f x.quietly = f x) :
    f (t.queue q) = f (s.queue q) := by rw [← hf (t.queue q), h.queue q, hf]

theorem Chats.keeps {s t : State} (h : Chats s t) : KeepsBut talkParts s t := h.talks.keeps

/-! The parts that they leave alone. -/

theorem Chats.free {s t : State} (h : Chats s t) : t.free = s.free := (congrArg State.free h.talks :)
theorem Chats.mode {s t : State} (h : Chats s t) : t.mode = s.mode := (congrArg State.mode h.talks :)
theorem Chats.refclk {s t : State} (h : Chats s t) : t.refclk = s.refclk := (congrArg State.refclk h.talks :)
theorem Chats.tick {s t : State} (h : Chats s t) : t.tick = s.tick := (congrArg State.tick h.talks :)
theorem Chats.kept {s t : State} (h : Chats s t) : t.kept = s.kept := (congrArg State.kept h.talks :)
theorem Chats.mod {s t : State} (h : Chats s t) : t.mod = s.mod := (congrArg State.mod h.talks :)
theorem Chats.vig {s t : State} (h : Chats s t) : t.vig = s.vig := (congrArg State.vig h.talks :)
theorem Chats.otp {s t : State} (h : Chats s t) : t.otp = s.otp := (congrArg State.otp h.talks :)
theorem Chats.life {s t : State} (h : Chats s t) : t.life = s.life := (congrArg State.life h.talks :)
theorem Chats.rcp {s t : State} (h : Chats s t) : t.rcp = s.rcp := (congrArg State.rcp h.talks :)
theorem Chats.fab {s t : State} (h : Chats s t) : t.fab = s.fab := (congrArg State.fab h.talks :)
theorem Chats.ports {s t : State} (h : Chats s t) : t.ports = s.ports := (congrArg State.ports h.talks :)
theorem Chats.ent {s t : State} (h : Chats s t) : t.ent = s.ent := (congrArg State.ent h.talks :)
theorem Chats.prf {s t : State} (h : Chats s t) : t.prf = s.prf := (congrArg State.prf h.talks :)
theorem Chats.rngEmpty {s t : State} (h : Chats s t) : t.rngEmpty = s.rngEmpty := (congrArg State.rngEmpty h.talks :)
theorem Chats.cnt {s t : State} (h : Chats s t) : t.cnt = s.cnt := (congrArg State.cnt h.talks :)
theorem Chats.flash {s t : State} (h : Chats s t) : t.flash = s.flash := (congrArg State.flash h.talks :)
theorem Chats.spw {s t : State} (h : Chats s t) : t.spw = s.spw := (congrArg State.spw h.talks :)
theorem Chats.ldr {s t : State} (h : Chats s t) : t.ldr = s.ldr := (congrArg State.ldr h.talks :)
theorem Chats.spc {s t : State} (h : Chats s t) : t.spc = s.spc := (congrArg State.spc h.talks :)
theorem Chats.glz {s t : State} (h : Chats s t) : t.glz = s.glz := (congrArg State.glz h.talks :)
theorem Chats.msp {s t : State} (h : Chats s t) : t.msp = s.msp := (congrArg State.msp h.talks :)

theorem Chats.port {s t : State} (h : Chats s t) (p : Nat) : t.port p = s.port p := by unfold State.port; rw [h.ports]
theorem Chats.unit {s t : State} (h : Chats s t) (u : Nat) : t.unit u = s.unit u := by unfold State.unit; rw [h.rcp]
theorem Chats.stepDone {s t : State} (h : Chats s t) (n : Nat) : t.stepDone n = s.stepDone n := by
  unfold State.stepDone; rw [h.mod]

/-! ## Each of them -/

theorem getLsbD_setBit {n : Nat} (v : BitVec n) (i j : Nat) (b : Bool) :
    (setBit v i b).getLsbD j = if j = i ∧ j < n then b else v.getLsbD j := by
  unfold setBit
  cases b <;> by_cases h : j = i ∧ j < n <;> simp [BitVec.getLsbD_or, BitVec.getLsbD_and, h] <;> grind

theorem State.setQueue_chats {s : State} {q : Nat} {x : Queue} (h : x.quietly = (s.queue q).quietly) :
    Chats s (s.setQueue q x) :=
  ⟨rfl, fun _ h => h, rfl, rfl, rfl, fun _ h => h, fun j => by
    rw [State.queue_setQueue]; split
    · rename_i hj; subst hj; exact h
    · rfl⟩

theorem State.emit_chats (s : State) (o : Output) : Chats s (s.emit o) :=
  ⟨rfl, List.subset_append_left _ _, rfl, rfl, rfl, fun _ h => h, fun _ => rfl⟩

theorem State.countStatus_chats (s : State) (st : Status) : Chats s (s.countStatus st) :=
  ⟨rfl, fun _ h => h, rfl, rfl, rfl, fun _ h => h, fun _ => rfl⟩

theorem State.raise_chats (s : State) (i : Irq) : Chats s (s.raise i) := by
  unfold raise
  split
  · refine ⟨rfl, fun _ h => h, rfl, rfl, rfl, fun j h => ?_, fun _ => rfl⟩
    show (setBit s.irqStat i.index true).getLsbD j = true
    rw [getLsbD_setBit]
    split <;> trivial
  · exact .refl s

theorem State.message_chats (s : State) (v : Nat) : Chats s (s.message v) := by
  unfold message
  simp only
  split
  · exact ⟨rfl, List.subset_append_left _ _, rfl, rfl, rfl, fun _ h => h, fun _ => rfl⟩
  · exact ⟨rfl, List.subset_append_left _ _, rfl, rfl, rfl, fun _ h => h, fun _ => rfl⟩

theorem State.signal_chats (s : State) (v : Nat) : Chats s (s.signal v) := by
  unfold signal
  split
  · exact ⟨rfl, fun _ h => h, rfl, rfl, rfl, fun _ h => h, fun _ => rfl⟩
  · exact s.message_chats v

theorem State.eventLost_chats (s : State) : Chats s s.eventLost :=
  Chats.trans (t := { s with sts := { s.sts with evDrops := satInc s.sts.evDrops } })
    ⟨rfl, fun _ h => h, rfl, rfl, rfl, fun _ h => h, fun _ => rfl⟩ (State.raise_chats _ _)

theorem State.queueVector_chats (s : State) (q : Nat) : Chats s (s.queueVector q) := by
  have told : Chats s (s.setQueue q { s.queue q with unsent := 0, oldest := none }) := State.setQueue_chats rfl
  unfold queueVector
  exact Chats.ite (told.trans (State.signal_chats _ q))

theorem State.settleQueue_chats (s : State) (q : Nat) : Chats s (s.settleQueue q) := by
  unfold settleQueue
  simp only
  split
  · exact State.setQueue_chats rfl
  · exact .refl s

theorem State.writeEntry_chats (s : State) (q : Nat) (d : Desc) (st : Status) (r : Bytes) (b : Option Bytes) :
    Chats s (s.writeEntry q d st r b) := by
  have data : Chats s (match b with | none => s | some b => s.emit (.dmaWrite d.bufAddr b)) := by
    cases b
    · exact .refl s
    · exact s.emit_chats _
  unfold writeEntry
  simp only
  refine Chats.trans ?_ (State.settleQueue_chats _ _)
  refine Chats.trans ?_ (State.queueVector_chats _ _)
  refine Chats.trans ?_ (State.countStatus_chats _ _)
  refine (data.trans (State.emit_chats _ _)).trans (State.setQueue_chats ?_)
  cases b <;> rfl

theorem State.complete_chats (s : State) (q : Nat) (d : Desc) (st : Status) (r : Bytes) (b : Option Bytes) (h : Bool) :
    Chats s (s.complete q d st r b h) := by
  unfold complete
  split
  · exact s.writeEntry_chats ..
  · simp only
    split <;> exact ⟨rfl, fun _ h => h, rfl, rfl, rfl, fun _ h => h, fun _ => rfl⟩

theorem State.fillBuffer_chats (s : State) (q : Nat) (r : Bytes) : Chats s (s.fillBuffer q r) := by
  unfold fillBuffer
  simp only
  split
  · exact .refl s
  · rename_i d bs _
    have taken : Chats s (s.setQueue q { s.queue q with evBufs := bs }) := State.setQueue_chats rfl
    exact taken.trans (State.complete_chats ..)

theorem State.route_chats (s : State) (k : Nat) (b : Bytes) : Chats s (s.route k b).1 := by
  have numbered : Chats s { s with sch := { s.sch with evSeq := s.sch.evSeq + 1 } } :=
    ⟨rfl, fun _ h => h, rfl, rfl, rfl, fun _ h => h, fun _ => rfl⟩
  unfold route
  simp only
  split
  · exact numbered
  · split
    · exact numbered.trans (State.fillBuffer_chats ..)
    · split
      · exact ⟨rfl, fun _ h => h, rfl, rfl, rfl, fun _ h => h, fun _ => rfl⟩
      · exact numbered.trans (State.eventLost_chats _)

theorem State.report_chats (s : State) (k : Nat) (b : Bytes) : Chats s (s.report k b) := by
  unfold report
  simp only
  split
  · exact s.route_chats k b
  · exact (s.route_chats k b).trans (State.eventLost_chats _)

theorem State.dropStore_chats (s : State) (q : Nat) : Chats s (s.dropStore q) :=
  Chats.trans (t := { s with sch := { s.sch with store := s.sch.store.filter (·.1 != q) } })
    ⟨rfl, fun _ h => h, rfl, rfl, rfl, fun _ h => h, fun _ => rfl⟩
    (Chats.foldl (fun s _ => s.eventLost) (fun s _ => s.eventLost_chats) _ _)

/-! ## After the command's end -/

/-- A part of the fabric beside which guards are enabled stands when the command has ended. -/
theorem settle_fab {α : Type} (f : Fabric → α) (old e : State)
    (h : ∀ (x : Fabric) a b c, f { x with enabled := a, carrier := b, enabledAt := c } = f x) :
    f (settle old e).fab = f e.fab := by
  rw [← h (settle old e).fab 0 0 [], (settle_settled old e).fabric, h]

/-- So does what completions, events and messages alone would change of the statistics. -/
theorem settle_stsField {α : Type} (f : Stats → α) (old e : State) (h : ∀ (x : Stats) n, f { x with devMsgs := n } = f x) :
    f (settle old e).sts = f e.sts := by
  rw [← h (settle old e).sts 0, (settle_settled old e).sts, h]

/-- A condition is raised once step 1 has loaded GLB_IRQ_STAT. -/
theorem State.raise_bit {s : State} (i : Irq) (h : s.stepDone 1 = true) : (s.raise i).irqStat.getLsbD i.index = true := by
  have bound : i.index < 13 := by cases i <;> decide
  unfold raise
  rw [if_pos h]
  show (setBit s.irqStat i.index true).getLsbD i.index = true
  rw [getLsbD_setBit, if_pos ⟨rfl, bound⟩]

end Sys2Proof.Machine
end

section
/-! PROOF. Stage step 3: the boot engines (R60). -/

namespace Sys2Proof.Machine

/-! ## Which engines fail -/

theorem takeWhile_whole_iff {α : Type} {p : α → Bool} {l : List α} : l.takeWhile p = l ↔ ∀ x ∈ l, p x = true := by
  refine ⟨fun whole => ?_, fun all => ?_⟩
  · rw [← List.all_eq_true, ← whole]
    exact List.all_takeWhile
  · have := List.takeWhile_append_of_pos (l₂ := []) all
    rwa [List.append_nil, List.takeWhile_nil, List.append_nil] at this

theorem mem_takeWhile_range (p : Nat → Bool) (n i : Nat) :
    i ∈ (List.range n).takeWhile p ↔ i < n ∧ ∀ j ≤ i, p j = true := by
  induction n with
  | zero => simp
  | succ n ih =>
    rw [List.range_succ, List.takeWhile_append]
    split
    · rename_i whole
      have all : ∀ x ∈ List.range n, p x = true :=
        takeWhile_whole_iff.1 ((List.takeWhile_prefix p).eq_of_length whole)
      simp only [List.mem_append, List.mem_range, List.takeWhile_cons, List.takeWhile_nil]
      grind
    · rename_i part
      rw [ih]
      refine ⟨fun h => ⟨by omega, h.2⟩, fun h => ⟨?_, h.2⟩⟩
      refine Decidable.byContradiction fun hn => part (congrArg List.length (takeWhile_whole_iff.2 fun x hx => h.2 x ?_))
      have := List.mem_range.1 hx
      omega

/-- Of the engines `b`, `b + 1`, … those fail whose bit and all lower bits are set. -/
theorem mem_bootFails {w : Nat} (v : BitVec w) (b n i : Nat) :
    b + i ∈ bootFails ((List.range n).map (b + ·)) (fun u => v.getLsbD (u - b))
      ↔ i < n ∧ ∀ j ≤ i, v.getLsbD j = true := by
  have shifted : ((fun u => v.getLsbD (u - b)) ∘ (b + ·)) = fun j => v.getLsbD j := by
    funext j; simp
  unfold bootFails
  rw [List.takeWhile_map, shifted, List.mem_map]
  simp only [Nat.add_left_cancel_iff, exists_eq_right]
  exact mem_takeWhile_range _ n i

theorem bootFails_ge {b n u : Nat} {f : Nat → Bool} (h : u ∈ bootFails ((List.range n).map (b + ·)) f) :
    b ≤ u ∧ u < b + n := by
  obtain ⟨i, hi, rfl⟩ := List.mem_map.1 ((List.takeWhile_prefix f).subset h)
  have := List.mem_range.1 hi
  omega

theorem getLsbD_all_iff {w : Nat} (v : BitVec w) : (∀ j < w, v.getLsbD j = true) ↔ v = BitVec.allOnes w := by
  refine ⟨fun h => BitVec.eq_of_getLsbD_eq fun i hi => ?_, fun h j hj => ?_⟩
  · rw [h i hi]; simp [hi]
  · rw [h]; simp [hj]

/-- All eight engines of a kind fail when every bit is set. -/
theorem bootFails_all_iff (v : BitVec 8) (b : Nat) :
    (bootFails ((List.range 8).map (b + ·)) fun u => v.getLsbD (u - b)).length = 8 ↔ v = 0xFF := by
  rw [show (0xFF : BitVec 8) = BitVec.allOnes 8 from rfl, ← getLsbD_all_iff]
  refine ⟨fun h j hj => ?_, fun h => ?_⟩
  · have whole : bootFails ((List.range 8).map (b + ·)) (fun u => v.getLsbD (u - b)) = (List.range 8).map (b + ·) :=
      (List.takeWhile_prefix _).eq_of_length h
    exact ((mem_bootFails v b 8 j).1 (by rw [whole]; exact List.mem_map.2 ⟨j, List.mem_range.2 hj, rfl⟩)).2 j (by omega)
  · refine congrArg List.length ((takeWhile_whole_iff (l := (List.range 8).map (b + ·))).2 fun u hu => ?_)
    obtain ⟨j, hj, rfl⟩ := List.mem_map.1 hu
    simpa using h j (List.mem_range.1 hj)

/-! ## They are OFF -/

theorem State.setUnit_keeps (s : State) (u : Nat) (x : UnitSt) : KeepsBut [.rcp] s (s.setUnit u x) :=
  keepsBut_of_restore (by cases s; rfl)

theorem State.moveUnit_keeps (s : State) (u : Nat) (x : UnitSt) : KeepsBut (.rcp :: talkParts) s (s.moveUnit u x) :=
  (s.setUnit_keeps u x).step (State.moveUnit_talks s u x).keeps (by decide) (by decide)

theorem State.unit_moveUnit (s : State) (u j : Nat) (x : UnitSt) :
    (s.moveUnit u x).unit j = if j = u then x else s.unit j := by
  rw [← unit_setUnit]
  exact congrArg (tabGet unitActive · j) (congrArg Rcp.units (s.moveUnit_rcp u x))

/-- A boot engine that fails is noted for SCH_ and for its tests. -/
def State.notesFail (s : State) (u : Nat) : State := { s with rcp := { s.rcp with
  earlyFails := s.rcp.earlyFails ++ [u], testOff := insertNew s.rcp.testOff u } }

theorem State.notesFail_keeps (s : State) (u : Nat) : KeepsBut [.rcp] s (s.notesFail u) :=
  keepsBut_of_restore (by cases s; rfl)

theorem State.bootFailed_eq (s : State) (u : Nat) :
    s.bootFailed u = (s.notesFail u).moveUnit u { s.unit u with st := .off } := rfl

theorem State.bootFailed_keeps (s : State) (u : Nat) : KeepsBut (.rcp :: talkParts) s (s.bootFailed u) :=
  (s.notesFail_keeps u).step (State.moveUnit_keeps _ _ _) (by decide) (by decide)

theorem State.unit_bootFailed (s : State) (u j : Nat) :
    (s.bootFailed u).unit j = if j = u then { s.unit j with st := .off } else s.unit j := by
  rw [bootFailed_eq, unit_moveUnit]
  split
  · rename_i h; rw [h]
  · rfl

theorem State.unit_bootFailed_foldl (l : List Nat) (s : State) (j : Nat) :
    (l.foldl State.bootFailed s).unit j = if j ∈ l then { s.unit j with st := .off } else s.unit j := by
  induction l generalizing s with
  | nil => rfl
  | cons u l ih =>
    rw [List.foldl_cons, ih, unit_bootFailed]
    by_cases hu : j = u <;> by_cases hl : j ∈ l <;> simp [hu, hl]

theorem State.bootFailed_foldl_mod (l : List Nat) (s : State) : (l.foldl State.bootFailed s).mod = s.mod :=
  KeepsBut.foldl State.bootFailed (fun s u => s.bootFailed_keeps u) l s .mod (by decide)

theorem State.bootFailed_foldl_vig (l : List Nat) (s : State) : (l.foldl State.bootFailed s).vig = s.vig :=
  KeepsBut.foldl State.bootFailed (fun s u => s.bootFailed_keeps u) l s .vig (by decide)

/-- The boot engines that fail, of all three kinds. -/
def bootOff (ecc sha : BitVec 8) (aes : BitVec 32) : List Nat :=
  (bootFails eccUnits fun u => ecc.getLsbD (u - 128)) ++ (bootFails shaUnits fun u => sha.getLsbD (u - 168))
    ++ bootFails aesUnits fun u => aes.getLsbD (u - 136)

theorem ecc_mem_bootOff {ecc sha : BitVec 8} {aes : BitVec 32} {i : Nat} (hi : i < 8) :
    128 + i ∈ bootOff ecc sha aes ↔ ∀ j ≤ i, ecc.getLsbD j = true := by
  have notSha : 128 + i ∉ bootFails shaUnits fun u => sha.getLsbD (u - 168) := fun h => by
    have := (bootFails_ge h).1; omega
  have notAes : 128 + i ∉ bootFails aesUnits fun u => aes.getLsbD (u - 136) := fun h => by
    have := (bootFails_ge h).1; omega
  simp only [bootOff, List.mem_append, notSha, notAes, or_false]
  exact (mem_bootFails ecc 128 8 i).trans (and_iff_right hi)

theorem aes_mem_bootOff {ecc sha : BitVec 8} {aes : BitVec 32} {i : Nat} (hi : i < 32) :
    136 + i ∈ bootOff ecc sha aes ↔ ∀ j ≤ i, aes.getLsbD j = true := by
  have notEcc : 136 + i ∉ bootFails eccUnits fun u => ecc.getLsbD (u - 128) := fun h => by
    have := (bootFails_ge h).2; omega
  have notSha : 136 + i ∉ bootFails shaUnits fun u => sha.getLsbD (u - 168) := fun h => by
    have := (bootFails_ge h).1; omega
  simp only [bootOff, List.mem_append, notEcc, notSha, false_or]
  exact (mem_bootFails aes 136 32 i).trans (and_iff_right hi)

theorem sha_mem_bootOff {ecc sha : BitVec 8} {aes : BitVec 32} {i : Nat} (hi : i < 8) :
    168 + i ∈ bootOff ecc sha aes ↔ ∀ j ≤ i, sha.getLsbD j = true := by
  have notEcc : 168 + i ∉ bootFails eccUnits fun u => ecc.getLsbD (u - 128) := fun h => by
    have := (bootFails_ge h).2; omega
  have notAes : 168 + i ∉ bootFails aesUnits fun u => aes.getLsbD (u - 136) := fun h => by
    have := (bootFails_ge h).2; omega
  simp only [bootOff, List.mem_append, notEcc, notAes, false_or, or_false]
  exact (mem_bootFails sha 168 8 i).trans (and_iff_right hi)

/-! ## Step 3 -/

/-- The failing boot engines are OFF. -/
def State.bootTried (s : State) (ecc sha : BitVec 8) (aes : BitVec 32) : State :=
  (bootOff ecc sha aes).foldl State.bootFailed s

theorem State.bootTried_keeps (s : State) (ecc sha : BitVec 8) (aes : BitVec 32) :
    KeepsBut (.rcp :: talkParts) s (s.bootTried ecc sha aes) :=
  KeepsBut.foldl State.bootFailed (fun s u => s.bootFailed_keeps u) _ s

@[simp] theorem State.bootTried_mod (s : State) (ecc sha : BitVec 8) (aes : BitVec 32) :
    (s.bootTried ecc sha aes).mod = s.mod := State.bootFailed_foldl_mod _ s

theorem State.unit_bootTried_off {s : State} {ecc sha : BitVec 8} {aes : BitVec 32} {u : Nat}
    (h : u ∈ bootOff ecc sha aes) : ((s.bootTried ecc sha aes).unit u).st = .off := by
  unfold bootTried
  rw [unit_bootFailed_foldl, if_pos h]

theorem State.unit_bootTried_same {s : State} {ecc sha : BitVec 8} {aes : BitVec 32} {u : Nat}
    (h : u ∉ bootOff ecc sha aes) : (s.bootTried ecc sha aes).unit u = s.unit u := by
  unfold bootTried
  rw [unit_bootFailed_foldl, if_neg h]

theorem State.step3_eq (s : State) (ecc sha : BitVec 8) (aes : BitVec 32) : s.step3 ecc sha aes
    = if ecc = 0xFF ∨ sha = 0xFF then (s.bootTried ecc sha aes).stageFault 2 else (s.bootTried ecc sha aes).endStep 3 := by
  have held : ((bootFails eccUnits fun u => ecc.getLsbD (u - 128)).length = 8
      ∨ (bootFails shaUnits fun u => sha.getLsbD (u - 168)).length = 8) ↔ (ecc = 0xFF ∨ sha = 0xFF) :=
    or_congr (bootFails_all_iff ecc 128) (bootFails_all_iff sha 168)
  unfold step3
  simp only [held]
  rfl

/-- The state that a unit has in another state with the same unit table. -/
theorem State.unit_withMod (s : State) (m : Mod) (u : Nat) : (s.withMod m).unit u = s.unit u := rfl

/-- Settles O12: the engines tried are the failing ones up to the first that passes. -/
theorem stageStep3 : Obligations.StageStep3 := by
  unfold Obligations.StageStep3
  refine ⟨fun s ecc sha aes next early he hs => ?_, fun s ecc sha aes next causes fails => ?_⟩
  · have ended : s.step3 ecc sha aes = (s.bootTried ecc sha aes).withMod (s.mod.stepEnded 3) := by
      rw [s.step3_eq, if_neg (not_or.2 ⟨he, hs⟩), State.endStep_early (by rwa [State.bootTried_mod]), State.bootTried_mod]
    refine runs_step (·.step3 ecc sha aes) rfl (State.stepDue_of_next next) _ ended
      ((s.bootTried_keeps ecc sha aes).step (State.withMod_keeps _ _) (by decide) (by decide)) ?_
    simp only [settle_mod, unit_settle, State.unit_withMod]
    refine ⟨rfl, fun i hi all => State.unit_bootTried_off ((ecc_mem_bootOff hi).2 all),
      fun i hi all => State.unit_bootTried_off ((aes_mem_bootOff hi).2 all),
      fun i hi all => State.unit_bootTried_off ((sha_mem_bootOff hi).2 all),
      fun i hi some => State.unit_bootTried_same fun h => ?_, fun i hi some => State.unit_bootTried_same fun h => ?_,
      fun i hi some => State.unit_bootTried_same fun h => ?_⟩
    all_goals obtain ⟨j, hj, passes⟩ := some
    · exact Bool.noConfusion (passes.symm.trans ((ecc_mem_bootOff hi).1 h j hj))
    · exact Bool.noConfusion (passes.symm.trans ((aes_mem_bootOff hi).1 h j hj))
    · exact Bool.noConfusion (passes.symm.trans ((sha_mem_bootOff hi).1 h j hj))
  · have held : s.step3 ecc sha aes = (s.bootTried ecc sha aes).withMod (s.mod.faulted 2) := by
      have calm : (s.bootTried ecc sha aes).vig.causes = [] := by
        rw [State.bootTried, State.bootFailed_foldl_vig]; exact causes
      rw [s.step3_eq, if_pos fails, State.stageFault_calm calm, State.bootTried_mod]
    have noFault : s.mod.stageFault = 0 := (State.stageRuns_of_next next).2
    refine runs_step (·.step3 ecc sha aes) rfl (State.stepDue_of_next next) _ held
      ((s.bootTried_keeps ecc sha aes).step (State.withMod_keeps _ _) (by decide) (by decide)) ?_
    simp only [settle_mod, unit_settle, State.unit_withMod]
    refine ⟨?_, fun all u hu => State.unit_bootTried_off ?_, fun all u hu => State.unit_bootTried_off ?_⟩
    · simp only [State.withMod, Mod.faulted, noFault, if_true]
    · obtain ⟨i, hi, rfl⟩ := List.mem_map.1 hu
      have lt := List.mem_range.1 hi
      exact (ecc_mem_bootOff lt).2 fun j hj => (getLsbD_all_iff ecc).2 all j (by omega)
    · obtain ⟨i, hi, rfl⟩ := List.mem_map.1 hu
      have lt := List.mem_range.1 hi
      exact (sha_mem_bootOff lt).2 fun j hj => (getLsbD_all_iff sha).2 all j (by omega)

end Sys2Proof.Machine
end

section
/-! PROOF. Stage steps 4 to 6: the slot, DDR4, the recipe (R58, R89, R128, R136, R457, R459, R460). -/

namespace Sys2Proof.Machine

/-! ## Step 4 -/

/-- Step 4 has begun and read what both flashes offer. -/
def State.flashRead (s : State) (boot record : Sfdp) : State := { s.beginStep 4 with flash := { s.flash with
  bootLog2 := sfdpSize boot, recLog2 := min 28 (sfdpSize record)
  clock := flashClock (min boot.maxClockKhz record.maxClockKhz) } }

theorem State.flashRead_keeps (s : State) (boot record : Sfdp) : KeepsBut [.mod, .flash] s (s.flashRead boot record) :=
  keepsBut_of_restore (by cases s; rfl)

/-- Neither what is tried nor where the slot stands touches what a slot is verified against. -/
theorem State.verifySlot_flashRead (s : State) (boot record : Sfdp) (bs : Bytes) (v : SlotVerdict) :
    (s.flashRead boot record).verifySlot bs v = s.verifySlot bs v := rfl

theorem State.verifySlot_setSlotResult (s : State) (r : Nat) (bs : Bytes) (v : SlotVerdict) :
    (s.setSlotResult 0 r).verifySlot bs v = s.verifySlot bs v := rfl

theorem State.setSlotResult_keeps (s : State) (k r : Nat) : KeepsBut [.rcp] s (s.setSlotResult k r) := by
  unfold setSlotResult
  split <;> exact keepsBut_of_restore (by cases s; rfl)

/-- A VALID slot taken, step 4 not yet ended. -/
def State.slotTaken (s : State) (k : Nat) : State := { s with
  rcp := { s.rcp with
    loadedB := k == 1, gen := imgGeneration (s.slotBytes k), loadedFloor := imgFloor (s.slotBytes k)
    pendingRcp := some (parseRecipe (s.slotBytes k)) }
  mod := { s.mod with cause := { s.mod.cause with slotB := k == 1 } } }

theorem State.slotTaken_keeps (s : State) (k : Nat) : KeepsBut [.mod, .rcp] s (s.slotTaken k) :=
  keepsBut_of_restore (by cases s; rfl)

theorem State.takeSlot_early {s : State} (k : Nat) (early : s.mod.done.length < 9) :
    s.takeSlot k = (s.slotTaken k).withMod ((s.slotTaken k).mod.stepEnded 4) :=
  endStep_early (s := s.slotTaken k) early

/-- Step 4 once both flashes offer what the Borpin needs. -/
theorem State.step4_offers {s : State} {boot record : Sfdp} (a b : SlotVerdict) (hb : sfdpBoot boot = true)
    (hr : sfdpRecord record = true) : s.step4 boot record a b
      = if s.verifySlot s.flash.slotA a = 15 then
          ((s.flashRead boot record).setSlotResult 0 (s.verifySlot s.flash.slotA a)).takeSlot 0
        else if s.verifySlot s.flash.slotB b = 15 then
          (((s.flashRead boot record).setSlotResult 0 (s.verifySlot s.flash.slotA a)).setSlotResult 1
            (s.verifySlot s.flash.slotB b)).takeSlot 1
        else (((s.flashRead boot record).setSlotResult 0 (s.verifySlot s.flash.slotA a)).setSlotResult 1
            (s.verifySlot s.flash.slotB b)).stageFault 1 := by
  have offers : ¬ ((!sfdpBoot boot || !sfdpRecord record) = true) := by rw [hb, hr]; decide
  exact if_neg offers

theorem State.step4_lacks {s : State} {boot record : Sfdp} (a b : SlotVerdict)
    (h : (sfdpBoot boot && sfdpRecord record) = false) :
    s.step4 boot record a b = (s.flashRead boot record).stageFault 5 := by
  have lacks : (!sfdpBoot boot || !sfdpRecord record) = true := by rw [← Bool.not_and, h]; rfl
  exact if_pos lacks

/-- Settles O13: slot A, else slot B, else a fault. -/
theorem stageStep4 : Obligations.StageStep4 := by
  unfold Obligations.StageStep4
  refine ⟨fun s boot record a b due early hb hr va => ?_, fun s boot record a b due early hb hr va vb => ?_,
    fun s boot record a b due causes hb hr va vb => ?_, fun s boot record a b due causes lacks => ?_⟩
  · have taken := State.takeSlot_early (s := (s.flashRead boot record).setSlotResult 0 (s.verifySlot s.flash.slotA a)) 0 early
    refine runs_step (·.step4 boot record a b) rfl due _
      ((State.step4_offers a b hb hr).trans ((if_pos va).trans taken)) ?_ ?_
    · exact (((s.flashRead_keeps boot record).within.also (State.setSlotResult_keeps _ _ _)).also
        (State.slotTaken_keeps _ _)).also (State.withMod_keeps _ _)
    · rw [va, settle_rcp, settle_mod]
      exact ⟨rfl, rfl, rfl⟩
  · have taken := State.takeSlot_early (s := ((s.flashRead boot record).setSlotResult 0
      (s.verifySlot s.flash.slotA a)).setSlotResult 1 (s.verifySlot s.flash.slotB b)) 1 early
    refine runs_step (·.step4 boot record a b) rfl due _
      ((State.step4_offers a b hb hr).trans ((if_neg va).trans ((if_pos vb).trans taken))) ?_ ?_
    · exact ((((s.flashRead_keeps boot record).within.also (State.setSlotResult_keeps _ _ _)).also
        (State.setSlotResult_keeps _ _ _)).also (State.slotTaken_keeps _ _)).also (State.withMod_keeps _ _)
    · rw [vb, settle_rcp, settle_mod]
      exact ⟨rfl, rfl, rfl⟩
  · have held := State.stageFault_calm (s := ((s.flashRead boot record).setSlotResult 0
      (s.verifySlot s.flash.slotA a)).setSlotResult 1 (s.verifySlot s.flash.slotB b)) (code := 1) causes
    refine runs_step (·.step4 boot record a b) rfl due _
      ((State.step4_offers a b hb hr).trans ((if_neg va).trans ((if_neg vb).trans held))) ?_ ?_
    · exact (((s.flashRead_keeps boot record).within.also (State.setSlotResult_keeps _ _ _)).also
        (State.setSlotResult_keeps _ _ _)).also (State.withMod_keeps _ _)
    · rw [settle_mod]
      exact ⟨rfl, rfl⟩
  · have held := State.stageFault_calm (s := s.flashRead boot record) (code := 5) causes
    refine runs_step (·.step4 boot record a b) rfl due _ ((State.step4_lacks a b lacks).trans held)
      ((s.flashRead_keeps boot record).also (State.withMod_keeps _ _)) ?_
    rw [settle_mod]
    exact ⟨rfl, rfl⟩

end Sys2Proof.Machine
end

section
/-! PROOF. Stage steps 5 and 6: DDR4 and the recipe (R58, R89, R136, R457). -/

namespace Sys2Proof.Machine

/-! ## Step 5 -/

/-- DDR4 has trained. -/
def State.trainedDdr (s : State) : State := { s with links := { s.links with trained := true } }

theorem State.trainedDdr_keeps (s : State) : KeepsBut [.links] s s.trainedDdr := keepsBut_of_restore (by cases s; rfl)

theorem State.step5_trains {s : State} (ecc : s.links.straps.getLsbD 5 = false) (fits : strapGib s.links.straps ≤ 16)
    (early : s.mod.done.length < 9) : s.step5 true = s.trainedDdr.withMod (s.mod.stepEnded 5) := by
  have trains : (true && !s.links.straps.getLsbD 5 && decide (strapGib s.links.straps ≤ 16)) = true := by
    rw [ecc, decide_eq_true fits]; rfl
  exact (if_pos trains).trans (endStep_early (s := s.trainedDdr) early)

/-! ## Step 6 -/

/-- The recipe in every unit but the ports and Supply Watch (R136). -/
def State.recipeIn (s : State) (r : Recipe) : State := { s with
  ports := []
  rcp := { s.rcp with recipe := some r, pendingRcp := none }
  vig := { s.vig with armed := if s.life.state = 3 then s.vig.armed ||| r.tamperMask else r.tamperMask }
  fab := { s.fab with cells := r.cells, guards := r.guards, fresh := true }
  sch := { s.sch with
    acc := r.acc, ctr := r.ctr
    selfFails := satAdd s.sch.selfFails s.rcp.earlyFails.length
    lastFail := match s.rcp.earlyFails.getLast? with | none => s.sch.lastFail | some u => u
    lastFailOk := s.sch.lastFailOk || s.rcp.earlyFails != [] } }

theorem State.recipeIn_keeps (s : State) (r : Recipe) :
    KeepsBut [.vig, .rcp, .fabric, .ports, .sch] s (s.recipeIn r) :=
  keepsBut_of_restore (by cases s; rfl)

/-- A port of the recipe: populated and HELD. -/
def portHeld (e : PortEntry) : Port := { portOff with entry := some e, state := .held }

theorem State.setPort_keeps (s : State) (p : Nat) (x : Port) : KeepsBut [.ports] s (s.setPort p x) :=
  keepsBut_of_restore (by cases s; rfl)

/-- The ports of the recipe. -/
def State.portsIn (s : State) (l : List PortEntry) : State :=
  l.foldl (fun s e => s.setPort e.port (portHeld e)) s

theorem State.portsIn_keeps (s : State) (l : List PortEntry) : KeepsBut [.ports] s (s.portsIn l) :=
  KeepsBut.foldl _ (fun _ _ => State.setPort_keeps _ _ _) l s

theorem State.portsIn_fields (s : State) (l : List PortEntry) : { s.portsIn l with ports := s.ports } = s := by
  unfold portsIn
  induction l generalizing s with
  | nil => rfl
  | cons e l ih =>
    have := congrArg (fun t : State => { t with ports := s.ports }) (ih (s.setPort e.port (portHeld e)))
    exact this

/-- A port that the recipe populates is HELD, whichever of its entries came last. -/
theorem State.port_portsIn {s : State} {l : List PortEntry} {p : Nat}
    (h : (∃ e ∈ l, e.port = p) ∨ ∃ e, s.port p = portHeld e) : ∃ e, (s.portsIn l).port p = portHeld e := by
  induction l generalizing s with
  | nil => exact h.resolve_left fun ⟨_, he, _⟩ => absurd he List.not_mem_nil
  | cons a l ih =>
    refine ih (s := s.setPort a.port (portHeld a)) ?_
    rw [port_setPort]
    by_cases hp : p = a.port
    · exact .inr ⟨a, if_pos hp⟩
    · rw [if_neg hp]
      rcases h with ⟨e, he, rfl⟩ | h
      · rcases List.mem_cons.1 he with rfl | he
        · exact absurd rfl hp
        · exact .inl ⟨e, he, rfl⟩
      · exact .inr h

/-- Supply Watch begins, its events not yet reported. -/
def State.spwStarted (s : State) : State := { s with spw := { Supply.start with
  running := true
  lastConv := some s.tick
  chans := Vector.ofFn fun i => match s.supplyEntry i.val with
    | none => SpwChan.start
    | some e => SpwChan.begin e s.tick } }

theorem State.spwStarted_keeps (s : State) : KeepsBut [.spw] s s.spwStarted := keepsBut_of_restore (by cases s; rfl)

theorem State.spwBegin_chats (s : State) : Chats s.spwStarted s.spwBegin :=
  Chats.foldl _ (fun s c => s.report_chats 2 (supplyBody c evAcquire 1 0)) _ _

/-- With every armed loop whole no latch sets. -/
theorem State.watchLoops_whole {s : State} (h : (s.vig.wrongA ||| s.vig.wrongB) &&& s.vig.armed = 0) :
    s.watchLoops = s := by
  have noHit : (s.vig.wrongA ||| s.vig.wrongB) &&& s.vig.armed &&& s.vig.wrongLong &&& ~~~ s.vig.latched = 0 := by
    rw [h]; simp
  unfold watchLoops
  exact if_pos noHit

theorem and_or_eq_zero {n : Nat} {x a b : BitVec n} (h : x &&& (a ||| b) = 0) : x &&& b = 0 := by
  have : x &&& b = x &&& (a ||| b) &&& b := by
    ext i hi
    simp only [BitVec.getElem_and, BitVec.getElem_or]
    grind
  rw [this, h]
  simp

/-- The recipe in every unit. -/
def State.recipeOn (s : State) (r : Recipe) : State := ((s.recipeIn r).portsIn r.ports).spwBegin

theorem State.step6_eq {s : State} {r : Recipe} (pending : s.rcp.pendingRcp = some r)
    (whole : (s.vig.wrongA ||| s.vig.wrongB) &&& (s.vig.armed ||| r.tamperMask) = 0) :
    s.step6 = (s.recipeOn r).endStep 6 := by
  have vig : (s.recipeOn r).vig = (s.recipeIn r).vig := by
    have talks := (State.spwBegin_chats ((s.recipeIn r).portsIn r.ports)).talks
    have ports := (s.recipeIn r).portsIn_fields r.ports
    exact (congrArg State.vig talks :).trans (congrArg State.vig ports :)
  have loops : (s.recipeOn r).watchLoops = s.recipeOn r := by
    refine watchLoops_whole ?_
    rw [vig]
    show (s.vig.wrongA ||| s.vig.wrongB) &&& (if s.life.state = 3 then s.vig.armed ||| r.tamperMask else r.tamperMask) = 0
    split
    · exact whole
    · exact and_or_eq_zero whole
  unfold step6
  rw [pending]
  exact congrArg (State.endStep · 6) loops

/-- Settles O14: DDR4 trains or holds Stage; the recipe's loading is its writes, its ports and Supply Watch. -/
theorem stageSteps5And6 : Obligations.StageSteps5And6 := by
  unfold Obligations.StageSteps5And6
  refine ⟨fun s due early ecc fits => ?_, fun s due causes => ?_, fun s r next early pending whole => ?_⟩
  · refine runs_step (·.step5 true) rfl due _ (State.step5_trains ecc fits early)
      (s.trainedDdr_keeps.within.also (State.withMod_keeps _ _)) ?_
    rw [settle_mod]
    exact ⟨settle_links Links.trained _ _ fun _ _ => rfl, rfl⟩
  · have held : s.step5 false = s.stageFault 4 := if_neg (by rw [Bool.false_and, Bool.false_and]; decide)
    refine runs_step (·.step5 false) rfl due _ (held.trans (State.stageFault_calm causes)) (State.withMod_keeps _ _) ?_
    rw [settle_mod]
    rfl
  · have chats := State.spwBegin_chats ((s.recipeIn r).portsIn r.ports)
    have ports := (s.recipeIn r).portsIn_fields r.ports
    have mod : (s.recipeOn r).mod = s.mod := (congrArg State.mod chats.talks :).trans (congrArg State.mod ports :)
    have ended := State.endStep_early (s := s.recipeOn r) (n := 6) (by rwa [mod])
    refine runs_step State.step6 rfl (State.stepDue_of_next next) _ ((State.step6_eq pending whole).trans ended) ?_ ?_
    · exact ((((s.recipeIn_keeps r).within.also (State.portsIn_keeps _ _)).also (State.spwStarted_keeps _)).also
        chats.keeps).also (State.withMod_keeps _ _)
    · rw [settle_mod, settle_vig, settle_rcp, settle_sch, settle_spw]
      refine ⟨?_, ?_, ?_, ?_, ?_, ?_, fun e he => ?_, ?_, ?_⟩
      · exact (congrArg State.rcp chats.talks :).trans (congrArg State.rcp ports :)
      · exact (congrArg State.vig chats.talks :).trans (congrArg State.vig ports :)
      · refine (settle_fab Fabric.cells _ _ fun _ _ _ _ => rfl).trans ?_
        exact (congrArg (fun t : State => t.fab.cells) chats.talks :).trans (congrArg (fun t : State => t.fab.cells) ports :)
      · refine (settle_fab Fabric.guards _ _ fun _ _ _ _ => rfl).trans ?_
        exact (congrArg (fun t : State => t.fab.guards) chats.talks :).trans (congrArg (fun t : State => t.fab.guards) ports :)
      · exact (chats.schField Scheduler.acc fun _ => rfl).trans (congrArg (fun t : State => t.sch.acc) ports :)
      · exact (chats.schField Scheduler.ctr fun _ => rfl).trans (congrArg (fun t : State => t.sch.ctr) ports :)
      · obtain ⟨x, hx⟩ := State.port_portsIn (s := s.recipeIn r) (.inl ⟨e, he, rfl⟩)
        have same : (s.recipeOn r).port e.port = portHeld x := by
          rw [← hx]
          exact congrArg (tabGet portOff · e.port) (congrArg State.ports chats.talks :)
        rw [port_settle]
        exact ⟨congrArg Port.state same, congrArg (fun y : Port => y.entry.isSome) same⟩
      · exact (congrArg (fun t : State => t.spw.running) chats.talks :)
      · exact congrArg (Mod.stepEnded · 6) mod

end Sys2Proof.Machine
end

section
/-! PROOF. Stage steps 7 and 8: the settings and the journal (R64, R69, R302). -/

namespace Sys2Proof.Machine

/-! ## Step 7 -/

/-- The kept fields and the start cause that step 7 settles on. -/
def State.settingsBack (s : State) (k : Kept) (c : StartCause) : State :=
  { s with kept := k, mod := { s.mod with cause := c } }

/-- Step 7 ended with them. -/
def State.step7Ended (s : State) (k : Kept) (c : StartCause) : State := { s with
  kept := k
  mod := Mod.stepEnded { s.mod with cause := c } 7
  rcp := { s.rcp with snapStale := s.snapStaleNow } }

theorem State.step7Ended_keeps (s : State) (k : Kept) (c : StartCause) : KeepsBut [.kept, .mod, .rcp] s (s.step7Ended k c) :=
  keepsBut_of_restore (by cases s; rfl)

theorem State.step7_ends {s : State} {k : Kept} {c : StartCause} (early : s.mod.done.length < 9)
    (h : s.restoreSettings = s.settingsBack k c) : s.step7 = s.step7Ended k c := by
  unfold step7
  rw [h]
  exact endStep_early (s := { s.settingsBack k c with rcp := { s.rcp with snapStale := s.snapStaleNow } }) early

theorem State.restoreSettings_noKeys {s : State} (h : s.hasKeys = false) :
    s.restoreSettings = s.settingsBack s.pristineKept { s.mod.cause with pristine := true } := by
  unfold restoreSettings
  exact if_pos (by rw [h]; rfl)

theorem State.restoreSettings_keys {s : State} (h : s.hasKeys = true) : s.restoreSettings = match s.snapCheck with
    | .absent => s.settingsBack s.pristineKept { s.mod.cause with pristine := true, snapInvalid := s.foreignSnap }
    | .refused invalid mismatch => s.settingsBack s.pristineKept
        { s.mod.cause with pristine := true, snapInvalid := invalid, snapMismatch := mismatch }
    | .accepted x => s.settingsBack
        { irqEn := x.irqEn.truncate 13, attnEn := x.attnEn.truncate 4
          lead := if decide (16 < x.lead.toNat % 32) then s.pristineKept.lead else x.lead.toNat % 32 }
        { s.mod.cause with snapReject := decide (16 < x.lead.toNat % 32) } := by
  unfold restoreSettings
  refine (if_neg (by rw [h]; decide)).trans ?_
  cases s.snapCheck <;> rfl

/-- An accepted snapshot was made under the recipe that stands. -/
theorem State.snapStaleNow_accepted {s : State} {x : Snapshot} (h : s.snapCheck = .accepted x) :
    s.snapStaleNow = false := by
  unfold snapCheck at h
  split at h
  · cases h
  · cases found : tabFind s.flash.snaps s.vig.snapSlot with
    | none => simp only [found] at h; cases h
    | some y =>
      simp only [found] at h
      split at h
      · cases h
      · rename_i passes
        simp only [Bool.or_eq_true, not_or, Bool.not_eq_true] at passes
        obtain ⟨-, same⟩ := passes
        unfold snapStaleNow
        simp only [found, same, Bool.and_false]

/-! ## Step 8 -/

theorem State.step8_noKeys {s : State} (early : s.mod.done.length < 9) (h : s.hasKeys = false) :
    s.step8 = (s.beginStep 8).withMod ((s.beginStep 8).mod.stepEnded 8) := by
  unfold step8
  have none : (!(s.beginStep 8).hasKeys) = true := by rw [show (s.beginStep 8).hasKeys = s.hasKeys from rfl, h]; rfl
  exact (if_pos none).trans (endStep_early (s := s.beginStep 8) early)

/-- Nothing was ever written: the journal begins. -/
theorem State.recovery_first {s : State} (anchor : s.vig.anchorOk = false) (ring : s.flash.ring = [])
    (ckpt0 : s.flash.ckpt0 = none) (ckpt1 : s.flash.ckpt1 = none) (ratchet : s.otp.ratchet = 0) : s.recovery = .first := by
  have holds : s.journalHolds = false := by simp [journalHolds, ring, ckptSlots, ckpt0, ckpt1]
  have unused : (!s.journalHolds && s.otp.ratchet == 0) = true := by rw [holds, ratchet]; rfl
  unfold recovery
  simp only [anchor, Bool.false_eq_true, if_false]
  exact if_pos unused

/-- The counters at their epoch-0 values, the anchor of an empty journal (R302). -/
theorem State.step8_first {s : State} (early : s.mod.done.length < 9) (keys : s.hasKeys = true)
    (first : (s.beginStep 8).recovery = .first) :
    s.step8 = (s.beginStep 8).firstJournal.withMod ((s.beginStep 8).firstJournal.mod.stepEnded 8) := by
  have has : ¬ ((!(s.beginStep 8).hasKeys) = true) := by rw [show (s.beginStep 8).hasKeys = s.hasKeys from rfl, keys]; decide
  have goesOn : ¬ ((s.beginStep 8).recoveryWaits = true) := by unfold recoveryWaits; rw [first]; exact Bool.false_ne_true
  have recovered : (s.beginStep 8).recoverJournal = (s.beginStep 8).firstJournal := by unfold recoverJournal; rw [first]
  unfold step8
  refine (if_neg has).trans ((if_neg goesOn).trans ?_)
  rw [recovered]
  exact endStep_early (s := (s.beginStep 8).firstJournal) early

theorem State.firstJournal_keeps (s : State) : KeepsBut [.mod, .cnt, .vig] s s.firstJournal :=
  keepsBut_of_restore (by cases s; rfl)

/-- Settles O15: step 7 by what the snapshot check finds, step 8 without keys or with a journal that never was. -/
theorem stageSteps7And8 : Obligations.StageSteps7And8 := by
  unfold Obligations.StageSteps7And8
  refine ⟨fun s x next early keys found => ?_, fun s invalid mismatch next early keys found => ?_,
    fun s next early keys found => ?_, fun s next early keys => ?_, fun s next early keys => ?_,
    fun s next early keys anchor ring ckpt0 ckpt1 ratchet => ?_⟩
  · have back := State.restoreSettings_keys keys
    rw [found] at back
    refine runs_step State.step7 rfl (State.stepDue_of_next next) _ (State.step7_ends early back) (s.step7Ended_keeps _ _) ?_
    rw [settle_kept, settle_mod, settle_rcp]
    refine ⟨rfl, rfl, ?_, rfl, State.snapStaleNow_accepted found, rfl, rfl⟩
    show (if decide _ = true then _ else _) = _
    simp only [decide_eq_true_eq]
  · have back := State.restoreSettings_keys keys
    rw [found] at back
    refine runs_step State.step7 rfl (State.stepDue_of_next next) _ (State.step7_ends early back) (s.step7Ended_keeps _ _) ?_
    rw [settle_kept, settle_mod]
    exact ⟨rfl, rfl, rfl, rfl⟩
  · have back := State.restoreSettings_keys keys
    rw [found] at back
    refine runs_step State.step7 rfl (State.stepDue_of_next next) _ (State.step7_ends early back) (s.step7Ended_keeps _ _) ?_
    rw [settle_kept, settle_mod]
    exact ⟨rfl, rfl, rfl, rfl⟩
  · refine runs_step State.step7 rfl (State.stepDue_of_next next) _
      (State.step7_ends early (State.restoreSettings_noKeys keys)) (s.step7Ended_keeps _ _) ?_
    rw [settle_kept, settle_mod]
    exact ⟨rfl, rfl, rfl, rfl⟩
  · refine runs_step State.step8 rfl (State.stepDue_of_next next) _ (State.step8_noKeys early keys)
      ((s.beginStep_keeps 8).also (State.withMod_keeps _ _)) ?_
    rw [settle_mod]
    exact ⟨rfl, rfl⟩
  · have first : (s.beginStep 8).recovery = .first := State.recovery_first (s := s.beginStep 8) anchor ring ckpt0 ckpt1 ratchet
    refine runs_step State.step8 rfl (State.stepDue_of_next next) _ (State.step8_first early keys first)
      (((s.beginStep_keeps 8).within.also (State.firstJournal_keeps _)).also (State.withMod_keeps _ _)) ?_
    rw [settle_mod, settle_cnt, settle_vig]
    exact ⟨rfl, rfl, rfl, rfl, rfl, rfl, rfl⟩

end Sys2Proof.Machine
end

section
/-! PROOF. Stage step 9: the channels start and the Proofer waits (R251, R270). -/

namespace Sys2Proof.Machine

/-! ## A Proofer that waits for its instantiation -/

/-- With every instance uninstantiated and none to be, the Proofer does nothing. -/
theorem State.prfReact_waits {s : State} (noGather : ∀ o ∈ s.sch.ops, o.phase ≠ .gather)
    (empty : ∀ i < 4, (s.inst i).state = 0) (wait : s.mayInstantiate = false)
    (lives : (s.mode == .service || (s.mode == .stage && s.stepDone 9)) = false) : s.prfReact = s := by
  have gathers := State.gathering_quiet noGather
  have notDue : ∀ i ∈ List.range 4, ¬ (s.reseedDue i = true) := fun i hi => by
    unfold reseedDue
    rw [empty i (List.mem_range.1 hi)]
    exact Bool.false_ne_true
  have instantiates : s.instantiateDue = s := by
    unfold instantiateDue
    rw [wait]
    exact if_neg Bool.false_ne_true
  have reseeds : s.reseedOne = s := by
    have noNeed : s.neediest = none := by
      unfold neediest
      rw [List.filter_eq_nil_iff.2 notDue]
      rfl
    unfold reseedOne
    rw [noNeed]
  have speculates : s.speculateOne = s := by
    have noneDue : ((List.range 4).filter fun i => s.reseedDue i && (s.inst i).shadow.isNone) = [] := by
      rw [List.filter_eq_nil_iff]
      intro i hi
      rw [Bool.eq_false_iff.2 (notDue i hi)]
      exact Bool.false_ne_true
    unfold speculateOne
    simp only [noneDue, minBy]
  have levels : (List.range 4).foldl State.prfLevel s = s := foldl_range4 fun i hi => by
    unfold prfLevel
    exact if_pos (empty i hi)
  have checks : s.exhaustCheck = s := by
    unfold exhaustCheck
    rw [lives, Bool.and_false]
    exact if_neg Bool.false_ne_true
  unfold prfReact gatherAll
  simp only [gathers, List.foldl_nil, instantiates, reseeds, speculates, levels, checks]

/-! ## A channel starts -/

theorem State.setChan_keeps (s : State) (ch : Channel) (c : Chan) : KeepsBut [.ent] s (s.setChan ch c) := by
  cases ch <;> exact keepsBut_of_restore (by cases s; rfl)

@[simp] theorem State.chan_setChan (s : State) (ch : Channel) (c : Chan) : (s.setChan ch c).chan ch = c := by
  cases ch <;> rfl

/-- A channel moved before the move is told. -/
theorem State.moveChan_chats {s : State} {ch : Channel} {n : Nat} (h : (s.chan ch).state ≠ n) :
    Chats (s.setChan ch { s.chan ch with state := n }) (s.moveChan ch n) := by
  unfold moveChan
  simp only [if_neg h]
  exact (State.raise_chats _ _).trans (State.report_chats _ _ _)

/-- The limits of the recipe in the channel (R123). -/
def State.limitsIn (s : State) (ch : Channel) : State := s.setChan ch { s.chan ch with
  rct := match s.rcp.recipe with | none => 0 | some r => match ch with | .a => r.rctA | .b => r.rctB
  apt := match s.rcp.recipe with | none => 0 | some r => match ch with | .a => r.aptA | .b => r.aptB }

/-- A channel of the recipe that has not failed before begins its startup run. -/
theorem State.startChan_on {s : State} {ch : Channel} (on : s.chanOn ch = true) (st : (s.chan ch).state = 0)
    (fresh : (s.chan ch).wasFailed = false) : s.startChan ch = ((s.limitsIn ch).moveChan ch 1).beginRun ch := by
  have here : (s.limitsIn ch).chanOn ch = true := by cases ch <;> exact on
  have idle : ((s.limitsIn ch).chan ch).state = 0 := by cases ch <;> exact st
  have whole : ((s.limitsIn ch).chan ch).wasFailed = false := by cases ch <;> exact fresh
  have goes : ¬ ((!(s.limitsIn ch).chanOn ch || ((s.limitsIn ch).chan ch).state == 4) = true) := by
    rw [here, idle]; decide
  unfold startChan
  exact (if_neg goes).trans (if_pos (congrArg (!·) whole))

theorem State.startChan_off {s : State} {ch : Channel} (off : s.chanOn ch = false) : s.startChan ch = s.limitsIn ch := by
  have here : (s.limitsIn ch).chanOn ch = false := by cases ch <;> exact off
  unfold startChan
  exact if_pos (congrArg (fun b => !b || ((s.limitsIn ch).chan ch).state == 4) here)

theorem State.limitsIn_keeps (s : State) (ch : Channel) : KeepsBut [.ent] s (s.limitsIn ch) := s.setChan_keeps ch _

theorem State.moveChan_keeps (s : State) (ch : Channel) (n : Nat) : KeepsBut (.ent :: talkParts) s (s.moveChan ch n) := by
  by_cases h : (s.chan ch).state = n
  · exact keepsBut_of_eq (if_pos h)
  · exact (s.setChan_keeps ch _).within.also (State.moveChan_chats h).keeps

theorem State.beginRun_keeps (s : State) (ch : Channel) : KeepsBut [.ent] s (s.beginRun ch) := by
  cases ch <;> exact keepsBut_of_restore (by cases s; rfl)

/-- What the start of a channel leaves beside its own run. -/
structure Started (ch : Channel) (s t : State) : Prop where
  keeps : KeepsBut (.ent :: talkParts) s t
  ops : t.sch.ops = s.sch.ops
  state : (t.chan ch).state = if s.chanOn ch then 1 else 0
  other : ∀ c, c ≠ ch → t.chan c = s.chan c
  forming : t.ent.forming = s.ent.forming

theorem State.startChan_started {s : State} {ch : Channel} (st : (s.chan ch).state = 0)
    (fresh : (s.chan ch).wasFailed = false) : Started ch s (s.startChan ch) := by
  cases on : s.chanOn ch with
  | false =>
    rw [startChan_off on]
    refine ⟨(s.limitsIn_keeps ch).within, ?_, ?_, fun c hc => ?_, ?_⟩
    · cases ch <;> rfl
    · rw [on]; cases ch <;> exact st
    · match ch, c with
      | .a, .b | .b, .a => rfl
      | .a, .a | .b, .b => exact absurd rfl hc
    · cases ch <;> rfl
  | true =>
    have idle : ((s.limitsIn ch).chan ch).state ≠ 1 := by
      have : ((s.limitsIn ch).chan ch).state = (s.chan ch).state := by cases ch <;> rfl
      rw [this, st]; decide
    have chats := State.moveChan_chats idle
    have ent := chats.ent
    rw [startChan_on on st fresh]
    refine ⟨((s.limitsIn_keeps ch).within.also (State.moveChan_keeps _ _ _)).also (State.beginRun_keeps _ _), ?_, ?_,
      fun c hc => ?_, ?_⟩
    · have ops := chats.ops
      cases ch <;> exact ops
    · rw [on]
      cases ch
      · exact congrArg (fun e : Entropy => e.a.state) ent
      · exact congrArg (fun e : Entropy => e.b.state) ent
    · match ch, c with
      | .a, .b => exact (congrArg Entropy.b ent :)
      | .b, .a => exact (congrArg Entropy.a ent :)
      | .a, .a | .b, .b => exact absurd rfl hc
    · cases ch <;> exact (congrArg Entropy.forming ent :)

/-! ## Step 9 -/

/-- With no self-test failing every engine stays. -/
theorem State.engineTests_pass (s : State) : s.engineTests 0 0 0 0 = s := by
  have none : ∀ {n : Nat} (l : List Nat) (b : Nat), (l.filter fun u => (0 : BitVec n).getLsbD (u - b)) = [] := fun l b =>
    List.filter_eq_nil_iff.2 fun u _ => by simp
  have noKat : ∀ l : List Nat, (l.filter fun u => s.unitIs u .active && (0 : BitVec 8).getLsbD (u - 168)) = [] := fun l =>
    List.filter_eq_nil_iff.2 fun u _ => by simp
  unfold engineTests
  simp only [none, List.append_nil, List.foldl_nil, noKat]

/-- Every instance of the Proofer waits for its instantiation. -/
def State.prfDue (s : State) : State := (List.range 4).foldl (fun s i => s.setInst i { s.inst i with due := true }) s

theorem State.prfTests_pass (s : State) : s.prfTests 0 = s.prfDue := by
  unfold prfTests prfDue
  congr 1
  funext s i
  exact if_neg (by simp)

theorem State.setInst_keeps (s : State) (i : Nat) (x : Prf) : KeepsBut [.prf] s (s.setInst i x) :=
  keepsBut_of_restore (by cases s; rfl)

theorem State.inst_setInst {s : State} {i : Nat} (hi : i < 4) (j : Nat) (x : Prf) :
    (s.setInst i x).inst j = if j = i then x else s.inst j := vecGet_vecSet _ _ hi _ _

theorem State.prfDue_fields (s : State) : { s.prfDue with prf := s.prf } = s := by
  unfold prfDue
  generalize List.range 4 = l
  induction l generalizing s with
  | nil => rfl
  | cons i l ih =>
    exact congrArg (fun t : State => { t with prf := s.prf }) (ih (s.setInst i { s.inst i with due := true }))

theorem State.prfDue_keeps (s : State) : KeepsBut [.prf] s s.prfDue :=
  KeepsBut.foldl _ (fun _ _ => State.setInst_keeps _ _ _) _ s

theorem State.inst_prfDue (s : State) {i : Nat} (hi : i < 4) : s.prfDue.inst i = { s.inst i with due := true } := by
  unfold prfDue
  rw [show List.range 4 = [0, 1, 2, 3] from rfl]
  simp only [List.foldl_cons, List.foldl_nil]
  rw [inst_setInst (by omega), inst_setInst (by omega), inst_setInst (by omega), inst_setInst (by omega)]
  obtain rfl | rfl | rfl | rfl : i = 0 ∨ i = 1 ∨ i = 2 ∨ i = 3 := by omega
  all_goals simp [inst_setInst]

/-- Step 9 as its channels start. -/
def State.step9Begun (s : State) : State :=
  let s := (s.beginStep 9).prfDue
  { s with ent := { s.ent with forming := true }, mod := { s.mod with inStep9 := true } }

theorem State.step9Begun_keeps (s : State) : KeepsBut [.mod, .ent, .prf] s s.step9Begun := by
  have opened : ∀ t : State, KeepsBut [.mod, .ent] t
      { t with ent := { t.ent with forming := true }, mod := { t.mod with inStep9 := true } } := fun t =>
    keepsBut_of_restore (by cases t; rfl)
  exact ((s.beginStep_keeps 9).within.also (State.prfDue_keeps _)).also (opened _)

/-- The channels of step 9 started. -/
def State.step9Started (s : State) : State := (s.step9Begun.startChan .a).startChan .b

/-- While a channel runs its startup and the Proofer waits, step 9 moves nothing more. -/
theorem State.entropyReact_starting {s : State} (lane : shaUnits.any (fun u => s.unitIs u .active) = true)
    (prf : s.prfReact = s) (unsettled : s.channelsSettled = false) : s.entropyReact = s := by
  have lanes : s.shaLost = s := by
    have some : (shaUnits.all fun u => s.unitIs u .off) = false := by
      rw [List.all_eq_false]
      obtain ⟨u, hu, active⟩ := List.any_eq_true.1 lane
      refine ⟨u, hu, ?_⟩
      unfold unitIs at active ⊢
      rw [eq_of_beq active]
      decide
    unfold shaLost
    rw [some, Bool.false_and]
    exact if_neg Bool.false_ne_true
  unfold entropyReact
  rw [lanes, prf]
  unfold step9Check
  rw [unsettled, Bool.and_false]
  exact if_neg Bool.false_ne_true

theorem State.step9Begun_rcp (s : State) : s.step9Begun.rcp = s.rcp := (congrArg State.rcp (s.beginStep 9).prfDue_fields :)
theorem State.step9Begun_sch (s : State) : s.step9Begun.sch = s.sch := (congrArg State.sch (s.beginStep 9).prfDue_fields :)

theorem State.step9Begun_mod (s : State) :
    s.step9Begun.mod = { s.mod with begun := insertNew s.mod.begun 9, inStep9 := true } :=
  (congrArg (fun t : State => { t.mod with inStep9 := true }) (s.beginStep 9).prfDue_fields :)

theorem State.step9Begun_ent (s : State) : s.step9Begun.ent = { s.ent with forming := true } :=
  (congrArg (fun t : State => { t.ent with forming := true }) (s.beginStep 9).prfDue_fields :)

theorem State.inst_step9Begun (s : State) {i : Nat} (hi : i < 4) : s.step9Begun.inst i = { s.inst i with due := true } :=
  (s.beginStep 9).inst_prfDue hi

/-- Step 9 with every test passing starts both channels and then waits. -/
theorem State.step9_eq {s : State} (lane : shaUnits.any (fun u => s.step9Started.unitIs u .active) = true)
    (prf : s.step9Started.prfReact = s.step9Started) (unsettled : s.step9Started.channelsSettled = false) :
    s.step9 0 0 0 0 0 = s.step9Started := by
  have kat : s.step9Started.katCheck = s.step9Started := by unfold katCheck; exact if_pos lane
  have begun : s.step9 0 0 0 0 0 = s.step9Started.katCheck.entropyReact := by
    unfold step9 step9Started step9Begun
    simp only [engineTests_pass, prfTests_pass]
  rw [begun, kat]
  exact entropyReact_starting lane prf unsettled

/-- What step 9 stands on once its channels have started. -/
structure Step9Started (s t : State) : Prop where
  keeps : KeepsBut (.mod :: .ent :: .prf :: talkParts) s t
  mod : t.mod = { s.mod with begun := insertNew s.mod.begun 9, inStep9 := true }
  ops : t.sch.ops = s.sch.ops
  rcp : t.rcp = s.rcp
  a : t.ent.a.state = if s.chanOn .a then 1 else 0
  b : t.ent.b.state = if s.chanOn .b then 1 else 0
  forming : t.ent.forming = true
  inst : ∀ i < 4, t.inst i = { s.inst i with due := true }

theorem State.step9Started_started {s : State} (a : s.ent.a.state = 0) (b : s.ent.b.state = 0)
    (freshA : s.ent.a.wasFailed = false) (freshB : s.ent.b.wasFailed = false) : Step9Started s s.step9Started := by
  have ent := s.step9Begun_ent
  have first : Started .a s.step9Begun (s.step9Begun.startChan .a) := by
    refine startChan_started ?_ ?_
    · exact (congrArg (fun e : Entropy => e.a.state) ent).trans a
    · exact (congrArg (fun e : Entropy => e.a.wasFailed) ent).trans freshA
  have rest : (s.step9Begun.startChan .a).ent.b = s.ent.b :=
    (first.other .b (by decide)).trans (congrArg Entropy.b ent :)
  have second : Started .b (s.step9Begun.startChan .a) s.step9Started := by
    refine startChan_started ?_ ?_
    · exact (congrArg Chan.state rest).trans b
    · exact (congrArg Chan.wasFailed rest).trans freshB
  have rcp : (s.step9Begun.startChan .a).rcp = s.rcp := (first.keeps .rcp (by decide) :).trans s.step9Begun_rcp
  have chanOn : ∀ {t : State} (ch : Channel), t.rcp = s.rcp → t.chanOn ch = s.chanOn ch := fun ch h => by
    unfold chanOn; rw [h]
  have moved : KeepsBut (.ent :: talkParts) s.step9Begun s.step9Started := first.keeps.trans second.keeps
  refine ⟨s.step9Begun_keeps.within.also moved, (moved .mod (by decide) :).trans s.step9Begun_mod,
    second.ops.trans (first.ops.trans (congrArg Scheduler.ops s.step9Begun_sch)),
    (second.keeps .rcp (by decide) :).trans rcp, ?_, ?_, ?_, fun i hi => ?_⟩
  · have same : s.step9Started.ent.a = (s.step9Begun.startChan .a).ent.a := second.other .a (by decide)
    rw [same]
    exact first.state.trans (by rw [chanOn .a s.step9Begun_rcp])
  · exact second.state.trans (by rw [chanOn .b rcp])
  · exact second.forming.trans (first.forming.trans (congrArg Entropy.forming ent))
  · rw [← s.inst_step9Begun hi]
    exact congrArg (vecGet Prf.start · i) (moved .prf (by decide) :)

/-- Settles O16: with no test failing step 9 only starts its channels and leaves the Proofer due. -/
theorem stageStep9 : Obligations.StageStep9 := by
  unfold Obligations.StageStep9
  intro s next outside fresh noGather lanes on a b freshA freshB
  have started := State.step9Started_started a b freshA freshB
  have notDone : s.stepDone 9 = false := by
    unfold State.stageNext at next
    split at next
    · cases next
    · simpa using List.find?_some next
  have unit : ∀ u, s.step9Started.unit u = s.unit u := fun u => by unfold State.unit; rw [started.rcp]
  have chanOn : ∀ ch, s.step9Started.chanOn ch = s.chanOn ch := fun ch => by unfold State.chanOn; rw [started.rcp]
  have lane : shaUnits.any (fun u => s.step9Started.unitIs u .active) = true := by
    refine List.any_eq_true.2 ⟨168, by decide, ?_⟩
    unfold State.unitIs
    rw [unit, lanes 168 (by decide)]
    rfl
  have runs : (s.step9Started.mode == .service || (s.step9Started.mode == .stage && s.step9Started.stepDone 9)) = false := by
    have mode : s.step9Started.mode = .stage :=
      (started.keeps .mode (by decide) :).trans (State.stageRuns_mode (State.stageRuns_of_next next).1)
    have open9 : s.step9Started.stepDone 9 = false := by
      unfold State.stepDone
      rw [started.mod]
      exact notDone
    rw [mode, open9]
    rfl
  have unsettled : s.step9Started.channelsSettled = false := by
    unfold State.channelsSettled
    rw [List.all_eq_false]
    rcases (Bool.or_eq_true _ _).mp on with on | on
    · refine ⟨.a, by simp, ?_⟩
      rw [chanOn, on, show (s.step9Started.chan .a).state = 1 from started.a.trans (if_pos on)]
      decide
    · refine ⟨.b, by simp, ?_⟩
      rw [chanOn, on, show (s.step9Started.chan .b).state = 1 from started.b.trans (if_pos on)]
      decide
  have waits : s.step9Started.mayInstantiate = false := by
    unfold State.mayInstantiate
    rw [unsettled, started.mod]
    rfl
  have prf : s.step9Started.prfReact = s.step9Started := by
    refine State.prfReact_waits (fun o ho => noGather o (started.ops ▸ ho)) (fun i hi => ?_) waits runs
    rw [started.inst i hi, fresh i hi]
    rfl
  have due := State.stepDue_of_next next
  refine runs_clock (fun s => if s.mod.inStep9 then s else s.atStep 9 fun s => s.step9 0 0 0 0 0) rfl
    (State.stageRuns_running (State.stageRuns_of_next next).1) _
    ((if_neg (by rw [outside]; exact Bool.false_ne_true)).trans ((if_pos due).trans (State.step9_eq lane prf unsettled)))
    started.keeps ?_
  rw [settle_mod, settle_ent, started.mod]
  refine ⟨rfl, rfl, started.forming, started.a, started.b, fun i hi => ?_⟩
  unfold State.inst
  rw [settle_prf]
  exact (started.inst i hi).trans (by rw [fresh i hi])

end Sys2Proof.Machine
end

section
/-! PROOF. ENGINE_OPERATION_COMPLETE, and why what it changes is not confined to the port: the engine that the authentication
leaves is idle, and an operation of a queue that has no other goes on with it in the same cycle (R386, R387, R389). -/

namespace Sys2Proof.Machine

open Sys2Proof.Tests

/-- A recipe whose queue 0 may use ECC engine 128 only. -/
def oneEngine : Recipe := { recipe 5 with queues := [⟨0, 5, 8, 1⟩] }

/-- Engine 128 computes for an authentication, and an ANCHOR_ACK waits for it. -/
def engineShared : State :=
  let s := (serving 5).withTag { tag with auth := some (authWork .keys) }
  { s with
    rcp := { s.rcp with recipe := some oneEngine }
    sch := { s.sch with ops := [{ s.newOp 0 (fetch ackDesc) with phase := .ecc }] } }

theorem engineShared_quiet : engineShared.quiet := (quiet_iff _).2 (by decide +kernel)

theorem exec_engineOperationComplete {s : State} (u : Nat) (r : EngineResult) (h : s.running = true) :
    exec (.engineOperationComplete u r) s = .next (settle s (s.engineResult u r).react) :=
  reacting_next (fun s => s.engineResult u r) h

/-- The ANCHOR_ACK runs on the engine and ends. -/
theorem engineShared_ops : (engineShared.engineResult 128 .done).react.sch.ops = [] := by decide +kernel

/-- Refutes O36: its third clause confines the result of an engine to the ports, and here it ends the operation that waits
for the engine. -/
theorem not_enginesReport : ¬ Obligations.EnginesReport := by
  rintro ⟨-, -, agrees, -⟩
  obtain ⟨t, ran, keeps, -⟩ := agrees engineShared 128 0 1 (authWork .keys) 5 rfl engineShared_quiet rfl rfl rfl rfl rfl
  rw [exec_engineOperationComplete _ _ rfl] at ran
  obtain rfl : settle engineShared (engineShared.engineResult 128 .done).react = t := Host.Outcome.next.inj ran
  have kept : (engineShared.engineResult 128 .done).react.sch = engineShared.sch :=
    (settle_sch ..).symm.trans (keeps .sch (by decide))
  have ended : engineShared.sch.ops = [] := kept ▸ engineShared_ops
  exact List.cons_ne_nil _ [] ended

end Sys2Proof.Machine
end

section
/-! PROOF. UNIT_RESTART, and why what it changes is not confined to its frame: an operation that waits for the last engine
of its set completes when the engine drains, and the count it has committed shows with its completion (R31, R143, R387). -/

namespace Sys2Proof.Machine

open Sys2Proof.Tests

/-- An operation that waits for engine 128, its count of record 3 committed and not shown yet. -/
def countWaits : State :=
  { engineShared with
    sch := { engineShared.sch with ops := [{ engineShared.newOp 0 (fetch ackDesc) with
      phase := .ecc, committed := true, record := 3, count := 5 }] }
    cnt := { engineShared.cnt with visible := [(3, 4)] } }

theorem countWaits_quiet : countWaits.quiet := (quiet_iff _).2 (by decide +kernel)

/-- The state in which a restart of unit 128 reacts. -/
def countWaitsDrained : State := countWaits.unitCommand .pcie 128 .active fun s => s.drainUnit 128 .restart

theorem exec_unitRestart_countWaits :
    exec (.unitRestart .pcie 128) countWaits = .next (settle countWaits countWaitsDrained.react) :=
  reacting_next (fun s => s.unitCommand .pcie 128 .active fun s => s.drainUnit 128 .restart) rfl

/-- The operation completes RETRY_LATER, and its count shows. -/
theorem countWaitsDrained_visible : countWaitsDrained.react.cnt.visible = [] := by decide +kernel

/-- Refutes O44: its first clause holds the counters among what a RESTART leaves alone, and here the count of an operation
that waited for the engine shows. -/
theorem not_unitService : ¬ Obligations.UnitService := by
  rintro ⟨drains, -⟩
  obtain ⟨t, ran, keeps, -⟩ := drains countWaits 128 (.restart, .unitRestart .pcie 128) rfl countWaits_quiet (by decide)
    rfl rfl (by decide +kernel) nofun (by simp)
  obtain rfl : settle countWaits countWaitsDrained.react = t :=
    Host.Outcome.next.inj (exec_unitRestart_countWaits.symm.trans ran)
  have kept : countWaitsDrained.react.cnt = countWaits.cnt := (settle_cnt ..).symm.trans (keeps .cnt (by decide))
  have shown : countWaits.cnt.visible = [] := kept ▸ countWaitsDrained_visible
  exact List.cons_ne_nil _ [] shown

end Sys2Proof.Machine
end

section
/-! PROOF. The end of an enumeration with no tag, and why what it changes is not confined to its frame: the positions' work
ends with it, and an operation that waited for their engine goes on and completes (R31, R188, R386). -/

namespace Sys2Proof.Machine

open Sys2Proof.Tests

/-- Port 0 waits for the presence of its reset, an authentication of its position 1 holds engine 128, and an operation
waits for that engine. -/
def presenceAwaited : State :=
  countWaits.setPort 0 { countWaits.port 0 with state := .reset, window := .presence false }

theorem presenceAwaited_quiet : presenceAwaited.quiet := (quiet_iff _).2 (by decide +kernel)

/-- The state that the close of the window leads to. -/
def presenceMissed : State := ((presenceAwaited.presenceClose 0 none false).1.commandEnd 0 (presenceAwaited.presenceClose 0 none false).2).react

theorem exec_presenceWindowClose_presenceAwaited :
    exec (.presenceWindowClose 0 none false) presenceAwaited = .next (settle presenceAwaited presenceMissed) :=
  reacting_next (fun s => (s.presenceClose 0 none false).1.commandEnd 0 (s.presenceClose 0 none false).2) rfl

/-- The operation runs on the engine and completes, and its count shows. -/
theorem presenceMissed_visible : presenceMissed.cnt.visible = [] := by decide +kernel

/-- Refutes O49: its fourth clause holds the counters among what the end of an enumeration leaves alone, and here the
engine that it frees lets an operation complete whose count then shows. -/
theorem not_plaitEnumerates : ¬ Obligations.PlaitEnumerates := by
  rintro ⟨-, -, -, noPresence, -⟩
  obtain ⟨t, ran, keeps, -⟩ := noPresence presenceAwaited 0 rfl presenceAwaited_quiet rfl
  obtain rfl : settle presenceAwaited presenceMissed = t :=
    Host.Outcome.next.inj (exec_presenceWindowClose_presenceAwaited.symm.trans ran)
  have kept : presenceMissed.cnt = presenceAwaited.cnt := (settle_cnt ..).symm.trans (keeps .cnt (by decide))
  have shown : presenceAwaited.cnt.visible = [] := kept ▸ presenceMissed_visible
  exact List.cons_ne_nil _ [] shown

end Sys2Proof.Machine
end

section
/-! PROOF. Reads of BAR0 with side effects: RC fields, wide values, STS_REG_WRITE_REJECTS, TICK_NOW and RNG_DATA (R14, R19,
R278, R280, R479, R484). -/

namespace Sys2Proof.Machine

/-- The end of a command, seen from the state it ends: only a device condition may have come up. -/
theorem settle_keeps (old e : State) : KeepsBut [.irq] e (settle old e) :=
  have before : KeepsBut [.irq] e { e with irqStat := old.irqStat, pending := old.pending } := fun p hp => by
    have same := KeepsBut.refl [] e p List.not_mem_nil
    cases p with
    | irq => exact absurd (by decide) hp
    | _ => exact same
  have after : KeepsBut [.irq] { e with irqStat := old.irqStat, pending := old.pending } e := fun p hp => by
    have same := KeepsBut.refl [] e p List.not_mem_nil
    cases p with
    | irq => exact absurd (by decide) hp
    | _ => exact same
  before.trans (keepsBut_settle after)

/-- A command that reads one word leaves what the read leaves, and hands the word to its requester. -/
theorem readsWord {c : Instr} {s u : State} {r : Requester} {off : Nat} {w : Word}
    (hx : exec c s = onClock s fun s => if s.hears r then s.busRead r off false else s) (hr : s.running = true)
    (hh : s.hears r = true) (ha : off % 4 = 0) (hw : s.readWord r off = (w, u)) :
    ∃ t, t = settle s (u.emit (.readData r [w])) ∧ exec c s = .next t ∧ KeepsBut [.out, .irq] u t ∧ .readData r [w] ∈ t.out := by
  refine ⟨_, rfl, ?_, ((u.emit_keeps _).within).also (settle_keeps s _), mem_settle_out (by simp)⟩
  rw [hx, onClock_next _ hr, if_pos hh, State.busRead_word ha hw]

/-- Settles O18: a cleared field answers its word, and the words above a lowest word stand in the latch. -/
theorem readsHaveTheirSideEffects : Obligations.ReadsHaveTheirSideEffects := by
  unfold Obligations.ReadsHaveTheirSideEffects
  refine ⟨fun s u r off w hr hh aligned loaded field => ?_, fun s u r off w ws hr hh aligned loaded field => ?_⟩
  · obtain ⟨t, -, next, keeps, sent⟩ := readsWord (c := .rcFieldRead r off false) rfl hr hh aligned
      (State.readWord_clears field loaded)
    exact ⟨t, next, keeps, sent⟩
  · obtain ⟨t, rfl, next, keeps, sent⟩ := readsWord (c := .wideValueLowRead r off false) rfl hr hh aligned
      (State.readWord_lowest field loaded)
    exact ⟨_, next, ((u.latchAll_keeps r _ ws).within).also keeps, sent, fun i h =>
      settle_held_latchAll s u r ws _ _ (List.getElem?_eq_getElem h)⟩

/-! ## STS_REG_WRITE_REJECTS and TICK_NOW -/

/-- What a read of STS_REG_WRITE_REJECTS leaves of the counter (R14, R484). -/
def State.rejectsCleared (s : State) : State := { s with sts := { s.sts with rejects := 0 } }

theorem State.reg_stsRejects (s : State) (r : Requester) :
    s.reg r 0x300000 = some (.clears s.sts.rejects s.rejectsCleared) := rfl

theorem State.reg_tickLow (s : State) (r : Requester) :
    s.reg r 0x8 = some (.lowest (lowWord s.tick) [highWord s.tick] s) := rfl

/-- The higher word of TICK_NOW comes from the latch (R19). -/
theorem State.readWord_tickHigh {s : State} (r : Requester) (h : s.stepDone 1 = true) :
    s.readWord r 0xC = (s.held r 0xC, s) := by
  have loaded : s.offLoaded 0xC = true := h
  have reg : s.reg r 0xC = some .higher := rfl
  simp [readWord, reg, loaded]

/-- Both words of TICK_NOW in one cycle: the low one latches the high one, which is read next. -/
theorem State.busRead_tick {s : State} (r : Requester) (h : s.stepDone 1 = true) :
    s.busRead r 0x8 true = (s.latch r 0xC (highWord s.tick)).emit (.readData r [lowWord s.tick, highWord s.tick]) := by
  have low : s.readWord r 0x8 = (lowWord s.tick, s.latch r 0xC (highWord s.tick)) :=
    readWord_lowest (s.reg_tickLow r) h
  have high : (s.latch r 0xC (highWord s.tick)).readWord r 0xC = (highWord s.tick, s.latch r 0xC (highWord s.tick)) := by
    rw [readWord_tickHigh r (by cases r <;> exact h), held_latch, if_pos rfl]
  rw [busRead, if_neg (by simp), low]
  exact congrArg (fun b : Word × State => b.2.emit (.readData r [lowWord s.tick, b.1])) high

/-- Settles O19: the cleared counter, and the latch that the read of the low word fills before the high one is read. -/
theorem counterAndTickReads : Obligations.CounterAndTickReads := by
  unfold Obligations.CounterAndTickReads
  refine ⟨fun s r hr hh loaded => ?_, fun s r hr hh loaded => ?_⟩
  · refine runs_wordRead rfl hr hh rfl (State.readWord_clears (s.reg_stsRejects r) loaded)
      (KeepsBut.within (a := [.sts]) (s.withSts_keeps _ rfl)) ?_
    exact settle_stsField Stats.rejects s _ fun _ _ => rfl
  · refine runs_clock _ rfl hr _ ((if_pos hh).trans (s.busRead_tick r loaded)) ?_ (mem_settle_out (by simp))
    exact ((s.latch_keeps r _ _).within).also (State.emit_keeps _ _)

/-! ## RNG_DATA (R278, R280) -/

theorem State.reg_rngData (s : State) (r : Requester) : s.reg r 0x150104 = some (.clears s.rngRead.1 s.rngRead.2) := rfl

/-- The instance that serves the readers of RNG_DATA gives its four octets. -/
theorem State.rngRead_some {s : State} {i : Nat} (serves : s.server 0 = some i) (full : 4 ≤ (s.inst i).buf.length) :
    s.rngRead = (BitVec.ofNat 32 (leNat ((s.inst i).buf.take 4)),
      s.setInst i { s.inst i with buf := (s.inst i).buf.drop 4 }) := by
  simp only [rngRead, serves, drawFrom, if_pos full]

/-- No instance serves, or the one that does holds less than four octets. -/
theorem State.rngRead_none {s : State} (empty : ∀ i, s.server 0 = some i → (s.inst i).buf.length < 4) :
    s.rngRead = (0, { s with rngEmpty := true }) := by
  unfold rngRead
  cases serves : s.server 0 with
  | none => rfl
  | some i => simp only [drawFrom, if_neg (Nat.not_le.2 (empty i serves))]

/-- Settles O21: the octets leave the instance that serves, and without them EMPTY_READ sticks. -/
theorem rngDataReads : Obligations.RngDataReads := by
  unfold Obligations.RngDataReads
  refine ⟨fun s r i hr hh loaded serves full => ?_, fun s r hr hh loaded empty => ?_⟩
  · have read := State.readWord_clears (s.reg_rngData r) (u := s.rngRead.2) loaded
    rw [State.rngRead_some serves full] at read
    refine runs_wordRead rfl hr hh rfl read ((s.setInst_keeps i _).within) ?_
    rw [settle_prf]
    rfl
  · have read := State.readWord_clears (s.reg_rngData r) (u := s.rngRead.2) loaded
    rw [State.rngRead_none empty] at read
    refine runs_wordRead rfl hr hh rfl read (KeepsBut.within (a := [.rng]) (keepsBut_of_restore (by cases s; rfl))) ?_
    rw [settle_rngEmpty]
    rfl

end Sys2Proof.Machine
end

section
/-! PROOF. Writes of BAR0 registers: what is taken, what is discarded and what falls in a hole (R17, R418, R480, R481,
R486, R487). -/

namespace Sys2Proof.Machine

/-- Whether anything waits that could go on shows in these fields alone. -/
theorem quiet_congr {s t : State} (h : s.quiet) (ops : t.sch.ops = s.sch.ops := by rfl) (ports : t.ports = s.ports := by rfl)
    (units : t.rcp.units = s.rcp.units := by rfl) (recipe : t.rcp.recipe = s.rcp.recipe := by rfl)
    (blowing : t.life.blowing = s.life.blowing := by rfl) (retire : t.life.retireWait = s.life.retireWait := by rfl)
    (arrivals : t.cnt.arrivals = s.cnt.arrivals := by rfl) (commits : t.cnt.queue = s.cnt.queue := by rfl)
    (busy : t.cnt.busy = s.cnt.busy := by rfl) (hand : t.glz.hand = s.glz.hand := by rfl)
    (commit : t.glz.commit = s.glz.commit := by rfl) (stalled : t.glz.stalled = s.glz.stalled := by rfl)
    (window : t.ldr.stalled = s.ldr.stalled := by rfl) : t.quiet := by
  simp only [State.quiet, State.opQuiet, State.port, State.onWire, State.engineActive, State.unitIs, State.unit,
    State.affinity, State.queueEntry, State.eccMay, State.idleEcc, State.auths, ops, ports, units, recipe, blowing, retire,
    arrivals, commits, busy, hand, commit, stalled, window] at h ⊢
  exact h

/-! ## The judgement of a write -/

/-- The host's write to a register of a loaded block that takes it. -/
theorem State.judgeWrite_taken {s t : State} {off o : Nat} {w : Word} {b : RegBlock} (reg : (s.reg .pcie off).isNone = false)
    (block : blockAt off = some (b, o)) (loaded : s.blockLoaded b = true) (taken : s.blockWrite .pcie b o w = some t) :
    s.judgeWrite .pcie off w = .done t := by
  simp [judgeWrite, reg, block, loaded, taken]

/-- The host's write to a register of a loaded block that does not take it (R17). -/
theorem State.judgeWrite_refused {s : State} {off o : Nat} {w : Word} {b : RegBlock} (reg : (s.reg .pcie off).isNone = false)
    (block : blockAt off = some (b, o)) (loaded : s.blockLoaded b = true) (refused : s.blockWrite .pcie b o w = none) :
    s.judgeWrite .pcie off w = .discarded := by
  simp [judgeWrite, reg, block, loaded, refused]

/-- A write of the maintenance controller to a register that is not among its own (R470). -/
theorem State.judgeWrite_foreign {s : State} {off o : Nat} {w : Word} {b : RegBlock} (reg : (s.reg .msp off).isNone = false)
    (block : blockAt off = some (b, o)) (foreign : mspWrites b o = false) : s.judgeWrite .msp off w = .discarded := by
  simp [judgeWrite, reg, block, foreign]

theorem State.judgeWrite_hole {s : State} {r : Requester} {off : Nat} {w : Word} (h : s.reg r off = none) :
    s.judgeWrite r off w = .hole := by
  simp [judgeWrite, h]

theorem State.writeWord_done {s t : State} {r : Requester} {off : Nat} {w : Word} (h : s.judgeWrite r off w = .done t) :
    s.writeWord r off w = t := by simp only [writeWord, h]

theorem State.writeWord_discarded {s : State} {r : Requester} {off : Nat} {w : Word}
    (h : s.judgeWrite r off w = .discarded) : s.writeWord r off w = s.reject r := by simp only [writeWord, h]

theorem State.writeWord_hole {s : State} {r : Requester} {off : Nat} {w : Word} (h : s.judgeWrite r off w = .hole) :
    s.writeWord r off w = s.countHole := by simp only [writeWord, h]

/-- A write of one word at an aligned offset. -/
theorem State.busWrite_word {s : State} {r : Requester} {off : Nat} {w : Word} (ha : off % 4 = 0) :
    s.busWrite r off w none = s.writeWord r off w := by
  simp [busWrite, ha]

/-- A pair of which neither word is taken is refused whole, and no word of it falls in a hole. -/
theorem State.busWrite_discarded {s : State} {r : Requester} {off : Nat} {lo hi : Word} (ha : off % 8 = 0)
    (low : s.judgeWrite r off lo = .discarded) (high : s.judgeWrite r (off + 4) hi = .discarded) :
    s.busWrite r off lo (some hi) = s.reject r := by
  rw [busWrite, if_neg (by simp only [Option.isSome_some, true_and, not_or, ne_eq]; omega)]
  simp [low, high, holeOf]

/-- A pair of which both words are taken: one write after the other. -/
theorem State.busWrite_pair {s t u : State} {r : Requester} {off : Nat} {lo hi : Word} (ha : off % 8 = 0)
    (low : s.judgeWrite r off lo = .done t) (high : s.judgeWrite r (off + 4) hi = .done u) :
    s.busWrite r off lo (some hi) = t.writeWord r (off + 4) hi := by
  rw [busWrite, if_neg (by simp only [Option.isSome_some, true_and, not_or, ne_eq]; omega)]
  simp [low, high]

/-! ## GLB_IRQ_EN (R486, R487) -/

/-- GLB_IRQ_EN with a new value, the second after which a snapshot is due begun. -/
def State.irqEnSet (s : State) (v : Word) : State :=
  ({ s with kept := { s.kept with irqEn := v.truncate 13 } }).keptChanged

theorem State.irqEnSet_keeps (s : State) (v : Word) : KeepsBut [.kept, .mod] s (s.irqEnSet v) :=
  keepsBut_of_restore (by cases s; rfl)

theorem State.writeIrqEn_changed {s : State} {v : Word} (changed : (v.truncate 13 : BitVec 13) ≠ s.kept.irqEn) :
    s.writeIrqEn v = if (v.truncate 13 : BitVec 13) &&& ~~~ s.kept.irqEn &&& s.irqStat = 0 then s.irqEnSet v
      else (s.irqEnSet v).signal 1024 := by
  have differs : ((v.truncate 13 : BitVec 13) != s.kept.irqEn) = true := bne_iff_ne.2 changed
  simp only [writeIrqEn, differs, if_true]
  rfl

theorem State.busWrite_irqEn {s : State} (v : Word) (h : s.stepDone 1 = true) :
    s.busWrite .pcie 0x14 v none = s.writeIrqEn v :=
  (busWrite_word rfl).trans (writeWord_done (judgeWrite_taken (b := .glb) rfl rfl h rfl))

/-- A vector that is not masked sends its message at once. -/
theorem State.signal_sends {s : State} {v : Nat} (unmasked : s.vectorMasked v = false) (master : s.canMaster = true) :
    s.signal v = s.message v := by simp [signal, unmasked, master]

theorem setBit_setBit {n : Nat} (v : BitVec n) (i : Nat) (b c : Bool) : setBit (setBit v i b) i c = setBit v i c := by
  refine BitVec.eq_of_getLsbD_eq fun j _ => ?_
  simp only [getLsbD_setBit]
  split <;> rfl

/-- The device vector's message leaves, and is counted. -/
def State.deviceMessage (s : State) : State := { s with
  links := { s.links with pba := setBit s.links.pba 1024 false }
  out := s.out ++ [.msix 1024]
  sts := { s.sts with devMsgs := satInc s.sts.devMsgs } }

theorem State.message_device (s : State) : s.message 1024 = s.deviceMessage := by
  unfold message
  exact if_pos rfl

/-- It shows in its count and its pending bit only. -/
theorem State.deviceMessage_keeps (s : State) : KeepsBut [.irq] s s.deviceMessage := by
  intro p hp
  have same := KeepsBut.refl [] s p List.not_mem_nil
  cases p with
  | irq => exact absurd (by decide) hp
  | out => exact (List.filter_append ..).trans (List.append_nil _)
  | links => exact congrArg (fun v => { s.links with pba := v }) (setBit_setBit ..)
  | _ => exact same

/-- Settles O24: a newly enabled condition that stands sends the message, and without one only the second begins. -/
theorem irqEnableWrites : Obligations.IrqEnableWrites := by
  unfold Obligations.IrqEnableWrites
  refine ⟨fun s v hr loaded changed calm => ?_, fun s v hr loaded unmasked master fresh => ?_, fun s v hr hh => ?_⟩
  · refine runs_clock _ rfl hr (s.irqEnSet v) ?_ (s.irqEnSet_keeps v) ?_
    · exact (s.busWrite_irqEn v loaded).trans ((State.writeIrqEn_changed changed).trans (if_pos calm))
    · rw [settle_kept, settle_mod]
      exact ⟨rfl, rfl⟩
  · have changed : (v.truncate 13 : BitVec 13) ≠ s.kept.irqEn := by
      rintro same
      rw [same] at fresh
      simp at fresh
    have sends : (s.irqEnSet v).signal 1024 = (s.irqEnSet v).deviceMessage :=
      (State.signal_sends (s := s.irqEnSet v) unmasked master).trans (State.message_device _)
    refine runs_clock _ rfl hr (s.irqEnSet v).deviceMessage ?_ ?_ ?_
    · exact (s.busWrite_irqEn v loaded).trans ((State.writeIrqEn_changed changed).trans ((if_neg fresh).trans sends))
    · exact (s.irqEnSet_keeps v).within.also (State.deviceMessage_keeps _)
    · rw [settle_kept, settle_sts (by rfl)]
      exact ⟨rfl, mem_settle_out (List.mem_append_right _ (List.mem_singleton_self _)), rfl⟩
  · refine runs_clock _ rfl hr (s.reject .msp) ?_ (s.reject_keeps .msp) ?_
    · exact (if_pos hh).trans ((State.busWrite_word rfl).trans
        (State.writeWord_discarded (State.judgeWrite_foreign (b := .glb) rfl rfl rfl)))
    · rw [settle_reject_rejects, settle_msp]
      exact ⟨rfl, rfl⟩

/-! ## Other registers -/

theorem State.writeWord_lead {s : State} {w : Word} (h : s.stepDone 6 = true) :
    s.writeWord .pcie 0x2A0000 w = (s.writeSpc 0 w).getD (s.reject .pcie) := by
  have loaded : s.blockLoaded .spc = true := h
  cases taken : s.writeSpc 0 w with
  | none => exact writeWord_discarded (judgeWrite_refused (b := .spc) rfl rfl loaded taken)
  | some t => exact writeWord_done (judgeWrite_taken (b := .spc) rfl rfl loaded taken)

/-- SPC_CTRL with another LEAD, the second after which a snapshot is due begun. -/
def State.leadSet (s : State) (w : Word) : State := ({ s with kept := { s.kept with lead := fld w 4 0 } }).keptChanged

theorem State.leadSet_keeps (s : State) (w : Word) : KeepsBut [.kept, .mod] s (s.leadSet w) :=
  keepsBut_of_restore (by cases s; rfl)

theorem State.writeSpc_lead {s : State} {w : Word} (range : fld w 4 0 ≤ 16) (changed : fld w 4 0 ≠ s.kept.lead) :
    s.writeSpc 0 w = some (s.leadSet w) := by
  have differs : (fld w 4 0 != s.kept.lead) = true := bne_iff_ne.2 changed
  simp only [writeSpc, takeIf, range, decide_true, if_true, differs]
  rfl

theorem State.writeSpc_high {s : State} {w : Word} (above : 16 < fld w 4 0) : s.writeSpc 0 w = none := by
  simp [writeSpc, takeIf, Nat.not_le.2 above]

/-- A DISABLED queue with another ring base. -/
def State.sqBaseSet (s : State) (q : Nat) (v : BitVec 64) : State := s.setQueue q { s.queue q with sqBase := v }

theorem lowWord_append (hi lo : Word) : lowWord (hi ++ lo) = lo := by
  apply BitVec.eq_of_toNat_eq
  have := lo.isLt
  simp only [lowWord, BitVec.truncate_eq_setWidth, BitVec.toNat_setWidth, BitVec.toNat_append, Nat.shiftLeft_eq,
    ← Nat.two_pow_add_eq_or_of_lt this, Nat.mul_comm hi.toNat]
  omega

theorem withHigh_withLow (v : BitVec 64) (lo hi : Word) : withHigh (withLow v lo) hi = hi ++ lo :=
  congrArg (hi ++ ·) (lowWord_append (highWord v) lo)

/-- Both words of SQ_BASE of a queue that is not enabled, one after the other (R480). -/
theorem State.busWrite_sqBase {s : State} {lo hi : Word} (h : s.stepDone 6 = true) (off : (s.queue 0).state = 0) :
    s.busWrite .pcie 0x200010 lo (some hi)
      = (s.sqBaseSet 0 (withLow (s.queue 0).sqBase lo)).sqBaseSet 0 (hi ++ lo) := by
  have idle : ((s.queue 0).state == 0) = true := beq_iff_eq.2 off
  have low : s.judgeWrite .pcie 0x200010 lo = .done (s.sqBaseSet 0 (withLow (s.queue 0).sqBase lo)) :=
    judgeWrite_taken (b := .que) rfl rfl h (if_pos idle)
  have high {t : State} (ht : t.stepDone 6 = true) (hq : ((t.queue 0).state == 0) = true) :
      t.judgeWrite .pcie (0x200010 + 4) hi = .done (t.sqBaseSet 0 (withHigh (t.queue 0).sqBase hi)) :=
    judgeWrite_taken (b := .que) rfl rfl ht (if_pos hq)
  have base : (s.sqBaseSet 0 (withLow (s.queue 0).sqBase lo)).queue 0
      = { s.queue 0 with sqBase := withLow (s.queue 0).sqBase lo } := queue_setQueue_same ..
  rw [busWrite_pair rfl low (high h idle),
    writeWord_done (high (t := s.sqBaseSet 0 (withLow (s.queue 0).sqBase lo)) h (by rw [base]; exact idle)), base,
    withHigh_withLow]

theorem State.setQueue_keeps (s : State) (q : Nat) (x : Queue) : KeepsBut [.queues] s (s.setQueue q x) :=
  keepsBut_of_restore (by cases s; rfl)

/-- The conditions that a write of 1 has cleared (R486). -/
def State.irqCleared (s : State) (w : Word) : State := { s with irqStat := s.irqStat &&& ~~~ (w.truncate 13 : BitVec 13) }

theorem State.irqCleared_keeps (s : State) (w : Word) : KeepsBut [.irq] s (s.irqCleared w) := by
  intro p hp
  have same := KeepsBut.refl [] s p List.not_mem_nil
  cases p with
  | irq => exact absurd (by decide) hp
  | _ => exact same

theorem State.reject_host_keeps (s : State) : KeepsBut [.sts] s (s.reject .pcie) := keepsBut_of_restore (by cases s; rfl)

/-- What REGISTER_WRITE of the host does. -/
theorem runs_hostWrite {s e : State} {off : Nat} {lo : Word} {hi : Option Word} {ch : List Part} {post : State → Prop}
    (hr : s.running = true) (he : s.busWrite .pcie off lo hi = e) (hq : e.quiet) (hk : KeepsBut ch s e)
    (hp : post (settle s e)) : Runs (.registerWrite .pcie off lo hi) s ch post :=
  runs_react (fun s => if s.hears .pcie then s.busWrite .pcie off lo hi else s) rfl hr e ((if_pos rfl).trans he) hq hk hp

/-- Settles O23: each write is judged by its register, its block and its hole, and a pair is taken whole or not at all. -/
theorem registerWrites : Obligations.RegisterWrites := by
  unfold Obligations.RegisterWrites
  refine ⟨fun s w hr loaded hq => ?_, fun s w hr loaded hq range changed => ?_, fun s w hr loaded hq above => ?_,
    fun s off w hr hq aligned hole => ?_, fun s lo hi hr hq loaded busy => ?_, fun s lo hi hr hq loaded idle => ?_⟩
  · refine runs_hostWrite (e := s.irqCleared w) hr ?_ (quiet_congr hq) (s.irqCleared_keeps w) ?_
    · exact (State.busWrite_word rfl).trans (State.writeWord_done (State.judgeWrite_taken (b := .glb) rfl rfl loaded rfl))
    · rw [settle_irqStat]
      rfl
  · refine runs_hostWrite (e := s.leadSet w) hr ?_ (quiet_congr hq) (s.leadSet_keeps w) ?_
    · refine (State.busWrite_word rfl).trans ((State.writeWord_lead loaded).trans ?_)
      rw [State.writeSpc_lead range changed, Option.getD_some]
    · rw [settle_kept, settle_mod]
      exact ⟨rfl, rfl⟩
  · refine runs_hostWrite (e := s.reject .pcie) hr ?_ (quiet_congr hq) s.reject_host_keeps (settle_reject_rejects ..)
    refine (State.busWrite_word rfl).trans ((State.writeWord_lead loaded).trans ?_)
    rw [State.writeSpc_high above, Option.getD_none]
  · refine runs_hostWrite (e := s.countHole) hr ?_ (quiet_congr hq) s.countHole_keeps ?_
    · exact (State.busWrite_word aligned).trans (State.writeWord_hole (State.judgeWrite_hole hole))
    · exact settle_stsField Stats.unmapped s s.countHole fun _ _ => rfl
  · refine runs_hostWrite (e := s.reject .pcie) hr ?_ (quiet_congr hq) s.reject_host_keeps (settle_reject_rejects ..)
    have off : ¬ ((s.queue 0).state == 0) = true := fun h => busy (beq_iff_eq.1 h)
    exact State.busWrite_discarded rfl (State.judgeWrite_refused (b := .que) rfl rfl loaded (if_neg off))
      (State.judgeWrite_refused (b := .que) rfl rfl loaded (if_neg off))
  · refine runs_hostWrite hr (State.busWrite_sqBase loaded idle) (quiet_congr hq) ?_ ?_
    · exact (s.setQueue_keeps 0 _).trans (State.setQueue_keeps _ 0 _)
    · rw [settle_queue Queue.sqBase _ _ _ fun _ _ => rfl]
      exact congrArg Queue.sqBase (State.queue_setQueue_same ..)

end Sys2Proof.Machine
end

section
/-! PROOF. Frames of the maintenance SPI target: a READ, a WRITE judged word by word, a wrong CHECK (R466–R471). -/

namespace Sys2Proof.Machine

/-! ## What a frame does -/

/-- The CHECK word of a frame is there and is the CRC of the words before it. -/
theorem checkOk_iff {ws : List Word} {n : Nat} : checkOk ws n = true ↔ ws[n]? = some (crc32c (frameOctets (ws.take n))) := by
  simp [checkOk]

/-- A READ whose header, CHECK and length are right. -/
theorem State.mspFrame_read {s : State} {h a : Word} (header : mspHeaderOk h = true) (op : mspOp h = 1) :
    s.mspFrame [h, a, crc32c (frameOctets [h, a])] (mspLength h)
      = ((s.mspReadWords a.toNat (mspCount h)).2.mspTook).emit (.miso ((s.mspReadWords a.toNat (mspCount h)).1
          ++ [crc32c (frameOctets (s.mspReadWords a.toNat (mspCount h)).1)])) := by
  have body : mspBody h = 2 := by simp [mspBody, op]
  have check : checkOk [h, a, crc32c (frameOctets [h, a])] 2 = true := checkOk_iff.2 rfl
  simp [mspFrame, body, header, check, op, mspPerform]

/-- A frame with a wrong CHECK. -/
theorem State.mspFrame_wrong {s : State} {h a w c : Word} (header : mspHeaderOk h = true) (op : mspOp h = 2)
    (count : mspCount h = 1) (wrong : c ≠ crc32c (frameOctets [h, a, w])) :
    s.mspFrame [h, a, w, c] 128 = s.mspError false true false := by
  have body : mspBody h = 3 := by simp [mspBody, op, count]
  have check : checkOk [h, a, w, c] 3 = false := by
    rw [← Bool.not_eq_true, checkOk_iff]
    simpa using wrong
  simp [mspFrame, body, header, check]

/-- A WRITE of one word whose header, CHECK and length are right. -/
theorem State.mspFrame_write {s : State} {h a w : Word} (header : mspHeaderOk h = true) (op : mspOp h = 2)
    (count : mspCount h = 1) :
    s.mspFrame [h, a, w, crc32c (frameOctets [h, a, w])] 128 = s.mspTook.mspWriteWords a.toNat [w] := by
  have body : mspBody h = 3 := by simp [mspBody, op, count]
  have check : checkOk [h, a, w, crc32c (frameOctets [h, a, w])] 3 = true := checkOk_iff.2 rfl
  have length : mspLength h = 128 := by simp [mspLength, op, count]
  simp [mspFrame, body, header, check, op, length]

theorem State.mspWriteWords_one (s : State) (off : Nat) (w : Word) : s.mspWriteWords off [w] = s.writeWord .msp off w := by
  simp [mspWriteWords]

/-- A write of the maintenance controller to a register of its own that takes it. -/
theorem State.judgeWrite_msp {s t : State} {off o : Nat} {w : Word} {b : RegBlock} (reg : (s.reg .msp off).isNone = false)
    (block : blockAt off = some (b, o)) (loaded : s.blockLoaded b = true) (own : mspWrites b o = true)
    (taken : s.blockWrite .msp b o w = some t) : s.judgeWrite .msp off w = .done t := by
  simp [judgeWrite, reg, block, loaded, own, taken]

/-- MSP_ATTN_EN with a new value, the second after which a snapshot is due begun. -/
def State.attnEnSet (s : State) (w : Word) : State :=
  ({ s with kept := { s.kept with attnEn := w.truncate 4 } }).keptChanged

theorem State.writeAttnEn_changed {s : State} {w : Word} (changed : (w.truncate 4 : BitVec 4) ≠ s.kept.attnEn) :
    s.writeAttnEn w = s.attnEnSet w := by
  have differs : ((w.truncate 4 : BitVec 4) != s.kept.attnEn) = true := bne_iff_ne.2 changed
  simp only [writeAttnEn, differs, if_true]
  rfl

theorem State.writeWord_attnEn {s : State} {w : Word} (h : s.stepDone 1 = true) :
    s.writeWord .msp 0x2E0008 w = s.writeAttnEn w :=
  writeWord_done (judgeWrite_msp (b := .msp) rfl rfl h rfl rfl)

/-! ## The commands -/

theorem State.mspListens_of {s : State} (hr : s.running = true) (hh : s.hears .msp = true) : s.mspListens = true := by
  simp [mspListens, hr, hh]

theorem mspFrame_next {c : Instr} {s e : State} {mosi : List Word} {edges : Nat}
    (hx : exec c s = reacting s fun s => if s.mspListens then s.mspFrame mosi edges else s) (hr : s.running = true)
    (hh : s.hears .msp = true) (he : s.mspFrame mosi edges = e) (hq : e.quiet) : exec c s = .next (settle s e) := by
  have does : (if s.mspListens then s.mspFrame mosi edges else s) = e := (if_pos (State.mspListens_of hr hh)).trans he
  rw [hx, reacting_quiet _ hr (does ▸ hq), does]

/-- What a frame does to a block that listens, for both commands. -/
theorem runs_mspFrame {c : Instr} {s e : State} {mosi : List Word} {edges : Nat} {ch : List Part} {post : State → Prop}
    (hx : exec c s = reacting s fun s => if s.mspListens then s.mspFrame mosi edges else s) (hr : s.running = true)
    (hh : s.hears .msp = true) (he : s.mspFrame mosi edges = e) (hq : e.quiet) (hk : KeepsBut ch s e)
    (hp : post (settle s e)) : Runs c s ch post :=
  ⟨_, mspFrame_next hx hr hh he hq, keepsBut_settle hk, hp⟩

/-- Settles O25: a right frame is judged word by word, and a wrong CHECK shows in its error bit and count only. -/
theorem maintenanceFrames : Obligations.MaintenanceFrames := by
  unfold Obligations.MaintenanceFrames
  refine ⟨fun s u h a hr hh header op read hq => ?_, fun s w hr hh hq changed => ?_,
    fun s h a w c hr hh hq header op count wrong => ?_⟩
  · obtain ⟨e, he⟩ : ∃ e, e = (u.mspTook).emit (.miso ((s.mspReadWords a.toNat (mspCount h)).1
        ++ [crc32c (frameOctets (s.mspReadWords a.toNat (mspCount h)).1)])) := ⟨_, rfl⟩
    have frame : s.mspFrame [h, a, crc32c (frameOctets [h, a])] (mspLength h) = e := by
      rw [State.mspFrame_read header op, read, he]
    have quiet : e.quiet := he ▸ quiet_congr hq
    have kept : KeepsBut [.out, .msp] u e := he ▸ keepsBut_of_restore (by cases u; rfl)
    exact ⟨_, mspFrame_next rfl hr hh frame quiet, kept.within.also (settle_keeps s e), by rw [settle_msp, he]; rfl, mem_settle_out (by simp [he])⟩
  · have header : mspHeaderOk 0x02010000 = true := by decide +kernel
    have address : (0x2E0008 : Word).toNat = 0x2E0008 := by decide +kernel
    have took : s.mspFrame [0x02010000, 0x2E0008, w, crc32c (frameOctets [0x02010000, 0x2E0008, w])] 128
        = s.mspTook.attnEnSet w := by
      rw [State.mspFrame_write header (by decide +kernel) (by decide +kernel), State.mspWriteWords_one, address]
      exact (State.writeWord_attnEn (s := s.mspTook) hh).trans (State.writeAttnEn_changed changed)
    refine runs_mspFrame rfl hr hh took (quiet_congr hq) (keepsBut_of_restore (by cases s; rfl)) ?_
    rw [settle_kept, settle_msp, settle_mod]
    exact ⟨rfl, rfl, rfl⟩
  · refine runs_mspFrame rfl hr hh (State.mspFrame_wrong header op count wrong) (quiet_congr hq)
      (keepsBut_of_restore (by cases s; rfl)) ?_
    rw [settle_msp]
    simp [State.mspError]

end Sys2Proof.Machine
end

section
/-! PROOF. Stalls, carriers, readback faults and the words of GRD_FAULT and GRD_PERMIT (R156, R161–R163, R167). -/

namespace Sys2Proof.Machine

/-! ## Words of a vector of 256 bits -/

theorem getLsbD_word256 (v : BitVec 256) (m j : Nat) :
    (word256 v m).getLsbD j = (decide (j < 32) && v.getLsbD (32 * m + j)) := by
  simp [word256]

theorem word256_and (v w : BitVec 256) (m : Nat) : word256 (v &&& w) m = word256 v m &&& word256 w m := by
  refine BitVec.eq_of_getLsbD_eq fun j _ => ?_
  simp only [getLsbD_word256, BitVec.getLsbD_and]
  grind

theorem getLsbD_shifted (w : Word) (m i : Nat) :
    (w.zeroExtend 256 <<< (32 * m) : BitVec 256).getLsbD i
      = (decide (i < 256) && !decide (i < 32 * m) && w.getLsbD (i - 32 * m)) := by
  simp only [BitVec.truncate_eq_setWidth, BitVec.getLsbD_shiftLeft, BitVec.getLsbD_setWidth]
  grind

/-- A word moved to its place stands there, and nowhere else. -/
theorem word256_shifted {k m : Nat} (w : Word) (hk : k < 8) :
    word256 (w.zeroExtend 256 <<< (32 * m)) k = if k = m then w else 0 := by
  refine BitVec.eq_of_getLsbD_eq fun j hj => ?_
  rw [getLsbD_word256, getLsbD_shifted]
  split
  · subst k
    simp [hj, show 32 * m + j < 256 by omega, show ¬ 32 * m + j < 32 * m by omega]
  · have far : w.getLsbD (32 * k + j - 32 * m) = false ∨ 32 * k + j < 32 * m := by
      by_cases above : 32 * k + j < 32 * m
      · exact .inr above
      · exact .inl (BitVec.getLsbD_of_ge _ _ (by omega))
    rcases far with far | far <;> simp [far]

theorem word256_or (v w : BitVec 256) (m : Nat) : word256 (v ||| w) m = word256 v m ||| word256 w m := by
  refine BitVec.eq_of_getLsbD_eq fun j _ => ?_
  simp only [getLsbD_word256, BitVec.getLsbD_or]
  grind

theorem word256_not {m : Nat} (v : BitVec 256) (h : m < 8) : word256 (~~~ v) m = ~~~ word256 v m := by
  refine BitVec.eq_of_getLsbD_eq fun j hj => ?_
  have inside : 32 * m + j < 256 := by omega
  simp only [getLsbD_word256, BitVec.getLsbD_not, inside, hj, decide_true, Bool.true_and]

/-- The bits that a word clears are those of its own word. -/
theorem word256_clear {k m : Nat} (v : BitVec 256) (w : Word) (hk : k < 8) :
    word256 (v &&& ~~~ (w.zeroExtend 256 <<< (32 * m))) k = if k = m then word256 v k &&& ~~~ w else word256 v k := by
  rw [word256_and, word256_not _ hk, word256_shifted w hk]
  have ones : ~~~ (0 : Word) = BitVec.allOnes 32 := by decide
  split
  · rfl
  · rw [ones, BitVec.and_allOnes]

theorem word256_setWord256 {k m : Nat} (v : BitVec 256) (w : Word) (hk : k < 8) :
    word256 (setWord256 v m w) k = if k = m then w else word256 v k := by
  have ones : (0xFFFFFFFF : BitVec 256) = (0xFFFFFFFF : Word).zeroExtend 256 := by decide
  rw [setWord256, word256_or, ones, word256_clear v _ hk, word256_shifted w hk]
  split
  · simp
  · simp

/-! ## Part of the guards' state -/

theorem State.withFab_keeps (s : State) (x : Fabric) : KeepsBut [.fabric, .guards] s { s with fab := x } :=
  keepsBut_of_restore (by cases s; rfl)

/-- A live block: what a command leaves of the fabric stays. -/
theorem settle_fab_live {old e : State} (h : e.mode = .service ∧ e.vig.force = false ∧ e.life.retireWait = false) :
    (settle old e).fab = e.fab := by
  have guards := (settle_settled old e).guards
  rwa [if_pos h] at guards

/-- Whatever a command's end does to the guards, one that is not enabled stays so. -/
theorem settle_fab_cases (old e : State) : (settle old e).fab = e.fab
    ∨ (settle old e).fab.enabled = 0 ∧ (settle old e).fab.carrier = 0 := by
  have guards := (settle_settled old e).guards
  split at guards
  · exact .inl guards
  · exact .inr ⟨guards.1, guards.2.1⟩

theorem settle_fab_off {old e : State} (enabled : e.fab.enabled = 0) (carrier : e.fab.carrier = 0) :
    (settle old e).fab.enabled = 0 ∧ (settle old e).fab.carrier = 0 := by
  rcases settle_fab_cases old e with h | h
  · exact ⟨h ▸ enabled, h ▸ carrier⟩
  · exact h

theorem settle_fab_safe {old e : State} {g : Nat} (enabled : e.fab.enabled.getLsbD g = false)
    (carrier : e.fab.carrier.getLsbD g = false) :
    (settle old e).fab.enabled.getLsbD g = false ∧ (settle old e).fab.carrier.getLsbD g = false := by
  rcases settle_fab_cases old e with h | h
  · exact ⟨h ▸ enabled, h ▸ carrier⟩
  · exact ⟨by rw [h.1]; exact BitVec.getLsbD_zero, by rw [h.2]; exact BitVec.getLsbD_zero⟩

/-! ## The commands -/

/-- What a stall leaves before its interrupt (R156). -/
def State.stalled (s : State) : State := { s with
  fab := { s.fab with enabled := 0, carrier := 0, enabledAt := [], prevTrue := 0, stallHold := true }
  sts := { s.sts with stalls := satInc s.sts.stalls } }

theorem State.stalled_keeps (s : State) : KeepsBut [.fabric, .guards, .sts] s s.stalled :=
  keepsBut_of_restore (by cases s; rfl)

/-- A guard that its readback finds wrong, before the interrupt (R167). -/
def State.guardWrong (s : State) (g : Nat) : State := { s with
  fab := { s.fab with
    fault := setBit s.fab.fault g true, enabled := setBit s.fab.enabled g false
    carrier := setBit s.fab.carrier g false, enabledAt := tabDel s.fab.enabledAt g }
  sts := { s.sts with grdFaults := satInc s.sts.grdFaults } }

theorem State.guardWrong_keeps (s : State) (g : Nat) : KeepsBut [.fabric, .guards, .sts] s (s.guardWrong g) :=
  keepsBut_of_restore (by cases s; rfl)

/-- A state with other permit bits. -/
def State.permitSet (s : State) (v : BitVec 256) : State := { s with fab := { s.fab with permit := v } }

theorem State.permitSet_keeps (s : State) (v : BitVec 256) : KeepsBut [.fabric] s (s.permitSet v) :=
  keepsBut_of_restore (by cases s; rfl)

theorem exec_grdPermitWrite (s : State) (m : Nat) (x y : Option Word) :
    exec (.grdPermitWrite m x y) s = onClock s fun s =>
      if s.mode = .service ∧ m < 8 then s.writePermit m x y
      else
        let s := if x.isSome then s.reject .pcie else s
        if y.isSome then s.reject .msp else s := rfl

theorem exec_grdFaultClear (s : State) (m : Nat) (v : Word) :
    exec (.grdFaultClear m v) s = onClock s fun s =>
      if s.stepDone 6 && decide (m < 8) then s.clearFaults m v else s.reject .pcie := rfl

/-- A write of GRD_PERMITm that leaves `v` in its word, and every other word as it was. -/
theorem runs_permit {s : State} {m : Nat} {x y : Option Word} {v : Word} (hr : s.running = true) (hm : s.mode = .service)
    (h8 : m < 8) (does : s.writePermit m x y = s.permitSet (setWord256 s.fab.permit m v)) :
    Runs (.grdPermitWrite m x y) s [.fabric] fun t =>
      word256 t.fab.permit m = v ∧ ∀ k < 8, k ≠ m → word256 t.fab.permit k = word256 s.fab.permit k := by
  refine runs_clock _ (exec_grdPermitWrite s m x y) hr _ ((if_pos ⟨hm, h8⟩).trans does) (s.permitSet_keeps _) ?_
  rw [settle_fab Fabric.permit _ _ fun _ _ _ _ => rfl]
  exact ⟨(word256_setWord256 _ v h8).trans (if_pos rfl), fun k hk other =>
    (word256_setWord256 _ v hk).trans (if_neg other)⟩

/-- Settles O46: each command changes the guards' state as its rule says, and its end enables none. -/
theorem guardCommands : Obligations.GuardCommands := by
  unfold Obligations.GuardCommands
  refine ⟨fun s hr hm => ?_, fun s g n hr hm free live waits rises => ?_, fun s g hr driven => ?_,
    fun s m v hr loaded h8 => ?_, fun s m x hr hm h8 => ?_, fun s m v hr hm => ?_⟩
  · refine runs_clock State.stall rfl hr (s.stalled.raise .fabStall) (if_pos hm)
      (s.stalled_keeps.within.also (State.raise_keeps _ _)) ?_
    obtain ⟨enabled, carrier⟩ := settle_fab_off (old := s) (e := s.stalled.raise .fabStall)
      (by rw [State.raise_fab]; rfl) (by rw [State.raise_fab]; rfl)
    refine ⟨enabled, carrier, ?_, ?_, ?_, fun loaded => ?_⟩
    · rw [settle_fab Fabric.prevTrue s _ fun _ _ _ _ => rfl, State.raise_fab]
      rfl
    · rw [settle_fab Fabric.stallHold s _ fun _ _ _ _ => rfl, State.raise_fab]
      rfl
    · rw [settle_stsField Stats.stalls s _ fun _ _ => rfl, State.raise_sts]
      rfl
    · rw [settle_irqStat]
      exact State.raise_bit (s := s.stalled) .fabStall loaded
  · refine runs_clock (fun s => s.startCarrier g) rfl hr { s with fab := { s.fab with
        carrier := setBit s.fab.carrier g true, enabledAt := tabDel s.fab.enabledAt g } } ?_
      (keepsBut_of_restore (by cases s; rfl)) (settle_fab_live ⟨hm, free, live⟩)
    simp only [State.startCarrier, waits, rises, if_true]
  · refine runs_clock (fun s => s.guardFault g) rfl hr ((s.guardWrong g).raise .guardFault) (if_pos driven)
      ((s.guardWrong_keeps g).within.also (State.raise_keeps _ _)) ?_
    have cleared (v : BitVec 256) : (setBit v g false).getLsbD g = false := by
      rw [getLsbD_setBit]
      split
      · rfl
      · exact BitVec.getLsbD_of_ge _ _ (by omega)
    obtain ⟨enabled, carrier⟩ := settle_fab_safe (old := s) (e := (s.guardWrong g).raise .guardFault)
      (by rw [State.raise_fab]; exact cleared _) (by rw [State.raise_fab]; exact cleared _)
    refine ⟨?_, enabled, carrier, ?_, fun loaded => ?_⟩
    · rw [settle_fab Fabric.fault s _ fun _ _ _ _ => rfl, State.raise_fab]
      rfl
    · rw [settle_stsField Stats.grdFaults s _ fun _ _ => rfl, State.raise_sts]
      rfl
    · rw [settle_irqStat]
      exact State.raise_bit (s := s.guardWrong g) .guardFault loaded
  · refine runs_clock _ (exec_grdFaultClear s m v) hr (s.clearFaults m v) (if_pos (by simp [loaded, h8])) (keepsBut_of_restore (by cases s; rfl)) ?_
    rw [settle_fab Fabric.fault _ _ fun _ _ _ _ => rfl]
    exact ⟨(word256_clear _ v h8).trans (if_pos rfl), fun k hk other => (word256_clear _ v hk).trans (if_neg other)⟩
  · obtain ⟨p, q⟩ := x
    cases p with
    | none =>
      cases q with
      | none =>
        refine runs_clock _ (exec_grdPermitWrite s m none none) hr s (if_pos ⟨hm, h8⟩) (.refl _ s) ?_
        rw [settle_fab Fabric.permit _ _ fun _ _ _ _ => rfl]
        exact ⟨rfl, fun _ _ _ => rfl⟩
      | some q => exact runs_permit hr hm h8 rfl
    | some p =>
      cases q with
      | none => exact runs_permit hr hm h8 rfl
      | some q => exact runs_permit hr hm h8 rfl
  · exact runs_clock _ (exec_grdPermitWrite s m (some v) none) hr (s.reject .pcie) (if_neg fun h => hm h.1) s.reject_host_keeps (settle_reject_rejects ..)

end Sys2Proof.Machine
end

section
/-! PROOF. FABRIC_TICK: the count of ticks, and the two-tick rule of the guards (R25, R152, R157, R158). -/

namespace Sys2Proof.Machine

/-- The bits that the entries of a list set, beside those of the vector they are put into. -/
theorem getLsbD_foldl_setBit (c : GuardEntry → Bool) (l : List GuardEntry) (v : BitVec 256) (i : Nat) :
    (l.foldl (fun v g => if c g then setBit v g.guard true else v) v).getLsbD i = true
      ↔ v.getLsbD i = true ∨ ∃ g ∈ l, c g = true ∧ g.guard = i ∧ i < 256 := by
  induction l generalizing v with
  | nil => simp
  | cons g l ih =>
    rw [List.foldl_cons, ih]
    by_cases h : c g = true
    · rw [if_pos h, getLsbD_setBit]
      grind
    · rw [if_neg h]
      grind

theorem getLsbD_guardsOn {f : Fabric} {out : BitVec 1024} {i : Nat} :
    (guardsOn f out).getLsbD i = true ↔ ∃ g ∈ f.guards, guardOn f out g = true ∧ g.guard = i ∧ i < 256 := by
  rw [guardsOn, getLsbD_foldl_setBit]
  simp

theorem getLsbD_sourcesTrue {f : Fabric} {out : BitVec 1024} {i : Nat} :
    (sourcesTrue f out).getLsbD i = true ↔ ∃ g ∈ f.guards, out.getLsbD g.source = true ∧ g.guard = i ∧ i < 256 := by
  rw [sourcesTrue, getLsbD_foldl_setBit (fun g => out.getLsbD g.source)]
  simp

/-! ## The tick -/

/-- TICK_NOW one further, a multiple of 10 an epoch boundary (R25). -/
def State.tickOn (s : State) : State := { s with
  tick := s.tick + 1
  sch := { s.sch with epochDue := s.sch.epochDue || (s.tick + 1).toNat % 10 == 0 } }

theorem State.tickOn_keeps (s : State) : KeepsBut [.tick, .sch] s s.tickOn := keepsBut_of_restore (by cases s; rfl)

/-- A tick in which a descriptor waits and no host context is free is counted (R24). -/
def State.tickCounted (s : State) : State :=
  let waiting := s.tickOn.que.any fun e => decide (e.2.buf ≠ []) && s.tickOn.queueClass e.1 != 6
  if waiting && decide (3584 ≤ s.tickOn.sch.ops.length + (s.tickOn.sch.held.filter (·.host)).length) then
      { s.tickOn with sts := { s.tickOn.sts with
          ctxFull := if s.tickOn.sts.ctxFull.toNat + 1000 < 2 ^ 64 then s.tickOn.sts.ctxFull + 1000
            else BitVec.allOnes 64 } }
    else s.tickOn

theorem State.fabricTick_eq (s : State) :
    s.fabricTick = if s.tickCounted.mode = .service then s.tickCounted.evalTick else s.tickCounted := rfl

/-- What the count of a tick changes beside the tick are the statistics. -/
theorem State.tickCounted_rest (s : State) : { s.tickCounted with sts := s.sts } = s.tickOn := by
  unfold tickCounted
  dsimp only
  split <;> rfl

theorem State.tickCounted_keeps (s : State) : KeepsBut [.tick, .sch, .sts] s s.tickCounted :=
  s.tickOn_keeps.within.also (KeepsBut.ite (fun _ => s.tickOn.withSts_keeps _ rfl) fun _ => .refl [.sts] _)

theorem State.tickCounted_tick (s : State) : s.tickCounted.tick = s.tick + 1 := (congrArg State.tick s.tickCounted_rest :)
theorem State.tickCounted_sch (s : State) :
    s.tickCounted.sch = { s.sch with epochDue := s.sch.epochDue || (s.tick + 1).toNat % 10 == 0 } :=
  (congrArg State.sch s.tickCounted_rest :)
theorem State.tickCounted_mode (s : State) : s.tickCounted.mode = s.mode := (congrArg State.mode s.tickCounted_rest :)
theorem State.tickCounted_vig (s : State) : s.tickCounted.vig = s.vig := (congrArg State.vig s.tickCounted_rest :)
theorem State.tickCounted_fab (s : State) : s.tickCounted.fab = s.fab := (congrArg State.fab s.tickCounted_rest :)
theorem State.tickCounted_rcp (s : State) : s.tickCounted.rcp = s.rcp := (congrArg State.rcp s.tickCounted_rest :)

/-- What an evaluation leaves of the fabric, for a statement about its guards: the outputs of its cells are free. -/
structure Evaluated (s t : State) : Prop where
  rest : { t with fab := s.fab } = s
  ticks : t.fab.ticks = s.fab.ticks + 1
  fresh : t.fab.fresh = false
  enabled : t.fab.enabled = if s.vig.force then 0 else guardsOn s.fab t.fab.out
  prevTrue : t.fab.prevTrue = sourcesTrue s.fab t.fab.out

/-- Without a netlist that takes over, a tick evaluates the one in force. -/
theorem State.evalTick_evaluated {s : State} (h : s.fab.newNet = none) : Evaluated s s.evalTick := by
  have same : s.swapNetlist = s := by unfold swapNetlist; rw [h]
  unfold evalTick
  rw [same]
  exact ⟨rfl, rfl, rfl, rfl, rfl⟩

theorem Evaluated.keeps {s t : State} (h : Evaluated s t) : KeepsBut [.fabric, .guards] s t :=
  keepsBut_of_restore (by
    have := h.rest
    cases s
    cases t
    exact this)

theorem State.activateGo_none {s : State} (h : s.rcp.activating = none) : s.activateGo = s := by
  unfold activateGo
  rw [h]

/-- A guard that the evaluation enables: no force, its source true now and on the tick before, its fault bit 0 (R157, R158). -/
theorem Evaluated.enabled_only {s t : State} (h : Evaluated s t) {i : Nat} (on : t.fab.enabled.getLsbD i = true) :
    s.vig.force = false ∧ ∃ g ∈ s.fab.guards, g.guard = i ∧ t.fab.out.getLsbD g.source = true ∧ s.fab.fault.getLsbD i = false
      ∧ (s.fab.prevTrue.getLsbD i = true ∨ s.fab.fresh = true ∧ s.fab.enabled.getLsbD i = true) := by
  rw [h.enabled] at on
  split at on
  · exact absurd on (by simp)
  · rename_i force
    obtain ⟨g, mem, isOn, rfl, -⟩ := getLsbD_guardsOn.1 on
    simp only [guardOn, Bool.and_eq_true, Bool.or_eq_true, Bool.not_eq_true'] at isOn
    exact ⟨Bool.not_eq_true _ ▸ force, g, mem, rfl, isOn.1.1, isOn.1.2, isOn.2⟩

/-- The other way round: the two-tick rule enables the guard. -/
theorem Evaluated.enabled_of {s t : State} (h : Evaluated s t) {g : GuardEntry} (mem : g ∈ s.fab.guards)
    (inside : g.guard < 256) (force : s.vig.force = false) (now : t.fab.out.getLsbD g.source = true)
    (fault : s.fab.fault.getLsbD g.guard = false) (before : s.fab.prevTrue.getLsbD g.guard = true) :
    t.fab.enabled.getLsbD g.guard = true := by
  rw [h.enabled, force]
  exact getLsbD_guardsOn.2 ⟨g, mem, by simp [guardOn, now, fault, before], rfl, inside⟩

theorem exec_fabricTick (s : State) : exec .fabricTick s = onClock s fun s => s.fabricTick.activateGo := rfl

/-- Outside SERVICE, or with what the evaluation leaves there, a reload that is not under way does nothing. -/
theorem State.fabricTick_then {s e : State} (he : s.fabricTick = e) (idle : e.rcp.activating = none) :
    s.fabricTick.activateGo = e := by
  subst he
  exact activateGo_none idle

/-- Settles O45: the tick is counted in every mode, and in SERVICE each guard follows its source over two ticks. -/
theorem tickAndTwoTickRule : Obligations.TickAndTwoTickRule := by
  unfold Obligations.TickAndTwoTickRule
  refine ⟨fun s hr hm idle => ?_, fun s hr hm idle calm => ?_⟩
  · have tick : s.fabricTick = s.tickCounted := (State.fabricTick_eq s).trans (if_neg (by rwa [State.tickCounted_mode]))
    refine runs_clock _ (exec_fabricTick s) hr s.tickCounted (State.fabricTick_then tick (by rwa [State.tickCounted_rcp]))
      s.tickCounted_keeps.within ?_
    rw [settle_tick, settle_sch]
    exact ⟨s.tickCounted_tick, s.tickCounted_sch⟩
  · obtain ⟨e, he⟩ : ∃ e, e = s.tickCounted.evalTick := ⟨_, rfl⟩
    have ev : Evaluated s.tickCounted e := he ▸ State.evalTick_evaluated (by rwa [State.tickCounted_fab])
    have tick : s.fabricTick = e :=
      (State.fabricTick_eq s).trans ((if_pos (by rwa [State.tickCounted_mode])).trans he.symm)
    have rcp : e.rcp = s.rcp := ((congrArg State.rcp ev.rest :)).trans s.tickCounted_rcp
    refine runs_clock _ (exec_fabricTick s) hr e (State.fabricTick_then tick (by rwa [rcp]))
      (s.tickCounted_keeps.within.also ev.keeps) ?_
    have now : e.tick = s.tick + 1 := ((congrArg State.tick ev.rest :)).trans s.tickCounted_tick
    have sch := ((congrArg State.sch ev.rest :)).trans s.tickCounted_sch
    have mode : e.mode = .service := ((congrArg State.mode ev.rest :)).trans (s.tickCounted_mode.trans hm)
    have vig : e.vig = s.vig := ((congrArg State.vig ev.rest :)).trans s.tickCounted_vig
    have life : e.life = s.life := ((congrArg State.life ev.rest :)).trans (congrArg State.life s.tickCounted_rest :)
    have shows {α : Type} (f : Fabric → α) (hf : ∀ (x : Fabric) a b c, f { x with enabled := a, carrier := b, enabledAt := c } = f x) :
        f (settle s e).fab = f e.fab := settle_fab f s e hf
    rw [settle_tick, settle_sch, shows Fabric.ticks fun _ _ _ _ => rfl, shows Fabric.fresh fun _ _ _ _ => rfl,
      shows Fabric.out fun _ _ _ _ => rfl, shows Fabric.prevTrue fun _ _ _ _ => rfl]
    have was : s.tickCounted.fab = s.fab := s.tickCounted_fab
    have forced : s.tickCounted.vig = s.vig := s.tickCounted_vig
    refine ⟨now, sch, ev.ticks.trans (by rw [was]), ev.fresh, fun i on => ?_, fun g mem inside force retire source fault before => ?_,
      fun g mem inside source => ?_⟩
    · have enabled : e.fab.enabled.getLsbD i = true := by
        rcases settle_fab_cases s e with h | h
        · rwa [← h]
        · rw [h.1] at on
          exact absurd on (by simp)
      have only := ev.enabled_only enabled
      rwa [was, forced] at only
    · rw [settle_fab_live ⟨mode, vig ▸ force, life ▸ retire⟩]
      exact ev.enabled_of (was ▸ mem) inside (forced ▸ force) source (was ▸ fault) (was ▸ before)
    · rw [ev.prevTrue, was]
      exact getLsbD_sourcesTrue.2 ⟨g, mem, source, rfl, inside⟩

end Sys2Proof.Machine
end

section
/-! PROOF. The record window, what a scrub finds, the link, the MSI-X masks and the test access port (R51, R352–R355, R451,
R453, R454, R458, R477). -/

namespace Sys2Proof.Machine

/-! ## Parts of the state -/

theorem State.withLinks_keeps (s : State) (x : Links) : KeepsBut [.links, .irq] s { s with links := x } :=
  fun p hp => by
    have same := KeepsBut.refl [] s p List.not_mem_nil
    cases p with
    | links | irq => exact absurd (by decide) hp
    | _ => exact same

/-- Links whose pending messages are the same. -/
theorem State.withLinks_keeps_pba (s : State) (x : Links) (same : x.pba = s.links.pba) :
    KeepsBut [.links] s { s with links := x } := by
  intro p hp
  have refl := KeepsBut.refl [] s p List.not_mem_nil
  cases p with
  | links => exact absurd (by decide) hp
  | irq => exact ⟨rfl, same, rfl⟩
  | _ => exact refl

theorem State.withLdr_keeps (s : State) (x : Larder) : KeepsBut [.ldr] s { s with ldr := x } :=
  keepsBut_of_restore (by cases s; rfl)

/-- A command that raises no condition leaves the links as it made them. -/
theorem settle_links_calm {old e : State} (h : e.irqStat = old.irqStat) : (settle old e).links = e.links :=
  ((settle_settled old e).calm h).1

/-! ## The window (R352–R354) -/

/-- Pages that are cached are read where they are. -/
theorem State.bypass_cached {s : State} {pages : List Nat} {chk : PageCheck} (h : ∀ g ∈ pages, s.cached g = true) :
    s.bypass pages chk = (s, true) := by
  unfold bypass
  induction pages with
  | nil => rfl
  | cons g pages ih =>
    rw [List.foldl_cons, if_pos (h g (List.mem_cons_self ..))]
    exact ih fun x hx => h x (List.mem_cons_of_mem _ hx)

/-- A refused access in the error record (R354). -/
def Larder.refused (l : Larder) (off cause : Nat) (write : Bool) : Larder :=
  if l.errValid then { l with cDrops := satInc l.cDrops, errMore := true }
  else { l with
    cDrops := satInc l.cDrops, errAddr := BitVec.ofNat 64 off, errCause := cause, errWrite := write, errValid := true }

theorem State.refuseWindow_eq (s : State) (off cause : Nat) (write : Bool) :
    s.refuseWindow off cause write
      = { s.emit (.aer aerAbort off) with ldr := s.ldr.refused off cause write } := rfl

theorem State.refuseWindow_keeps (s : State) (off cause : Nat) (write : Bool) :
    KeepsBut [.out, .ldr] s (s.refuseWindow off cause write) := by
  rw [refuseWindow_eq]
  exact (s.emit_keeps _).within.also (State.withLdr_keeps _ _)

theorem State.refuseWindow_ldr (s : State) (off cause : Nat) (write : Bool) :
    (s.refuseWindow off cause write).ldr = s.ldr.refused off cause write := by
  rw [refuseWindow_eq]

theorem State.aer_mem_refuseWindow (s : State) (off cause : Nat) (write : Bool) :
    .aer aerAbort off ∈ (s.refuseWindow off cause write).out := by
  rw [refuseWindow_eq]
  simp

/-- A fold whose every step leaves the state as it is. -/
theorem foldl_stays {α : Type} {f : State → α → State} {s : State} {l : List α} (h : ∀ a ∈ l, f s a = s) : l.foldl f s = s := by
  induction l with
  | nil => rfl
  | cons a l ih =>
    rw [List.foldl_cons, h a (List.mem_cons_self ..)]
    exact ih fun b hb => h b (List.mem_cons_of_mem _ hb)

theorem State.orphan_clear {s : State} {n : Nat} (h : (s.record n).state = 0 → s.counterClear n = true) : s.orphan n = s := by
  unfold orphan
  exact if_neg fun ⟨free, _, counts⟩ => by simp [h free] at counts

/-- The cache once a page of it has been referenced. -/
def State.referenced (s : State) (page : Nat) : State := { s with ldr := { s.ldr with
  frames := s.ldr.frames.map fun x => if x.page = page then { x with ref := true } else x } }

/-- A page in the cache is referenced; with every FREE record's counter clear no record of it becomes ORPHAN. -/
theorem State.install_cached {s : State} {page : Nat} (cached : s.cached page = true)
    (clear : ∀ k < 16, (s.record (16 * page + k)).state = 0 → s.counterClear (16 * page + k) = true) :
    s.install page = s.referenced page := by
  unfold install
  simp only [if_pos cached]
  split
  · exact foldl_stays (s := s.referenced page) fun k hk => orphan_clear (clear k (List.mem_range.1 hk))
  · rfl

theorem State.referenced_cached (s : State) (page : Nat) : (s.referenced page).cached page = s.cached page := by
  unfold cached referenced
  rw [List.any_map]
  congr 1
  funext x
  simp only [Function.comp_apply]
  split <;> rfl

/-- A page whose content changes shows in the Larder's tables of pages, not in its records. -/
theorem State.touchPage_ldr (s : State) (page : Nat) :
    ∃ x : Larder, s.touchPage page = { s with ldr := x } ∧ x.records = s.ldr.records := by
  unfold touchPage
  split
  · exact ⟨s.ldr, rfl, rfl⟩
  · obtain ⟨y, hy, records⟩ : ∃ y : Larder, (if s.ldr.dirty.any (·.1 == page) then s
        else { s with ldr := { s.ldr with dirty := s.ldr.dirty ++ [(page, s.tick)] } }) = { s with ldr := y }
          ∧ y.records = s.ldr.records := by
      split
      · exact ⟨s.ldr, rfl, rfl⟩
      · exact ⟨_, rfl, rfl⟩
    dsimp only
    rw [hy]
    split
    · exact ⟨_, rfl, records⟩
    · exact ⟨_, rfl, records⟩

/-- A record is changed, and no other. -/
theorem State.record_putRecord (s : State) (n m : Nat) (r : Record) :
    (s.putRecord n r).record m = if m = n then r else s.record m := by
  obtain ⟨x, hx, records⟩ := State.touchPage_ldr
    { s with ldr := { s.ldr with records := tabSet recordFree s.ldr.records n r } } (recordPage n)
  unfold putRecord record
  rw [hx]
  show tabGet recordFree x.records m = _
  rw [records]
  exact tabGet_tabSet ..

theorem State.putRecord_keeps (s : State) (n : Nat) (r : Record) : KeepsBut [.ldr] s (s.putRecord n r) := by
  obtain ⟨x, hx, -⟩ := State.touchPage_ldr
    { s with ldr := { s.ldr with records := tabSet recordFree s.ldr.records n r } } (recordPage n)
  unfold putRecord
  rw [hx]
  exact s.withLdr_keeps x

@[simp] theorem record_settle (old e : State) (n : Nat) : (settle old e).record n = e.record n := by
  unfold State.record
  rw [settle_ldr]

/-- A write of LABEL and USER of a record whose page is cached and that is not locked. -/
theorem State.windowWrite_made {s : State} {off : Nat} {data : Bytes} {chk : PageCheck} (hm : s.mode = .service)
    (isOpen : s.ldr.isOpen = true) (may : ∀ i < data.length, s.writable (off + i) = true)
    (width : data.length = 4 ∨ data.length = 8) (aligned : off % data.length = 0)
    (cached : s.cached (recordPage (off / 256)) = true) (unlocked : s.ldr.locked = []) (served : s.ldr.stalled = [])
    (clear : ∀ k < 16, (s.record (16 * recordPage (off / 256) + k)).state = 0 →
      s.counterClear (16 * recordPage (off / 256) + k) = true) :
    s.windowWrite off data chk = (s.referenced (recordPage (off / 256))).writeRecord (off / 256) (off % 256) data := by
  have first : s.writable off = true := may 0 (by omega)
  have all : ((List.range data.length).any fun i => !s.writable (off + i)) = false := by
    simpa using may
  have whole : ((data.length == 4 || data.length == 8) && off % data.length == 0) = true := by
    simpa [aligned] using width
  unfold windowWrite
  simp only [hm, isOpen, first, all, whole, served, cached, install_cached cached clear]
  simp [postedWrite, referenced, unlocked]

/-! ## The links -/

theorem satAdd_zero (w : Word) : satAdd w 0 = w := by
  rw [satAdd, if_pos (by have := w.isLt; omega)]
  exact BitVec.add_zero w

/-- What a fetch or a scrub counts of the DDR4 errors (R458). -/
def Links.errorsCounted (x : Links) (ce ue : Nat) (a : BitVec 64) : Links :=
  { x with ddrCe := satAdd x.ddrCe ce, ddrUe := satAdd x.ddrUe ue, ddrErrAddr := a }

theorem State.ddrErrors_links (s : State) (ce : Nat) {ue : Nat} (a : BitVec 64) (h : ue ≠ 0) :
    (s.ddrErrors ce ue a).links = s.links.errorsCounted ce ue a := by
  unfold ddrErrors
  by_cases none : ce = 0
  · subst ce
    simp only [if_pos, if_neg h]
    simp [emit, Links.errorsCounted, satAdd_zero]
  · simp only [if_neg none, if_neg h]
    rfl

/-- The corrected errors alone. -/
def State.ddrCorrected (s : State) (ce : Nat) : State :=
  if ce = 0 then s else
    ({ s with links := { s.links with ddrCe := satAdd s.links.ddrCe ce } }).emit (.aer aerCorrected 0)

theorem State.ddrErrors_keeps (s : State) (ce ue : Nat) (a : BitVec 64) : KeepsBut [.links, .out] s (s.ddrErrors ce ue a) := by
  have counted (t : State) (c : Prop) [Decidable c] (x : Links) (o : Output) (same : x.pba = t.links.pba) :
      KeepsBut [.links, .out] t (if c then t else ({ t with links := x }).emit o) :=
    KeepsBut.ite (fun _ => .refl _ t) fun _ => (t.withLinks_keeps_pba x same).within.also (State.emit_keeps _ o)
  have first : KeepsBut [.links, .out] s (s.ddrCorrected ce) := counted s _ _ _ rfl
  exact first.trans (counted (s.ddrCorrected ce) _ _ _ rfl)

theorem State.masterChange_off {s : State} (d3 : Bool) (up : s.links.linkUp = true) (calm : s.links.pba = 0) :
    s.masterChange false d3 = { s with links := { s.links with busMaster := false, d3hot := d3 } } := by
  have stopped : ({ s with links := { s.links with busMaster := false, d3hot := d3 } } : State).flushHeld
      = { s with links := { s.links with busMaster := false, d3hot := d3 } } := by
    simp [flushHeld, canMaster]
  have none : onesOf s.links.pba = [] := by
    rw [calm]
    decide +kernel
  rw [masterChange, if_pos up, stopped, releaseAll]
  simp [none]

/-- A message that leaves shows in its pending bit. -/
def State.messageSent (s : State) (v : Nat) : State :=
  ({ s with links := { s.links with pba := setBit s.links.pba v false } }).emit (.msix v)

theorem State.messageSent_keeps (s : State) (v : Nat) : KeepsBut [.links, .irq, .out] s (s.messageSent v) :=
  (s.withLinks_keeps _).within.also (State.emit_keeps _ _)

theorem State.release_sends {s : State} {v : Nat} (pending : s.links.pba.getLsbD v = true)
    (unmasked : s.vectorMasked v = false) (master : s.canMaster = true) : s.release v = s.message v := by
  simp [release, pending, unmasked, master]

/-- A queue's message leaves. -/
theorem State.message_queue (s : State) {v : Nat} (h : v ≠ 1024) :
    s.message v = s.messageSent v := by
  unfold message
  exact if_neg h

/-- A vector whose own mask, an octet of the MSI-X table, is set to 0. -/
def State.maskCleared (s : State) (v : Nat) : State :=
  { s with links := { s.links with msixTable := tabSet 0 s.links.msixTable (16 * v + 12) 0 } }

theorem State.maskCleared_keeps (s : State) (v : Nat) : KeepsBut [.links] s (s.maskCleared v) := s.withLinks_keeps_pba _ rfl

/-- A message whose own mask bit is cleared leaves (R454). -/
theorem State.unmask_sends {s : State} {v : Nat} (loaded : s.stepDone 1 = true) (hv : v < 1024)
    (pending : s.links.pba.getLsbD v = true) (whole : s.links.fnMask = false) (master : s.canMaster = true)
    (masked : tabGet 0 s.links.msixTable (16 * v + 12) = 1) : s.unmask (some v) = (s.maskCleared v).message v := by
  have cleared : (1 : Byte) &&& 0xFE = 0 := by decide
  have unmasked : (s.maskCleared v).vectorMasked v = false := by
    simp [vectorMasked, maskCleared, whole]
  rw [unmask, if_pos ⟨by omega, loaded⟩]
  simp only [masked, cleared]
  exact release_sends (s := s.maskCleared v) pending unmasked master

/-! ## The test access port (R477) -/

theorem State.tapLoad_passive {s : State} {i : TapInstr} (h : i ∈ [.bypass, .idcode, .sample]) :
    s.tapLoad i = { s with links := { s.links with tap := i } } := by
  have passive : tapPassive i = true ∧ i ≠ .other := by
    simp only [List.mem_cons, List.not_mem_nil, or_false] at h
    rcases h with rfl | rfl | rfl <;> exact ⟨rfl, by decide⟩
  simp [tapLoad, tapSelects, passive]

theorem tapActive {i : TapInstr} (h : i ∈ [TapInstr.extest, .clamp, .highz, .vendor]) : tapPassive i = false ∧ i ≠ .other := by
  simp only [List.mem_cons, List.not_mem_nil, or_false] at h
  rcases h with rfl | rfl | rfl | rfl <;> exact ⟨rfl, by decide⟩

/-- An instruction that could drive the guards asserts the guard-force line. -/
def State.tapForced (s : State) (i : TapInstr) : State := { s with
  links := { s.links with tap := i }
  vig := { s.vig with force := true, forceTap := true } }

theorem State.tapForced_keeps (s : State) (i : TapInstr) : KeepsBut [.links, .vig, .guards] s (s.tapForced i) :=
  keepsBut_of_restore (by cases s; rfl)

theorem State.tapLoad_active {s : State} {i : TapInstr} (h : i ∈ [TapInstr.extest, .clamp, .highz, .vendor])
    (life : s.otp.stateOf < 3) : s.tapLoad i = s.tapForced i := by
  obtain ⟨active, known⟩ := tapActive h
  simp [tapLoad, tapSelects, active, known, Nat.not_le.2 life, tapForced]

theorem State.tapLoad_refused {s : State} {i : TapInstr} (h : i ∈ [TapInstr.extest, .clamp, .highz, .vendor])
    (life : 3 ≤ s.otp.stateOf) : s.tapLoad i = { s with links := { s.links with tap := .bypass } } := by
  obtain ⟨active, -⟩ := tapActive h
  have bypass : s.tapSelects i = .bypass := if_pos (.inr ⟨life, active⟩)
  simp [tapLoad, bypass, tapPassive]

/-- Settles O55: a read and a write of the window by its checks, and each link command by its own state. -/
theorem windowAndLinks : Obligations.WindowAndLinks := by
  unfold Obligations.WindowAndLinks
  refine ⟨fun s off len chk hr isOpen all first cached => ?_, fun s off len chk hr closed => ?_,
    fun s off len chk hr isOpen first => ?_, fun s off data chk hr hm isOpen may width aligned cached unlocked served clear => ?_,
    fun s off data chk hr hm noError => ?_, fun s hr done => ?_, fun s ce ue a hr trained errors => ?_,
    fun s hr trained => ?_, fun s speed width rev hr loaded high down low top lanes => ?_, fun s hr hm up => ?_,
    fun s d3 hr hq up held calm master => ?_, fun s v hr loaded hv pending whole master masked => ?_,
    fun s i hr passive => ?_, fun s i hr active life => ?_, fun s i hr active life => ?_⟩
  · refine runs_clock (fun s => s.windowRead off len chk) rfl hr
      (s.emit (.windowData ((List.range len).map fun i => s.windowByte (off + i)))) ?_ (s.emit_keeps _)
      (mem_settle_out (by simp))
    have none : ((List.range len).any fun i => !s.readable (off + i)) = false := by simpa using all
    simp [State.windowRead, isOpen, first, none, State.bypass_cached cached]
  · refine runs_clock (fun s => s.windowRead off len chk) rfl hr (s.emit (.windowData (List.replicate len 0))) ?_
      (s.emit_keeps _) (mem_settle_out (by simp))
    simp [State.windowRead, closed]
  · refine runs_clock (fun s => s.windowRead off len chk) rfl hr ((s.refuseWindow off 1 false).emit .completerAbort) ?_
      ((s.refuseWindow_keeps off 1 false).also (State.emit_keeps _ _)) ⟨mem_settle_out (by simp), ?_, ?_⟩
    · simp [State.windowRead, isOpen, first]
    · exact mem_settle_out (List.mem_append_left _ (s.aer_mem_refuseWindow off 1 false))
    · rw [settle_ldr, State.emit_ldr, State.refuseWindow_ldr]
      rfl
  · refine runs_clock (fun s => s.windowWrite off data chk) rfl hr _
      (State.windowWrite_made hm isOpen may width aligned cached unlocked served clear)
      ((s.withLdr_keeps _).trans (State.putRecord_keeps _ _ _)) ⟨?_, fun m other => ?_⟩
    · rw [record_settle]
      exact (State.record_putRecord ..).trans (if_pos rfl)
    · rw [record_settle]
      exact (State.record_putRecord ..).trans (if_neg other)
  · refine runs_clock (fun s => s.windowWrite off data chk) rfl hr (s.refuseWindow off 4 true) (if_pos (.inl hm))
      (s.refuseWindow_keeps off 4 true) ⟨?_, mem_settle_out (s.aer_mem_refuseWindow off 4 true)⟩
    rw [settle_ldr, State.refuseWindow_ldr, Larder.refused, if_neg (by simp [noError])]
  · refine runs_clock (fun s => s.requestFlush .pcie) rfl hr
      { s with ldr := { s.ldr with flush := true, flushNext := s.ldr.flushNext || s.flushRuns } }
      (if_pos ⟨by simp [done], .inl rfl⟩) (s.withLdr_keeps _) ?_
    rw [settle_ldr]
  · refine runs_clock (fun s => if s.links.trained then s.ddrErrors ce ue a else s) rfl hr (s.ddrErrors ce ue a)
      (if_pos trained) (s.ddrErrors_keeps ce ue a) ?_
    have counted := s.ddrErrors_links ce a errors
    rw [settle_links Links.ddrCe _ _ fun _ _ => rfl, settle_links Links.ddrUe _ _ fun _ _ => rfl,
      settle_links Links.ddrErrAddr _ _ fun _ _ => rfl, counted]
    exact ⟨rfl, rfl, rfl⟩
  · refine runs_clock (fun s => if s.links.trained then { s with links := { s.links with zqCount := s.links.zqCount + 1 } }
      else s) rfl hr { s with links := { s.links with zqCount := s.links.zqCount + 1 } } (if_pos trained)
      (s.withLinks_keeps_pba _ rfl) (settle_links Links.zqCount _ _ fun _ _ => rfl)
  · refine runs_clock (fun s => s.linkRises speed width rev) rfl hr { s with links := { s.links with
      linkUp := true, speed := speed, width := width, reversed := rev } } (if_pos ?_) (s.withLinks_keeps_pba _ rfl) ?_
    · simp only [List.mem_cons, List.not_mem_nil, or_false] at lanes
      simpa [loaded, high, down, low, top, or_assoc] using lanes
    · rw [settle_links Links.linkUp _ _ fun _ _ => rfl, settle_links Links.speed _ _ fun _ _ => rfl,
        settle_links Links.width _ _ fun _ _ => rfl, settle_links Links.reversed _ _ fun _ _ => rfl]
      exact ⟨rfl, rfl, rfl, rfl⟩
  · refine runs_clock State.hotReset rfl hr (s.linkDown.warmPrelude perstCause)
      ((if_pos up).trans (State.linkReset_service hr hm)) s.linkReset_service_keeps ?_
    obtain ⟨mode, prelude, cause, off⟩ := settle_warmPrelude (old := s) (s := s.linkDown) perstCause
    refine ⟨mode, prelude, cause, ?_, ?_, off⟩
    · exact (settle_warmPrelude_links Links.linkUp s s.linkDown perstCause fun _ _ => rfl)
    · exact (settle_warmPrelude_links Links.busMaster s s.linkDown perstCause fun _ _ => rfl)
  · refine runs_react (fun s => s.masterChange false d3) rfl hr _ (State.masterChange_off d3 up calm) (quiet_congr hq)
      (s.withLinks_keeps_pba _ rfl) ?_
    have links := settle_links_calm (old := s)
      (e := { s with links := { s.links with busMaster := false, d3hot := d3 } }) rfl
    exact ⟨links, by simp [State.canMaster, links]⟩
  · refine runs_clock (fun s => s.unmask (some v)) rfl hr _
      ((State.unmask_sends loaded hv pending whole master masked).trans (State.message_queue _ (by omega)))
      ((s.maskCleared_keeps v).within.also (State.messageSent_keeps _ v))
      ⟨mem_settle_out (List.mem_append_right _ (List.mem_singleton_self _)), ?_, ?_⟩
    · rw [settle_links_calm (old := s) (e := (s.maskCleared v).messageSent v) rfl]
      rfl
    · rw [settle_links_calm (old := s) (e := (s.maskCleared v).messageSent v) rfl]
      exact tabGet_tabSet_same (0 : Byte) s.links.msixTable (16 * v + 12) 0
  · exact runs_clock (fun s => s.tapLoad i) rfl hr _ (State.tapLoad_passive passive) (s.withLinks_keeps_pba _ rfl)
      (settle_links Links.tap _ _ fun _ _ => rfl)
  · refine runs_clock (fun s => s.tapLoad i) rfl hr (s.tapForced i) (State.tapLoad_active active life)
      (s.tapForced_keeps i) ⟨settle_links Links.tap _ _ fun _ _ => rfl, ?_, ?_⟩
    · rw [settle_vig]
      rfl
    · have guards := (settle_settled s (s.tapForced i)).guards
      rw [if_neg fun ⟨_, free, _⟩ => Bool.noConfusion (free : true = false)] at guards
      exact guards.1
  · exact runs_clock (fun s => s.tapLoad i) rfl hr _ (State.tapLoad_refused active life) (s.withLinks_keeps_pba _ rfl)
      (settle_links Links.tap _ _ fun _ _ => rfl)

end Sys2Proof.Machine
end

section
/-! PROOF. The Glaze port's events: dropped frames, the end of a session, the front end, the hush and the ambient light
(R424, R430, R431, R436, R437, R444). -/

namespace Sys2Proof.Machine

theorem State.withGlz_keeps (s : State) (x : Glaze) : KeepsBut [.glz] s { s with glz := x } :=
  keepsBut_of_restore (by cases s; rfl)

/-- A command that does nothing but change the Glaze port. -/
theorem runs_glz {c : Instr} {s : State} (f : State → State) (x : Glaze) (hx : exec c s = onClock s f)
    (hr : s.running = true) (hf : f s = { s with glz := x }) : Runs c s [.glz] fun t => t.glz = x :=
  runs_clock f hx hr _ hf (s.withGlz_keeps x) (settle_glz ..)

/-- The port once its session has ended, with nothing that waits or is on its way (R436, R437). -/
def Glaze.ended (g : Glaze) : Glaze :=
  { g with session := none, close := false, stalled := none, rate := 0, state := 1 }

theorem State.glzEnd_idle {s : State} (on : s.glz.state ≠ 0) (commit : s.glz.commit = none) (hand : s.glz.hand = none)
    (sending : s.glz.sending = false) (waiting : s.glz.waiting = none) :
    s.glzEnd = { s with glz := s.glz.ended } := by
  simp [glzEnd, glzFix, sending, waiting, hand, commit, on, Glaze.ended]

/-- The port once a frame has reached its session layer. -/
def Glaze.heard (g : Glaze) : Glaze := { g with framesOk := satInc g.framesOk }

/-- A frame that the receiver hears inside a session, outside a COMMIT, with a wrong tag. -/
theorem State.glzOddFrame_wrong {s : State} {f : GlzFrame} {x : GlzSession} {typ : Byte} (hears : s.glzHears = true)
    (session : s.glz.session = some x) (commit : s.glz.commit = none) (served : s.glz.stalled = none)
    (tag : f.tagOk = false) : s.glzOddFrame f typ = ({ s with glz := s.glz.heard }).glzDrop x := by
  simp only [glzOddFrame, session, tag, glzRequest, hears, glzDelivered, commit, served, Glaze.heard]
  rfl

theorem State.glzHears_iff {s : State} :
    s.glzHears = true ↔ s.glz.state ≠ 0 ∧ s.glz.blind = false ∧ s.glz.sending = false := by
  simp [glzHears, and_assoc]

/-- The pulses out of spec of a received frame are counted (R430). -/
def Glaze.pulsed (g : Glaze) (bad : Nat) : Glaze := { g with badPulses := satAdd g.badPulses bad }

theorem State.glzFrameDiscard_blind {s : State} {why : GlzDiscard} (bad : Nat) (on : s.glz.state ≠ 0)
    (sending : s.glz.sending = false) (blind : why = .blind ∨ s.glz.blind = true) :
    s.glzFrameDiscard why bad
      = { s with glz := { s.glz.pulsed bad with discBlind := satInc s.glz.discBlind } } := by
  unfold glzFrameDiscard
  exact (if_neg (by simp [on, sending])).trans (if_pos blind)

theorem State.glzFrameDiscard_pulses {s : State} {why : GlzDiscard} {bad : Nat} (on : s.glz.state ≠ 0)
    (sending : s.glz.sending = false) (sees : s.glz.blind = false) (other : why ≠ .blind) (many : 4 < bad) :
    s.glzFrameDiscard why bad
      = { s with glz := { s.glz.pulsed bad with discPulses := satInc s.glz.discPulses } } := by
  unfold glzFrameDiscard
  exact (if_neg (by simp [on, sending])).trans ((if_neg (by simp [other, sees])).trans (if_pos many))

theorem State.glzFrameDiscard_wire {s : State} {bs : Bytes} {framing : Bool} {bad : Nat} (on : s.glz.state ≠ 0)
    (sending : s.glz.sending = false) (sees : s.glz.blind = false) (few : bad ≤ 4) :
    s.glzFrameDiscard (.wire bs framing) bad
      = if framing || (sirContent bs).isNone then
          { s with glz := { s.glz.pulsed bad with fcsErrors := satInc s.glz.fcsErrors } }
        else { s with glz := s.glz.pulsed bad } := by
  unfold glzFrameDiscard
  exact (if_neg (by simp [on, sending])).trans ((if_neg (by simp [sees])).trans (if_neg (by omega)))

/-- A response that the hush held back is on its way (R431). -/
def State.glzHushSent (s : State) (w : Bytes) (r : Option Nat) : State :=
  (({ s with glz := { s.glz with hushEnd := none, waiting := none, sending := true, nextRate := r } }).emit
    (.glzFrame (sirFrame w))).emit (.glzLed s.glz.rate (sirCells (sirFrame w)))

theorem State.glzHushSent_keeps (s : State) (w : Bytes) (r : Option Nat) : KeepsBut [.glz, .out] s (s.glzHushSent w r) :=
  ((s.withGlz_keeps _).within.also (State.emit_keeps _ _)).also (State.emit_keeps _ _)

/-- The ambient current above the threshold at which BLIND rises, and at or below the one at which it falls (R424). -/
def State.glzBlindRise (s : State) (ua : Nat) : State :=
  if ua ≤ 500 then s.glzAmbient ua else { s.glzAmbient ua with glz := { (s.glzAmbient ua).glz with blind := true } }

def State.glzBlindFall (s : State) (ua : Nat) : State :=
  if 550 < ua then s.glzAmbient ua else { s.glzAmbient ua with glz := { (s.glzAmbient ua).glz with blind := false } }

/-- Settles O40: each event of the port changes what its rule names, and nothing else of it. -/
theorem glazeEvents : Obligations.GlazeEvents := by
  unfold Obligations.GlazeEvents
  refine ⟨fun s f x typ hr hq hears session commit tag few => ?_,
    fun s f x typ hr hq hears session commit tag many hand waiting => ?_,
    fun s c hc hr loaded session commit on hand sending waiting => ?_, fun s hr sending => ?_,
    fun s why bad hr on sending blind => ?_, fun s why bad hr on sending sees other many => ?_,
    fun s bs framing bad hr on sending sees few wrong => ?_, fun s bs bad hr on sending sees few whole => ?_,
    fun s hr on sending sees => ?_, fun s w r hr waiting => ?_, fun s hr waiting => ?_, fun s ua hr on above => ?_,
    fun s ua hr on below => ?_⟩
  · obtain ⟨-, -, -, -, -, -, served⟩ := id hq
    refine runs_react (fun s => s.glzOddFrame f typ) rfl hr { s with glz := { s.glz.heard with
      session := some { x with drops := x.drops + 1 } } } ?_ (quiet_congr hq) (s.withGlz_keeps _) ?_
    · rw [State.glzOddFrame_wrong hears session commit served tag, State.glzDrop, if_neg (by omega)]
    · rw [settle_glz]
      rfl
  · obtain ⟨-, -, -, -, -, -, served⟩ := id hq
    obtain ⟨on, sees, sending⟩ := State.glzHears_iff.1 hears
    refine runs_react (fun s => s.glzOddFrame f typ) rfl hr { s with
      glz := ({ s.glz.heard with sessDrops := satInc s.glz.sessDrops } : Glaze).ended } ?_ (quiet_congr hq (stalled := served.symm))
      (s.withGlz_keeps _) ?_
    · rw [State.glzOddFrame_wrong hears session commit served tag, State.glzDrop, if_pos many]
      exact State.glzEnd_idle (s := { s with glz := { s.glz.heard with sessDrops := satInc s.glz.sessDrops } })
        on commit hand sending waiting
    · rw [settle_glz]
      simp only [Glaze.ended, Glaze.heard, served]
  · simp only [List.mem_cons, List.not_mem_nil, or_false] at hc
    have ends := State.glzEnd_idle on commit hand sending waiting
    rcases hc with rfl | rfl
    · exact runs_glz (fun s => if s.glz.session.isSome && s.glz.commit.isNone then s.glzEnd else s) s.glz.ended rfl hr
        ((if_pos (by simp [session, commit])).trans ends)
    · refine runs_glz (fun s => s.glzCtrlClose .pcie) s.glz.ended rfl hr ?_
      simp [State.glzCtrlClose, loaded, session, commit, ends]
  · refine runs_glz (fun s => if s.glz.sending then { s with glz := { s.glz with
        sending := false, nextRate := none, rate := match s.glz.nextRate with | none => s.glz.rate | some r => r } }
      else s) _ rfl hr ((if_pos sending).trans ?_)
    cases s.glz.nextRate <;> rfl
  · exact runs_glz (fun s => s.glzFrameDiscard why bad) _ rfl hr (State.glzFrameDiscard_blind bad on sending blind)
  · exact runs_glz (fun s => s.glzFrameDiscard why bad) _ rfl hr
      (State.glzFrameDiscard_pulses on sending sees other many)
  · refine runs_glz (fun s => s.glzFrameDiscard (.wire bs framing) bad) _ rfl hr
      ((State.glzFrameDiscard_wire on sending sees few).trans ?_)
    exact if_pos (by simpa using wrong)
  · refine runs_glz (fun s => s.glzFrameDiscard (.wire bs false) bad) _ rfl hr
      ((State.glzFrameDiscard_wire on sending sees few).trans ?_)
    exact if_neg (by simpa using whole)
  · exact runs_glz State.glzAbort _ rfl hr (if_neg (by simp [on, sending, sees]))
  · refine runs_clock State.glzHushOver rfl hr (s.glzHushSent w r) ?_ (s.glzHushSent_keeps w r)
      ⟨settle_glz .., mem_settle_out (by simp [State.glzHushSent]), mem_settle_out (by simp [State.glzHushSent])⟩
    simp only [State.glzHushOver, waiting, State.glzSend]
    rfl
  · refine runs_glz State.glzHushOver _ rfl hr ?_
    simp only [State.glzHushOver, waiting]
  · exact runs_glz (fun s => if s.glz.state = 0 then s else s.glzBlindRise ua) _ rfl hr
      ((if_neg on).trans (if_neg (by omega)))
  · exact runs_glz (fun s => if s.glz.state = 0 then s else s.glzBlindFall ua) _ rfl hr
      ((if_neg on).trans (if_neg (by omega)))

end Sys2Proof.Machine
end

section
/-! PROOF. The RCP_ commands of a write session, and what the end of each flash operation, verification or fuse leaves (R17,
R131, R133–R135). -/

namespace Sys2Proof.Machine

theorem State.withRcp_keeps (s : State) (x : Rcp) : KeepsBut [.rcp] s { s with rcp := x } :=
  keepsBut_of_restore (by cases s; rfl)

theorem State.cmdEnd_keeps (s : State) (code : Nat) : KeepsBut [.rcp] s (s.cmdEnd code) := s.withRcp_keeps _

theorem State.setSlotBytes_keeps (s : State) (k : Nat) (bs : Bytes) : KeepsBut [.flash] s (s.setSlotBytes k bs) :=
  KeepsBut.ite (fun _ => keepsBut_of_restore (by cases s; rfl)) fun _ => keepsBut_of_restore (by cases s; rfl)

theorem State.slotBytes_setSlotBytes (s : State) (k : Nat) (bs : Bytes) : (s.setSlotBytes k bs).slotBytes k = bs := by
  unfold setSlotBytes slotBytes
  split <;> simp_all

theorem State.setSlotBytes_rcp (s : State) (k : Nat) (bs : Bytes) : (s.setSlotBytes k bs).rcp = s.rcp := by
  unfold setSlotBytes
  split <;> rfl

@[simp] theorem State.slotBytes_cmdEnd (s : State) (code k : Nat) : (s.cmdEnd code).slotBytes k = s.slotBytes k := rfl

theorem settle_slotBytes (old e : State) (k : Nat) : (settle old e).slotBytes k = e.slotBytes k := by
  unfold State.slotBytes
  rw [settle_flash]

theorem settle_slotResult (old e : State) (k : Nat) : (settle old e).slotResult k = e.slotResult k := by
  unfold State.slotResult
  rw [settle_rcp]

/-- RCP_CMD takes a command of the host that owns the session, or with none. -/
theorem State.rcpCommand_taken {s : State} (f : State → State) (loaded : s.rcpLoaded = true) (idle : s.rcp.busy = none)
    (owner : s.rcpOwner .pcie = true) : s.rcpCommand .pcie f = f s := by
  simp [rcpCommand, loaded, idle, owner]

theorem State.rcpOwner_none {s : State} (r : Requester) (h : s.rcp.session = none) : s.rcpOwner r = true := by
  simp [rcpOwner, h]

theorem State.rcpOwner_some {s : State} {x : Session} (h : s.rcp.session = some x) : s.rcpOwner x.owner = true := by
  simp [rcpOwner, h]

/-- What a command of the host does that RCP_CMD takes. -/
theorem runs_rcpCommand {c : Instr} {s e : State} {ch : List Part} {post : State → Prop} (f : State → State)
    (hx : exec c s = onClock s fun s => s.rcpCommand .pcie f) (hr : s.running = true) (loaded : s.rcpLoaded = true)
    (idle : s.rcp.busy = none) (owner : s.rcpOwner .pcie = true) (he : f s = e) (hk : KeepsBut ch s e)
    (hp : post (settle s e)) : Runs c s ch post :=
  runs_clock _ hx hr e ((State.rcpCommand_taken f loaded idle owner).trans he) hk hp

theorem State.slotResult_setSlotResult {s : State} {k j : Nat} (v : Nat) (hk : k < 2) (hj : j < 2) :
    (s.setSlotResult k v).slotResult j = if j = k then v else s.slotResult j := by
  unfold setSlotResult slotResult
  grind

/-- What shows of the recipe engine beside a slot's verdict stays. -/
theorem State.setSlotResult_rest (s : State) (k v : Nat) {α : Type} (f : Rcp → α)
    (h : ∀ (x : Rcp) a b, f { x with resultA := a, resultB := b } = f x) : f (s.setSlotResult k v).rcp = f s.rcp := by
  unfold setSlotResult
  split
  · exact h s.rcp v s.rcp.resultB
  · exact h s.rcp s.rcp.resultA v

theorem State.setSlotResult_quiet {s : State} (k v : Nat) (h : s.quiet) : (s.setSlotResult k v).quiet := by
  unfold setSlotResult
  split
  · exact quiet_congr h
  · exact quiet_congr h

/-- A write session opened for the host: its slot is being erased (R133). -/
def State.rcpOpened (s : State) (k : Nat) : State :=
  (({ s with rcp := { s.rcp with session := some { slot := k, owner := .pcie, offset := 0 } } }).setSlotResult k 0).cmdBegin
    (.erase k)

theorem State.rcpOpened_keeps (s : State) (k : Nat) : KeepsBut [.rcp] s (s.rcpOpened k) :=
  ((s.withRcp_keeps _).trans (State.setSlotResult_keeps _ k 0)).trans (State.withRcp_keeps _ _)

theorem slotNumber_lt (k : Bool) : k.toNat < 2 := by cases k <;> decide

/-- Settles O42: each command and each end of a flash operation, by the session and the work that stand. -/
theorem recipeSessions : Obligations.RecipeSessions := by
  unfold Obligations.RecipeSessions
  refine ⟨fun s k hr loaded idle none hm calm stands => ?_, fun s k hr loaded idle none hm calm falls => ?_,
    fun s x n hr loaded idle session owner calm low high room => ?_, fun s x d hr busy session => ?_,
    fun s k hr busy free => ?_, fun s x hr loaded idle session owner => ?_, fun s k hr loaded idle none may => ?_,
    fun s k v hr hq hk busy => ?_, fun s hr loaded idle none hm calm stands raises => ?_, fun s hr busy => ?_⟩
  · have serves : s.rcpOpenMode = true := by simp [State.rcpOpenMode, hm]
    refine runs_rcpCommand (fun s => s.rcpOpen .pcie k.toNat) rfl hr loaded idle (State.rcpOwner_none _ none)
      (e := s.rcpOpened k.toNat) ?_ (s.rcpOpened_keeps _) ?_
    · simp [State.rcpOpen, serves, calm, stands, State.rcpOpened]
    · rw [settle_rcp, settle_slotResult]
      refine ⟨?_, rfl, ?_⟩
      · exact State.setSlotResult_rest _ k.toNat 0 Rcp.session fun _ _ _ => rfl
      · exact (State.slotResult_setSlotResult 0 (slotNumber_lt k) (slotNumber_lt k)).trans (if_pos rfl)
  · have serves : s.rcpOpenMode = true := by simp [State.rcpOpenMode, hm]
    refine runs_rcpCommand (fun s => s.rcpOpen .pcie k.toNat) rfl hr loaded idle (State.rcpOwner_none _ none)
      (e := s.cmdEnd cmdNoFallback) ?_ (s.cmdEnd_keeps _) ?_
    · simp [State.rcpOpen, serves, calm, hm, falls]
    · rw [settle_rcp]
      exact ⟨rfl, none, rfl⟩
  · refine runs_clock (fun s => if 1 ≤ n ∧ n ≤ 4096 then s.rcpCommand .pcie fun s => s.rcpAppend n else s.reject .pcie)
      rfl hr (s.cmdBegin (.program x.slot ((List.range n).map fun i => tabGet 0 s.rcp.win i))) ?_ (s.withRcp_keeps _)
      (settle_rcp ..)
    have fits : ¬ imageMax < x.offset + n := Nat.not_lt.2 room
    refine (if_pos ⟨low, high⟩).trans ((State.rcpCommand_taken _ loaded idle (owner ▸ State.rcpOwner_some session)).trans ?_)
    simp [State.rcpAppend, session, calm, fits]
  · obtain ⟨u, hu⟩ : ∃ u, u = ({ s with rcp := { s.rcp with
        session := some { x with offset := x.offset + d.length } } } : State) := ⟨_, rfl⟩
    refine runs_clock (fun s => s.rcpFlashDone true) rfl hr
      ((u.setSlotBytes x.slot ((s.slotBytes x.slot).take x.offset ++ d)).cmdEnd cmdOk) ?_ ?_ ?_
    · simp [State.rcpFlashDone, busy, session, hu]
    · exact ((hu ▸ s.withRcp_keeps _ : KeepsBut [.rcp] s u).within.also (u.setSlotBytes_keeps _ _)).also (State.cmdEnd_keeps _ _)
    · rw [settle_slotBytes, settle_rcp, State.slotBytes_cmdEnd, State.slotBytes_setSlotBytes]
      refine ⟨rfl, ?_, rfl, rfl⟩
      show (u.setSlotBytes _ _).rcp.session = _
      rw [State.setSlotBytes_rcp, hu]
  · refine runs_clock (fun s => s.rcpFlashDone true) rfl hr ((s.setSlotBytes k []).cmdEnd cmdOk) ?_
      ((s.setSlotBytes_keeps k []).within.also (State.cmdEnd_keeps _ _)) ?_
    · simp [State.rcpFlashDone, busy, free]
    · rw [settle_slotBytes, settle_rcp, State.slotBytes_cmdEnd, State.slotBytes_setSlotBytes]
      refine ⟨rfl, ?_, rfl, rfl⟩
      show (s.setSlotBytes _ _).rcp.session = _
      rw [State.setSlotBytes_rcp]
  · refine runs_rcpCommand State.rcpClose rfl hr loaded idle (owner ▸ State.rcpOwner_some session)
      (e := { s with rcp := { s.rcp with session := Option.none, busy := some (.closing x.slot) } }) ?_ (s.withRcp_keeps _)
      (settle_rcp ..)
    simp [State.rcpClose, session, State.cmdBegin]
  · refine runs_rcpCommand (fun s => s.rcpVerify k.toNat) rfl hr loaded idle (State.rcpOwner_none _ none)
      (e := s.cmdBegin (.verifying k.toNat)) (if_pos may) (s.withRcp_keeps _) (settle_rcp ..)
  · obtain ⟨e, he⟩ : ∃ e, e = (s.setSlotResult k (s.verifySlot (s.slotBytes k) v)).cmdEnd cmdOk := ⟨_, rfl⟩
    have shows (j : Nat) (hj : j < 2) : e.slotResult j = if j = k then s.verifySlot (s.slotBytes k) v else s.slotResult j := by
      rw [he]
      exact State.slotResult_setSlotResult _ hk hj
    refine runs_react (fun s => s.rcpVerifyDone v) rfl hr e ?_ ?_ ?_ ?_
    · simp [State.rcpVerifyDone, busy, he]
    · rw [he]
      exact quiet_congr (State.setSlotResult_quiet k _ hq)
    · rw [he]
      exact (s.setSlotResult_keeps k _).trans (State.cmdEnd_keeps _ _)
    · rw [settle_slotResult, settle_slotResult, settle_rcp, shows k hk, shows (1 - k) (by omega), if_pos rfl,
        if_neg (by omega), he]
      exact ⟨rfl, rfl, rfl, rfl⟩
  · refine runs_rcpCommand State.rcpCommitFloor rfl hr loaded idle (State.rcpOwner_none _ none) (e := s.cmdBegin .floor)
      ?_ (s.withRcp_keeps _) (settle_rcp ..)
    simp [State.rcpCommitFloor, hm, calm, stands, Nat.not_le.2 raises]
  · obtain ⟨u, hu⟩ : ∃ u, u = ({ s with otp := { s.otp with rollback := s.otp.rollback + 1 } } : State) := ⟨_, rfl⟩
    refine runs_clock (fun s => s.rcpFlashDone true) rfl hr (if s.rcp.loadedFloor ≤ s.otp.rollback + 1 then u.cmdEnd cmdOk else u)
      ?_ ?_ ?_
    · simp [State.rcpFlashDone, busy, hu]
    · have blown : KeepsBut [.otp] s u := hu ▸ keepsBut_of_restore (by cases s; rfl)
      exact blown.within.also (KeepsBut.ite (fun _ => u.cmdEnd_keeps _) fun _ => .refl [.rcp] u)
    · rw [settle_otp]
      split <;> rw [hu]
      rfl

end Sys2Proof.Machine
end

section
/-! PROOF. The runs of the entropy channels (R242–R250, R258–R260): with the Proofer at rest no command of a channel goes
on beyond it. -/

namespace Sys2Proof.Machine

/-! ## The Proofer stays at rest -/

theorem State.step9Check_outside {s : State} (outside : s.mod.inStep9 = false) : s.step9Check = s := by
  unfold step9Check
  rw [outside]
  exact if_neg Bool.false_ne_true

/-- A block at rest whose units, mode record and operations have stayed and whose instances have nothing to begin. -/
theorem State.Rests.prfReact {s t : State} (h : s.Rests) (rcp : t.rcp = s.rcp) (ops : t.sch.ops = s.sch.ops)
    (inst : ∀ i < 4, (t.inst i).quiet s.reseedInt = true) : t.prfReact = t := by
  obtain ⟨gathers, -, limit, j, hj, on⟩ := h.proofer
  have int : t.reseedInt = s.reseedInt := by unfold reseedInt; rw [rcp]
  refine prfReact_quiet ⟨fun o ho => gathers o (ops ▸ ho), fun i hi => int ▸ inst i hi, int ▸ limit, j, hj, ?_⟩
  unfold unitIs unit at on ⊢
  rw [rcp]
  exact on

/-- No command's end moves a channel or an instance then. -/
theorem State.Rests.entropyReact {s t : State} (h : s.Rests) (rcp : t.rcp = s.rcp) (mod : t.mod = s.mod)
    (ops : t.sch.ops = s.sch.ops) (inst : ∀ i < 4, (t.inst i).quiet s.reseedInt = true) : t.entropyReact = t := by
  have lanes : t.shaLost = t := by
    have some := h.lanes
    unfold shaLost
    unfold unitIs unit at some ⊢
    rw [rcp, some]
    exact if_neg Bool.false_ne_true
  unfold State.entropyReact
  rw [lanes, h.prfReact rcp ops inst, step9Check_outside (mod ▸ h.outside)]

/-- The instances of a block at rest, in a state with the same Proofer. -/
theorem State.Rests.insts {s t : State} (h : s.Rests) (prf : t.prf = s.prf) : ∀ i < 4, (t.inst i).quiet s.reseedInt = true :=
  fun i hi => by unfold State.inst; rw [prf]; exact h.proofer.2.1 i hi

/-- Nor after a channel alone has changed. -/
theorem State.Rests.setChan {s : State} (h : s.Rests) (ch : Channel) (c : Chan) :
    (s.setChan ch c).entropyReact = s.setChan ch c := by
  cases ch <;> exact h.entropyReact rfl rfl rfl (h.insts rfl)

theorem State.settle_chan (old t : State) (ch : Channel) : (settle old t).chan ch = t.chan ch := by
  cases ch <;> (unfold chan; rw [settle_ent])

/-! ## Discards and failure -/

/-- What the squash of shadows leaves of the Proofer. -/
theorem State.squashPrf_inst (s : State) (p : Nat → Bool) {i : Nat} (hi : i < 4) (int : Nat) :
    ((s.squashPrf p).inst i).quiet int = (s.inst i).quiet int := by
  unfold squashPrf inst
  simp only [vecGet, hi, dif_pos, Vector.getElem_map]
  split <;> rfl

/-- A state that differs from another in the channels' blocks and the Proofer's shadows, its instances as quiet. -/
structure Discarded (s t : State) : Prop where
  keeps : KeepsBut [.ent, .prf, .spc] s t
  ops : t.sch.ops = s.sch.ops
  rcp : t.rcp = s.rcp
  mod : t.mod = s.mod
  insts : ∀ i < 4, ∀ int, (t.inst i).quiet int = (s.inst i).quiet int

theorem Discarded.trans {s t u : State} (h : Discarded s t) (k : Discarded t u) : Discarded s u :=
  ⟨h.keeps.trans k.keeps, k.ops.trans h.ops, k.rcp.trans h.rcp, k.mod.trans h.mod, 
    fun i hi int => (k.insts i hi int).trans (h.insts i hi int)⟩

theorem State.setChan_discarded (s : State) (ch : Channel) (c : Chan) : Discarded s (s.setChan ch c) := by
  have keeps := s.setChan_keeps ch c
  cases ch <;> exact ⟨keeps.within, rfl, rfl, rfl, fun _ _ _ => rfl⟩

theorem State.squashPrf_discarded (s : State) (p : Nat → Bool) : Discarded s (s.squashPrf p) :=
  ⟨keepsBut_of_restore (by cases s; rfl), rfl, rfl, rfl, fun _ hi int => s.squashPrf_inst p hi int⟩

/-- The channel once blocks are discarded. -/
def Chan.without (c : Chan) (p : Block → Bool) : Chan :=
  { c with
    pool := c.pool.filter fun b => !(!b.confirmed && p b), taken := c.taken.filter fun b => !p b
    ndisc := satAdd c.ndisc ((c.pool.filter fun b => !b.confirmed && p b).length + (c.taken.filter p).length) }

theorem State.discardBlocks_discarded (s : State) (ch : Channel) (p : Block → Bool) :
    Discarded s (s.discardBlocks ch p) := by
  have gone := s.setChan_discarded ch ((s.chan ch).without p)
  cases ch
  · exact gone.trans (State.squashPrf_discarded _ fun q => (s.ent.a.taken.filter p).any (·.seq == q))
  · exact gone

theorem State.chan_discardBlocks (s : State) (ch : Channel) (p : Block → Bool) :
    (s.discardBlocks ch p).chan ch = (s.chan ch).without p := by
  cases ch <;> rfl

/-- The run of a channel that a test cannot end otherwise than in FAILED, and what it was. -/
structure SameRun (c d : Chan) : Prop where
  state : d.state = c.state
  retesting : d.retesting = c.retesting
  counted : d.counted = c.counted

theorem State.markBlocks_discarded (s : State) (ch : Channel) (l : List Nat) : Discarded s (s.markBlocks ch l) :=
  (s.discardBlocks_discarded ch _).trans (State.setChan_discarded _ _ _)

theorem State.chan_markBlocks (s : State) (ch : Channel) (l : List Nat) : SameRun (s.chan ch) ((s.markBlocks ch l).chan ch) := by
  unfold markBlocks
  simp only [chan_setChan, chan_discardBlocks]
  exact ⟨rfl, rfl, rfl⟩

/-- A failed channel that is not to die, before its move is told. -/
def State.failing (s : State) (ch : Channel) (cause : Nat) : State :=
  let s := s.discardBlocks ch fun _ => true
  s.setChan ch { s.chan ch with
    tested := false, acquired := false, marked := [], retesting := false, retestBit := false, counted := false,
    cause := cause }

theorem State.failing_discarded (s : State) (ch : Channel) (cause : Nat) : Discarded s (s.failing ch cause) :=
  (s.discardBlocks_discarded ch _).trans (State.setChan_discarded _ _ _)

theorem State.chan_failing (s : State) (ch : Channel) (cause : Nat) : (s.failing ch cause).chan ch =
    { (s.chan ch).without fun _ => true with
      tested := false, acquired := false, marked := [], retesting := false, retestBit := false, counted := false,
      cause := cause } := by
  unfold failing
  rw [chan_setChan, chan_discardBlocks]

/-- What the failure of a channel leaves of it and of the block. -/
structure Failed (ch : Channel) (cause : Nat) (s t : State) : Prop where
  keeps : KeepsBut (.ent :: .prf :: .spc :: talkParts) s t
  ops : t.sch.ops = s.sch.ops
  rcp : t.rcp = s.rcp
  mod : t.mod = s.mod
  insts : ∀ i < 4, ∀ int, (t.inst i).quiet int = (s.inst i).quiet int
  chan : t.chan ch = { (s.chan ch).without fun _ => true with
    tested := false, acquired := false, marked := [], retesting := false, retestBit := false, counted := false,
    cause := cause, state := 3 }
  told : s.stepDone 1 = true → t.irqStat.getLsbD 2 = true

theorem State.failChan_failed {s : State} {ch : Channel} (cause : Nat) (st : (s.chan ch).state ≠ 3)
    (once : (s.chan ch).retesting = false) (uncounted : (s.chan ch).counted = false) :
    Failed ch cause s (s.failChan ch cause) := by
  have lives : (s.chan ch).dies = false := by unfold Chan.dies; rw [once, uncounted]; rfl
  have eq : s.failChan ch cause = (s.failing ch cause).moveChan ch 3 := by
    unfold failChan failing
    rw [lives]
    rfl
  have gone := s.failing_discarded ch cause
  have moves : ((s.failing ch cause).chan ch).state ≠ 3 := by rw [chan_failing]; exact st
  have chats := State.moveChan_chats moves
  rw [eq]
  refine ⟨gone.keeps.within.also (State.moveChan_keeps _ _ _), chats.ops.trans ?_, chats.rcp.trans ?_, chats.mod.trans ?_,
    fun i hi int => ?_, ?_, fun one => ?_⟩
  · cases ch <;> exact gone.ops
  · cases ch <;> exact gone.rcp
  · cases ch <;> exact gone.mod
  · have prf := chats.prf
    refine Eq.trans ?_ (gone.insts i hi int)
    unfold inst
    rw [prf]
    cases ch <;> rfl
  · have ent := chats.ent
    have same : ((s.failing ch cause).moveChan ch 3).chan ch
        = { (s.failing ch cause).chan ch with state := 3 } := by
      cases ch
      · exact congrArg Entropy.a ent
      · exact congrArg Entropy.b ent
    rw [same, chan_failing]
  · unfold moveChan
    simp only [if_neg moves]
    refine (State.report_chats _ _ _).irq 2 (State.raise_bit .entropy ?_)
    rw [← one]
    unfold stepDone
    cases ch <;> exact congrArg (fun m : Mod => m.done.contains 1) gone.mod

/-! ## Acquisition, startup and frequencies -/

theorem map_getD_range {l : List Nat} {n d : Nat} (h : l.length = n) : ((List.range n).map fun i => l.getD i d) = l := by
  subst h
  refine List.ext_getElem (by simp) fun i h k => ?_
  simp [List.getD_eq_getElem?_getD, k]

/-- Channel A once its acquisition has ended. -/
def State.withCodes (s : State) (codes : List Nat) : State :=
  { s with ent := { s.ent with
      a := { s.ent.a with acquired := true }, trim := codes, masked := endMask codes, prevMasked := endMask codes
      atEnd := List.replicate 64 0 } }

theorem State.withCodes_keeps (s : State) (codes : List Nat) : KeepsBut [.ent] s (s.withCodes codes) :=
  keepsBut_of_restore (by cases s; rfl)

theorem State.acquired_run {s : State} {codes : List Nat} (run : s.ent.a.inRun = true) (first : s.ent.a.acquired = false)
    (all : codes.length = 64) : s.acquired codes = s.withCodes codes := by
  unfold acquired withCodes
  simp only [run, first, map_getD_range all, Bool.not_false, Bool.and_self, if_true]

theorem State.startupTest_pass {s : State} {ch : Channel} (run : (s.chan ch).inRun = true)
    (acq : (s.chan ch).acquired = true) (first : (s.chan ch).tested = false) (few : (s.chan ch).startEvents ≤ 4)
    (lanes : ch = .a → 48 ≤ s.activeLatches) :
    s.startupTest ch = s.setChan ch { s.chan ch with tested := true, windows := 0, bitsClosed := 0 } := by
  unfold startupTest
  simp only [run, acq, first, Bool.not_false, Bool.and_self, if_true, if_neg (Nat.not_lt.2 few)]
  exact if_neg fun ⟨a, less⟩ => absurd (lanes a) (Nat.not_le.2 less)

theorem State.startupTest_fail {s : State} {ch : Channel} (run : (s.chan ch).inRun = true)
    (acq : (s.chan ch).acquired = true) (first : (s.chan ch).tested = false) (many : 4 < (s.chan ch).startEvents) :
    s.startupTest ch = s.failChan ch (s.chan ch).lastKind := by
  unfold startupTest
  simp only [run, acq, first, Bool.not_false, Bool.and_self, if_true, if_pos many]

/-- Channel B once its frequencies are found in range. -/
def State.freqPassed (s : State) (f k : Nat) : State :=
  { s with ent := { s.ent with b := { s.ent.b with acquired := true }, fastMhz := f, slowKhz := k } }

theorem State.freqPassed_keeps (s : State) (f k : Nat) : KeepsBut [.ent] s (s.freqPassed f k) :=
  keepsBut_of_restore (by cases s; rfl)

theorem State.freqCheck_pass {s : State} {f k : Nat} (run : s.ent.b.inRun = true) (first : s.ent.b.acquired = false)
    (ok : freqOk f k = true) : s.freqCheck f k = s.freqPassed f k := by
  unfold freqCheck
  simp only [run, first, ok, Bool.not_false, Bool.and_self, if_true]
  rfl

/-! ## Events -/

/-- A channel that an event is counted in. -/
def Chan.counts (c : Chan) (kind sample : Nat) : Chan :=
  { c with
    events := satInc c.events, lastKind := kind
    recent := sample :: c.recent.filter fun i => decide (sample < i + 65536)
    startEvents := if c.inRun && !c.tested then c.startEvents + 1 else c.startEvents }

/-- The block once it is. -/
def State.countEvent (s : State) (ch : Channel) (kind latch sample : Nat) : State :=
  let s := s.setChan ch ((s.chan ch).counts kind sample)
  match ch with
  | .a => { s with ent := { s.ent with lastLatch := latch } }
  | .b => s

theorem State.countEvent_keeps (s : State) (ch : Channel) (kind latch sample : Nat) :
    KeepsBut [.ent] s (s.countEvent ch kind latch sample) := by
  cases ch <;> exact keepsBut_of_restore (by cases s; rfl)

theorem State.chan_countEvent (s : State) (ch : Channel) (kind latch sample : Nat) :
    (s.countEvent ch kind latch sample).chan ch = (s.chan ch).counts kind sample := by
  cases ch <;> rfl

theorem State.countEvent_discarded (s : State) (ch : Channel) (kind latch sample : Nat) :
    Discarded s (s.countEvent ch kind latch sample) := by
  have keeps := s.countEvent_keeps ch kind latch sample
  cases ch <;> exact ⟨keeps.within, rfl, rfl, rfl, fun _ _ _ => rfl⟩

/-- The block once the event's blocks are marked too. -/
def State.eventSeen (s : State) (ch : Channel) (kind latch sample : Nat) (blocks : List Nat) : State :=
  let t := s.countEvent ch kind latch sample
  if (s.chan ch).operational then t.markBlocks ch blocks else t

theorem State.eventSeen_discarded (s : State) (ch : Channel) (kind latch sample : Nat) (blocks : List Nat) :
    Discarded s (s.eventSeen ch kind latch sample blocks) := by
  have counted := s.countEvent_discarded ch kind latch sample
  unfold eventSeen
  split
  · exact counted.trans (State.markBlocks_discarded _ _ _)
  · exact counted

theorem State.chan_eventSeen (s : State) (ch : Channel) (kind latch sample : Nat) (blocks : List Nat) :
    SameRun (s.chan ch) ((s.eventSeen ch kind latch sample blocks).chan ch) := by
  unfold eventSeen
  split
  · have same := (s.countEvent ch kind latch sample).chan_markBlocks ch blocks
    rw [chan_countEvent] at same
    exact ⟨same.state, same.retesting, same.counted⟩
  · rw [chan_countEvent]
    exact ⟨rfl, rfl, rfl⟩

theorem State.chanEvent_tested {s : State} {ch : Channel} {latch : Nat} (kind sample : Nat) (blocks : List Nat)
    (tests : (s.chan ch).testing = true) (stream : s.streamOk ch latch = true) :
    s.chanEvent ch kind latch sample blocks =
      if (s.chan ch).state = 2 ∧ 16 < (sample :: (s.chan ch).recent.filter fun i => decide (sample < i + 65536)).length then
        (s.eventSeen ch kind latch sample blocks).failChan ch kind
      else s.eventSeen ch kind latch sample blocks := by
  unfold chanEvent
  simp only [tests, stream, Bool.not_true, Bool.or_self, Bool.false_eq_true, if_false]
  cases ch <;> rfl

/-- The commands of the two tests at their cutoffs. -/
theorem runs_testEvent {s : State} (h : s.Rests) {ch : Channel} {latch sample : Nat} {parts : List Part}
    {post : Nat → State → Prop}
    (does : ∀ (kind : Nat) (blocks : List Nat), ∃ t, (s.chanEvent ch kind latch sample blocks) = t ∧ t.entropyReact = t
      ∧ KeepsBut parts s t ∧ post kind (settle s t)) {c : Nat × Instr}
    (hc : c ∈ [(1, .repetitionEvent ch latch sample (s.chan ch).rct), (2, .proportionEvent ch latch sample (s.chan ch).apt)]) :
    Runs c.2 s parts (post c.1) := by
  rcases List.mem_cons.1 hc with rfl | hc
  · obtain ⟨t, eq, rests, keeps, done⟩ := does 1 (s.runBlocks ch latch sample (s.chan ch).rct)
    exact runs_clock (fun u => if (s.chan ch).rct = (u.chan ch).rct then
        (u.chanEvent ch 1 latch sample (u.runBlocks ch latch sample (s.chan ch).rct)).entropyReact else u) rfl h.running t
      ((if_pos rfl).trans ((congrArg State.entropyReact eq).trans rests)) keeps done
  · obtain rfl := List.mem_singleton.1 hc
    obtain ⟨t, eq, rests, keeps, done⟩ := does 2 (s.windowBlocks ch)
    exact runs_clock (fun u => if (s.chan ch).apt = (u.chan ch).apt then
        (u.chanEvent ch 2 latch sample (u.windowBlocks ch)).entropyReact else u) rfl h.running t
      ((if_pos rfl).trans ((congrArg State.entropyReact eq).trans rests)) keeps done

/-! ## Retests -/

theorem State.beginRetest_keeps (s : State) (ch : Channel) : KeepsBut [.ent] s (s.beginRetest ch) :=
  (s.setChan_keeps ch _).also (State.beginRun_keeps _ ch)

/-- A channel in its retest. -/
structure InRetest (s : State) (c d : Chan) : Prop where
  retesting : d.retesting = true
  bit : d.retestBit = true
  retests : d.retests = s.tick :: c.retests
  acquired : d.acquired = false
  tested : d.tested = false
  state : d.state = c.state

theorem State.chan_beginRetest (s : State) (ch : Channel) : InRetest s (s.chan ch) ((s.beginRetest ch).chan ch) := by
  cases ch <;> exact ⟨rfl, rfl, rfl, rfl, rfl, rfl⟩

theorem State.runs_retest {s : State} {w : Writers} {ch : Channel} {c : Instr} (running : s.running = true)
    (hx : exec c s = onClock s fun s => s.retest w ch) (ok : s.retestOk ch = true) : Runs c s [.ent] fun t =>
      (t.chan ch).retesting = true ∧ (t.chan ch).retestBit = true ∧ (t.chan ch).retests = s.tick :: (s.chan ch).retests
        ∧ (t.chan ch).acquired = false ∧ (t.chan ch).tested = false ∧ (t.chan ch).state = 3 := by
  have failed : (s.chan ch).state = 3 := by
    unfold retestOk at ok
    simp only [Bool.and_eq_true, beq_iff_eq] at ok
    exact ok.1.1.1
  have run := s.chan_beginRetest ch
  refine runs_clock _ hx running _ (if_pos ok) (s.beginRetest_keeps ch) ?_
  rw [settle_chan]
  exact ⟨run.retesting, run.bit, run.retests, run.acquired, run.tested, run.state.trans failed⟩

theorem State.keptRetests_idle {s : State} {c : Chan} (once : c.retesting = false) (uncounted : c.counted = false) :
    s.keptRetests c = s.recentRetests c := by
  unfold keptRetests recentRetests
  cases c.retests with
  | nil => rfl
  | cons u l => simp [once, uncounted]

theorem State.keptRetests_run {s : State} {c : Chan} {u : BitVec 64} {l : List (BitVec 64)}
    (run : (c.retesting || c.counted) = true) (began : c.retests = u :: l) :
    s.keptRetests c = (u :: l).filter fun v => decide (u.toNat ≤ v.toNat + 3600000000) := by
  unfold keptRetests
  rw [began]
  exact if_pos run

/-- Settles O47, clause by clause: the branch of the command that its premises choose, the Proofer at rest. -/
theorem entropyRuns : Obligations.EntropyRuns := by
  unfold Obligations.EntropyRuns
  refine ⟨fun s codes running run first all => ?_, fun s ch rests run acq first few lanes => ?_,
    fun s ch rests st once uncounted acq first many => ?_, fun s f k rests run first ok => ?_,
    fun s ch latch sample c rests st acq first stream =>
      runs_testEvent rests (post := fun kind t => (t.chan ch).events = satInc (s.chan ch).events
        ∧ (t.chan ch).lastKind = kind ∧ (t.chan ch).startEvents = (s.chan ch).startEvents + 1
        ∧ (t.chan ch).state = 1) fun kind blocks => ?_,
    fun s ch latch sample c rests st once uncounted stream many =>
      runs_testEvent rests (post := fun kind t => (t.chan ch).state = 3 ∧ (t.chan ch).cause = kind
        ∧ (∀ b ∈ (t.chan ch).pool, b.confirmed = true)
        ∧ (s.stepDone 1 = true → t.irqStat.getLsbD 2 = true)) fun kind blocks => ?_,
    fun s w c running hc ok => ?_, fun s ch running once uncounted => ?_, fun s ch u l running run began => ?_⟩
  · refine runs_clock (fun s => s.acquired codes) rfl running _ (State.acquired_run run first all) (s.withCodes_keeps codes) ?_
    rw [settle_ent]
    exact ⟨rfl, rfl, rfl, rfl⟩
  · refine runs_clock (fun s => (s.startupTest ch).entropyReact) rfl rests.running _
      ((congrArg State.entropyReact (State.startupTest_pass run acq first few lanes)).trans (rests.setChan ch _))
      (s.setChan_keeps ch _) ?_
    rw [State.settle_chan, State.chan_setChan]
  · have run : (s.chan ch).inRun = true := by unfold Chan.inRun; rw [st]; rfl
    have failed := State.failChan_failed (s := s) (ch := ch) (s.chan ch).lastKind (by rw [st]; decide) once uncounted
    refine runs_clock (fun s => (s.startupTest ch).entropyReact) rfl rests.running _
      ((congrArg State.entropyReact (State.startupTest_fail run acq first many)).trans
        (rests.entropyReact failed.rcp failed.mod failed.ops fun i hi =>
          (failed.insts i hi _).trans (rests.proofer.2.1 i hi)))
      failed.keeps ?_
    rw [State.settle_chan, settle_irqStat, failed.chan]
    exact ⟨rfl, rfl, failed.told⟩
  · refine runs_clock (fun s => (s.freqCheck f k).entropyReact) rfl rests.running _
      ((congrArg State.entropyReact (State.freqCheck_pass run first ok)).trans
        (rests.entropyReact rfl rfl rfl (rests.insts rfl)))
      (s.freqPassed_keeps f k) ?_
    rw [settle_ent]
    rfl
  · have run : (s.chan ch).inRun = true := by unfold Chan.inRun; rw [st]; rfl
    have tests : (s.chan ch).testing = true := by unfold Chan.testing; simp [run, acq]
    have seen : s.eventSeen ch kind latch sample blocks = s.countEvent ch kind latch sample := by
      unfold State.eventSeen Chan.operational
      rw [first]
      rfl
    have gone := s.countEvent_discarded ch kind latch sample
    refine ⟨_, (State.chanEvent_tested kind sample blocks tests stream).trans
      ((if_neg fun h => by rw [st] at h; exact absurd h.1 (by decide)).trans seen),
      rests.entropyReact gone.rcp gone.mod gone.ops fun i hi => (gone.insts i hi _).trans (rests.proofer.2.1 i hi),
      s.countEvent_keeps ch kind latch sample, ?_⟩
    rw [State.settle_chan, State.chan_countEvent]
    refine ⟨rfl, rfl, if_pos ?_, st⟩
    rw [run, first]
    rfl
  · have tests : (s.chan ch).testing = true := by unfold Chan.testing; rw [st]; rfl
    have gone := s.eventSeen_discarded ch kind latch sample blocks
    have same := s.chan_eventSeen ch kind latch sample blocks
    have failed := State.failChan_failed (s := s.eventSeen ch kind latch sample blocks) (ch := ch) kind
      (by rw [same.state, st]; decide) (same.retesting.trans once) (same.counted.trans uncounted)
    refine ⟨_, (State.chanEvent_tested kind sample blocks tests stream).trans
      (if_pos ⟨st, by rw [List.length_cons]; exact Nat.lt_succ_of_le many⟩),
      rests.entropyReact (failed.rcp.trans gone.rcp) (failed.mod.trans gone.mod) (failed.ops.trans gone.ops) fun i hi =>
        (failed.insts i hi _).trans ((gone.insts i hi _).trans (rests.proofer.2.1 i hi)),
      gone.keeps.within.also failed.keeps, ?_⟩
    rw [State.settle_chan, settle_irqStat, failed.chan]
    refine ⟨rfl, rfl, fun b hb => ?_, fun one => failed.told ?_⟩
    · have stays := (List.mem_filter.1 hb).2
      simpa using stays
    · unfold State.stepDone
      rw [gone.mod]
      exact one
  · rcases List.mem_cons.1 hc with rfl | hc
    · exact State.runs_retest running rfl ok
    · obtain rfl := List.mem_singleton.1 hc
      exact State.runs_retest running rfl ok
  · refine runs_clock (fun s => s.setChan ch { s.chan ch with retests := s.keptRetests (s.chan ch) }) rfl running _ rfl (s.setChan_keeps ch _) ?_
    rw [State.settle_chan, State.chan_setChan, State.keptRetests_idle once uncounted]
  · refine runs_clock (fun s => s.setChan ch { s.chan ch with retests := s.keptRetests (s.chan ch) }) rfl running _ rfl (s.setChan_keeps ch _) ?_
    rw [State.settle_chan, State.chan_setChan, State.keptRetests_run run began]

end Sys2Proof.Machine
end

section
/-! PROOF. Windows, blocks, estimates and generate requests (R242, R252–R255, R263, R271), the Proofer at rest. -/

namespace Sys2Proof.Machine

/-! ## Confirmation -/

/-- The channel once the blocks of closed windows are confirmed and no shadow's block is among them. -/
def Chan.confirming (c : Chan) : Chan :=
  { c with
    pool := c.pool.map fun b => if !b.confirmed && c.closed b then { b with confirmed := true } else b
    nconf := satAdd c.nconf (c.pool.filter fun b => !b.confirmed && c.closed b).length }

theorem filter_none {α : Type} {l : List α} {p : α → Bool} (h : ∀ x ∈ l, p x = false) : l.filter p = [] :=
  List.filter_eq_nil_iff.2 fun x hx => by rw [h x hx]; exact Bool.false_ne_true

theorem filter_not_all {α : Type} {l : List α} {p : α → Bool} (h : ∀ x ∈ l, p x = false) : (l.filter fun x => !p x) = l :=
  List.filter_eq_self.2 fun x hx => by rw [h x hx]; rfl

/-- Outside a run a channel's confirmations change nothing but the channel. -/
theorem State.confirmBlocks_settled {s : State} {ch : Channel} (opens : ∀ b ∈ (s.chan ch).taken, (s.chan ch).closed b = false)
    (calm : (s.chan ch).inRun = false ∨ ∀ b ∈ (s.chan ch).pool, (!b.confirmed && (s.chan ch).closed b) = false) :
    s.confirmBlocks ch = (s.setChan ch (s.chan ch).confirming, []) := by
  unfold confirmBlocks
  simp only [filter_none opens, filter_not_all opens, List.map_nil, List.length_nil, Nat.add_zero]
  refine congrArg (·, []) (if_neg fun ⟨found, run⟩ => ?_)
  rcases calm with idle | none
  · rw [idle] at run
    exact Bool.false_ne_true run
  · rw [filter_none none] at found
    exact found rfl

theorem Chan.closed_congr {c d : Chan} (h : d.bitsClosed = c.bitsClosed) (b : Block) : d.closed b = c.closed b := by
  unfold Chan.closed
  rw [h]

/-- The confirmed pool, as the statements write it. -/
theorem Chan.pool_confirming (c : Chan) : c.confirming.pool =
    c.pool.map fun b => if (b.idx + 1) * 2048 ≤ c.bitsClosed then { b with confirmed := true } else b := by
  refine List.map_congr_left fun b _ => ?_
  unfold Chan.closed
  by_cases done : (b.idx + 1) * 2048 ≤ c.bitsClosed
  · cases b with | mk seq idx digest confirmed => cases confirmed <;> simp [done]
  · simp [done]

/-- The pool that nothing of confirms. -/
theorem Chan.confirming_none {c : Chan} (h : ∀ b ∈ c.pool, (!b.confirmed && c.closed b) = false) :
    c.confirming.pool = c.pool := by
  refine (List.map_congr_left fun b hb => ?_).trans (List.map_id _)
  rw [h b hb]
  rfl

/-! ## Windows -/

/-- The channel once a window of `n` streams has closed. -/
def Chan.windowClosed (c : Chan) (n : Nat) : Chan :=
  { c with windows := c.windows + 1, bitsClosed := c.bitsClosed + 1024 * n }

theorem Chan.settled_operational {c : Chan} (st : c.state = 2) (tested : c.tested = true) : c.operational = true := by
  unfold Chan.operational
  rw [st, tested]
  rfl

theorem Chan.settled_testing {c : Chan} (st : c.state = 2) : c.testing = true := by
  unfold Chan.testing
  rw [st]
  rfl

theorem Chan.settled_run {c : Chan} (st : c.state = 2) (once : c.retesting = false) : c.inRun = false := by
  unfold Chan.inRun
  rw [st, once]
  rfl

theorem State.closeWindow_b {s : State} (ones : List Nat) (st : s.ent.b.state = 2) (once : s.ent.b.retesting = false)
    (tested : s.ent.b.tested = true) (taken : s.ent.b.taken = []) :
    s.closeWindow .b ones = (s.setChan .b (s.ent.b.windowClosed 1).confirming, []) := by
  have closes : (s.setChan .b (s.ent.b.windowClosed 1)).confirmBlocks .b
      = (s.setChan .b (s.ent.b.windowClosed 1).confirming, []) :=
    State.confirmBlocks_settled (s := s.setChan .b (s.ent.b.windowClosed 1)) (ch := .b)
      (fun b hb => absurd (taken ▸ hb) List.not_mem_nil)
      (.inl (Chan.settled_run st once))
  have tests : ((s.chan .b).testing) = true := Chan.settled_testing st
  have operates : ((s.chan .b).operational) = true := Chan.settled_operational st tested
  unfold closeWindow
  simp only [tests, operates, Bool.not_true, Bool.false_eq_true, if_false, if_true, reduceCtorEq, false_and]
  exact closes

/-- A fold each of whose steps leaves what it starts with. -/
theorem foldl_unmoved {α β : Type} {f : β → α → β} {b : β} {l : List α} (h : ∀ a ∈ l, f b a = b) : l.foldl f b = b := by
  induction l with
  | nil => rfl
  | cons a l ih => rw [List.foldl_cons, h a List.mem_cons_self]; exact ih fun c hc => h c (List.mem_cons_of_mem _ hc)

/-- The trim loop's codes after a window that masks no latch. -/
def State.trimmed (s : State) (ones : List Nat) : List Nat :=
  (List.range 64).map fun i => trimStep (s.ent.trim.getD i 32) (ones.getD i 512)

/-- The block after it. -/
def State.tracked (s : State) (ones : List Nat) : State :=
  { s with ent := { s.ent with
      trim := s.trimmed ones, masked := 0, prevMasked := 0
      atEnd := (List.range 64).map fun i =>
        if (s.trimmed ones).getD i 32 = 0 ∨ (s.trimmed ones).getD i 32 = 63 then s.ent.atEnd.getD i 0 + 1 else 0 } }

theorem State.trackTrim_free {s : State} (ones : List Nat) (masked : s.ent.masked = 0)
    (free : ∀ i < 64, s.ent.atEnd.getD i 0 < 4) : s.trackTrim ones = s.tracked ones := by
  have mask : (List.range 64).foldl (fun m i => if 4 ≤ s.ent.atEnd.getD i 0 then setBit m i true else m) s.ent.masked
      = 0 :=
    (foldl_unmoved fun i hi => if_neg (Nat.not_le.2 (free i (List.mem_range.1 hi)))).trans masked
  unfold trackTrim tracked trimmed
  simp only [mask]
  simp [masked]

theorem State.tracked_keeps (s : State) (ones : List Nat) : KeepsBut [.ent] s (s.tracked ones) :=
  keepsBut_of_restore (by cases s; rfl)

theorem State.closeWindow_a {s : State} {ones : List Nat} (st : s.ent.a.state = 2) (once : s.ent.a.retesting = false)
    (tested : s.ent.a.tested = true) (taken : s.ent.a.taken = []) (masked : s.ent.masked = 0)
    (free : ∀ i < 64, s.ent.atEnd.getD i 0 < 4) :
    s.closeWindow .a ones = ((s.tracked ones).setChan .a (s.ent.a.windowClosed 64).confirming, []) := by
  have closes : ((s.tracked ones).setChan .a (s.ent.a.windowClosed 64)).confirmBlocks .a
      = ((s.tracked ones).setChan .a (s.ent.a.windowClosed 64).confirming, []) :=
    State.confirmBlocks_settled (s := (s.tracked ones).setChan .a (s.ent.a.windowClosed 64)) (ch := .a)
      (fun b hb => absurd (taken ▸ hb) List.not_mem_nil) (.inl (Chan.settled_run st once))
  have tests : ((s.chan .a).testing) = true := Chan.settled_testing st
  have operates : ((s.chan .a).operational) = true := Chan.settled_operational st tested
  have latches : s.streams .a = 64 := by
    unfold streams activeLatches
    rw [masked]
    decide
  have many : ¬ (s.tracked ones).activeLatches < 48 := by
    have : (s.tracked ones).activeLatches = 64 := by
      unfold activeLatches
      exact (by decide : 64 - popcount (0 : BitVec 64) = 64)
    rw [this]
    decide
  have manyStill : ¬ ((s.tracked ones).setChan .a (s.ent.a.windowClosed 64).confirming).activeLatches < 48 := many
  have shape : s.closeWindow .a ones
      = (if ((s.tracked ones).setChan .a (s.ent.a.windowClosed 64)).confirmBlocks .a |>.1.ent.a.state = 2
          ∧ (((s.tracked ones).setChan .a (s.ent.a.windowClosed 64)).confirmBlocks .a).1.activeLatches < 48 then
          (((((s.tracked ones).setChan .a (s.ent.a.windowClosed 64)).confirmBlocks .a).1.failChan .a 3),
            (((s.tracked ones).setChan .a (s.ent.a.windowClosed 64)).confirmBlocks .a).2)
        else ((s.tracked ones).setChan .a (s.ent.a.windowClosed 64)).confirmBlocks .a) := by
    unfold closeWindow
    simp only [tests, operates, latches, trackTrim_free ones masked free, many, Bool.not_true, Bool.false_eq_true, if_false,
      if_true, and_false, true_and]
    rfl
  rw [shape, closes]
  exact if_neg fun h => manyStill h.2

/-! ## Blocks, estimates, output -/

/-- The block of a channel's next bits. -/
def Chan.nextBlock (c : Chan) (ch : Channel) (raw : BitVec 2048) : Block :=
  { seq := c.nextSeq, idx := c.blk, confirmed := false
    digest := Config.sha256 (chanOctet ch :: (beBytes 7 c.nextSeq ++ beBytes 256 raw.toNat)) }

/-- The channel with it. -/
def Chan.formed (c : Chan) (ch : Channel) (raw : BitVec 2048) : Chan :=
  { c with
    blk := c.blk + 1, marked := c.marked.filter (· != c.blk), nextSeq := c.nextSeq + 1
    pool := c.pool ++ [c.nextBlock ch raw] }

theorem State.formBlock_open {s : State} {ch : Channel} {raw : BitVec 2048} (operates : (s.chan ch).operational = true)
    (forms : s.ent.forming = true) (lane : s.churnLane = true) (clear : (s.chan ch).marked.contains (s.chan ch).blk = false)
    (room : (s.chan ch).pool.length < 64) (ahead : (s.chan ch).bitsClosed < ((s.chan ch).blk + 1) * 2048)
    (waits : ∀ b ∈ (s.chan ch).pool, b.confirmed = false → (s.chan ch).closed b = false)
    (taken : ∀ b ∈ (s.chan ch).taken, (s.chan ch).closed b = false) :
    s.formBlock ch raw = s.setChan ch ((s.chan ch).formed ch raw).confirming
      ∧ ((s.chan ch).formed ch raw).confirming.pool = (s.chan ch).pool ++ [(s.chan ch).nextBlock ch raw] := by
  have none : ∀ b ∈ ((s.chan ch).formed ch raw).pool, (!b.confirmed && ((s.chan ch).formed ch raw).closed b) = false := by
    intro b hb
    rcases List.mem_append.1 hb with hb | hb
    · cases done : b.confirmed with
      | true => rfl
      | false => exact waits b hb done
    · obtain rfl := List.mem_singleton.1 hb
      exact decide_eq_false (Nat.not_le.2 ahead)
  have same : (s.setChan ch ((s.chan ch).formed ch raw)).chan ch = (s.chan ch).formed ch raw := chan_setChan ..
  have confirms : (s.setChan ch ((s.chan ch).formed ch raw)).confirmBlocks ch
      = ((s.setChan ch ((s.chan ch).formed ch raw)).setChan ch ((s.chan ch).formed ch raw).confirming, []) := by
    rw [confirmBlocks_settled (s := s.setChan ch ((s.chan ch).formed ch raw)) (ch := ch), same]
    · rw [same]; exact taken
    · rw [same]; exact .inr none
  refine ⟨?_, Chan.confirming_none none⟩
  unfold formBlock
  simp only [operates, forms, lane, clear, Bool.not_true, Bool.or_self, Bool.false_eq_true, if_false,
    if_neg (Nat.not_le.2 room)]
  refine (congrArg Prod.fst confirms).trans ?_
  cases ch <;> rfl

/-- A channel's estimate window read out. -/
def Chan.estimating (c : Chan) (ch : Channel) (bits ones pairs agree : Nat) : Chan :=
  { c with
    estSeq := c.estSeq + 1, estBits := if ch = .b then 65536 else bits, estOnes := ones
    estPairs := if ch = .b then 65535 else pairs, estAgree := agree }

/-- The block with it, and with channel B's frequencies. -/
def State.estimated (s : State) (ch : Channel) (bits ones pairs agree f k : Nat) : State :=
  let s := s.setChan ch ((s.chan ch).estimating ch bits ones pairs agree)
  match ch with
  | .a => s
  | .b => { s with ent := { s.ent with fastMhz := f, slowKhz := k } }

theorem State.estimated_keeps (s : State) (ch : Channel) (bits ones pairs agree f k : Nat) :
    KeepsBut [.ent] s (s.estimated ch bits ones pairs agree f k) := by
  cases ch <;> exact keepsBut_of_restore (by cases s; rfl)

theorem State.estimate_ok {s : State} {ch : Channel} (bits ones pairs agree : Nat) {f k : Nat}
    (on : (s.chan ch).estimated ch = true) (ok : ch = .b → freqOk f k = true) :
    s.estimate ch bits ones pairs agree f k = s.estimated ch bits ones pairs agree f k := by
  unfold estimate
  simp only [on, Bool.not_true, Bool.false_eq_true, if_false]
  cases ch with
  | a => rfl
  | b => simp only [ok rfl, Bool.true_or, if_true]; rfl

/-- An instance after a generate request. -/
def Prf.generated (x : Prf) : Prf :=
  { x with ws := (generate x.ws 1).2, since := x.since + 1, buf := x.buf ++ (generate x.ws 1).1 }

theorem State.prfGenerate_serving {s : State} (rests : s.Rests) {i : Nat} (hi : i < 4) (serves : s.prfServes i = true)
    (lane : s.aesLane = true) (room : (s.inst i).buf.length + 512 ≤ 8192) (fresh : (s.inst i).since + 1 < s.reseedInt) :
    s.prfGenerate i = s.setInst i (s.inst i).generated := by
  have few : (s.inst i).since < stopCount := by have := rests.proofer.2.2.1; omega
  have calm : (s.setInst i (s.inst i).generated).prfReact = s.setInst i (s.inst i).generated := by
    refine rests.prfReact rfl rfl fun j hj => ?_
    rw [inst_setInst hi]
    have was := rests.proofer.2.1 j hj
    split
    · next h =>
      subst h
      unfold Prf.quiet at was ⊢
      simp only [Bool.and_eq_true, Bool.or_eq_true, decide_eq_true_eq] at was ⊢
      exact ⟨was.1, was.2.imp id fun h => ⟨h.1, fresh⟩⟩
    · exact was
  unfold prfGenerate
  simp only [serves, lane, decide_eq_true (show (s.inst i).buf.length + 512 ≤ bufMax from room), decide_eq_true few,
    Bool.and_self, if_true]
  exact calm

/-- Settles O48: each command in the branch that its premises choose, the Proofer at rest. -/
theorem entropyBlocks : Obligations.EntropyBlocks := by
  unfold Obligations.EntropyBlocks
  refine ⟨fun s ones rests st once tested taken => ?_, fun s ones rests st once tested taken masked free _ => ?_,
    fun s ch raw rests operates forms lane clear room ahead waits taken => ?_,
    fun s ch bits ones pairs agree f k rests on ok => ?_, fun s i rests hi serves lane room fresh => ?_⟩
  · refine runs_clock (fun s => (s.closeWindow .b ones).1.entropyReact) rfl rests.running _
      ((congrArg (fun r : State × List Nat => r.1.entropyReact) (State.closeWindow_b ones st once tested taken)).trans
        (rests.setChan .b _)) (s.setChan_keeps .b _) ?_
    rw [settle_ent]
    exact ⟨rfl, rfl, Chan.pool_confirming _⟩
  · have calm : ((s.tracked ones).setChan .a (s.ent.a.windowClosed 64).confirming).entropyReact
        = (s.tracked ones).setChan .a (s.ent.a.windowClosed 64).confirming :=
      rests.entropyReact rfl rfl rfl (rests.insts rfl)
    have noShadow : ∀ t : State, t.confirmShadows [] = t := fun t => foldl_range4 fun i _ => by
      show (match (t.inst i).shadow with | none => t | some h => _) = t
      split <;> rfl
    refine runs_clock (fun s => ((s.closeWindow .a ones).1.confirmShadows (s.closeWindow .a ones).2).entropyReact) rfl
      rests.running _ ((congrArg (fun r : State × List Nat => (r.1.confirmShadows r.2).entropyReact)
        (State.closeWindow_a st once tested taken masked free)).trans
        ((congrArg State.entropyReact (noShadow _)).trans calm))
      ((s.tracked_keeps ones).also (State.setChan_keeps _ .a _)) ?_
    rw [settle_ent]
    exact ⟨rfl, rfl, rfl, rfl, Chan.pool_confirming _⟩
  · obtain ⟨eq, pool⟩ := State.formBlock_open (raw := raw) operates forms lane clear room ahead waits taken
    refine runs_clock (fun s => (s.formBlock ch raw).entropyReact) rfl rests.running _
      ((congrArg State.entropyReact eq).trans (rests.setChan ch _)) (s.setChan_keeps ch _) ?_
    rw [State.settle_chan, State.chan_setChan]
    exact ⟨pool, rfl, rfl⟩
  · have keeps := s.estimated_keeps ch bits ones pairs agree f k
    have calm : (s.estimated ch bits ones pairs agree f k).entropyReact = s.estimated ch bits ones pairs agree f k := by
      cases ch <;> exact rests.entropyReact rfl rfl rfl (rests.insts rfl)
    refine runs_clock (fun s => (s.estimate ch bits ones pairs agree f k).entropyReact) rfl rests.running _
      ((congrArg State.entropyReact (State.estimate_ok bits ones pairs agree on ok)).trans calm) keeps ?_
    rw [State.settle_chan, settle_ent]
    cases ch with
    | a => exact ⟨rfl, fun b => nomatch b⟩
    | b => exact ⟨rfl, fun _ => ⟨rfl, rfl⟩⟩
  · refine runs_clock (fun s => (s.prfGenerate i).step9Check) rfl rests.running _
      ((congrArg State.step9Check (State.prfGenerate_serving rests hi serves lane room fresh)).trans
        (State.step9Check_outside rests.outside)) (s.setInst_keeps i _) ?_
    rw [settle_prf]
    rfl

end Sys2Proof.Machine
end

section
/-! PROOF. Supply Watch (R312–R326): a conversion, a closing or a window's end moves one channel and tells what it must;
EARLY_WARNING follows. -/

namespace Sys2Proof.Machine

/-! ## One channel moves -/

theorem State.spwChan_setSpw {s : State} {c : Nat} (hc : c < 8) (x : SpwChan) (d : Nat) :
    (s.setSpw c x).spwChan d = if d = c then x else s.spwChan d := vecGet_vecSet _ _ hc d x

theorem State.setSpw_setSpw (s : State) (c : Nat) (x y : SpwChan) : (s.setSpw c x).setSpw c y = s.setSpw c y := by
  unfold setSpw vecSet
  simp only [Vector.setIfInBounds_setIfInBounds]

theorem Chats.setSpw {s t : State} (h : Chats s t) (c : Nat) (x : SpwChan) : Chats (s.setSpw c x) (t.setSpw c x) := by
  have spw := h.spw
  refine ⟨?_, h.out, h.sch, h.sts, h.links, h.irq, h.queue⟩
  have talks := congrArg (fun u : State => u.setSpw c x) h.talks
  exact talks

/-- `t` is `s` after channel `c` has moved and events have been told; `π` of the channel stays. -/
structure Probes {α : Type} (c : Nat) (π : SpwChan → α) (s t : State) : Prop where
  chats : Chats (s.setSpw c (t.spwChan c)) t
  same : π (t.spwChan c) = π (s.spwChan c)

section
variable {α β : Type} {c : Nat} {π : SpwChan → α} {s t u : State}

theorem Probes.trans (h : Probes c π s t) (k : Probes c π t u) : Probes c π s u := by
  have first := h.chats.setSpw c (u.spwChan c)
  rw [State.setSpw_setSpw] at first
  exact ⟨first.trans k.chats, k.same.trans h.same⟩

/-- What follows from what stays. -/
theorem Probes.map (h : Probes c π s t) (f : SpwChan → β) (hf : ∀ x y, π x = π y → f x = f y) : Probes c f s t :=
  ⟨h.chats, hf _ _ h.same⟩

theorem Probes.ite {p : Prop} [Decidable p] (h : p → Probes c π s t) (k : ¬ p → Probes c π s u) :
    Probes c π s (if p then t else u) := by
  split
  · next hp => exact h hp
  · next hp => exact k hp

theorem Probes.refl (s : State) (c : Nat) (π : SpwChan → α) : Probes c π s s := by
  refine ⟨?_, rfl⟩
  have whole : s.setSpw c (s.spwChan c) = s := by
    have : vecSet s.spw.chans c (vecGet SpwChan.start s.spw.chans c) = s.spw.chans := by
      unfold vecSet vecGet
      refine Vector.ext fun k hk => ?_
      rw [Vector.getElem_setIfInBounds]
      split
      · next h => subst h; exact dif_pos hk
      · rfl
    unfold State.setSpw State.spwChan
    rw [this]
  rw [whole]
  exact .refl s

theorem Probes.set (hc : c < 8) {x : SpwChan} (h : π x = π (s.spwChan c)) : Probes c π s (s.setSpw c x) := by
  have here : (s.setSpw c x).spwChan c = x := (State.spwChan_setSpw hc x c).trans (if_pos rfl)
  exact ⟨by rw [here]; exact .refl _, by rw [here]; exact h⟩

/-- A channel moves before the rest does. -/
theorem Probes.after (hc : c < 8) {x : SpwChan} (k : Probes c π (s.setSpw c x) t)
    (h : π x = π (s.spwChan c) := by rfl) : Probes c π s t := (Probes.set hc h).trans k

/-- A channel moves and events are told. -/
theorem Probes.tell (hc : c < 8) {x : SpwChan} (h : π x = π (s.spwChan c)) (told : Chats (s.setSpw c x) t) :
    Probes c π s t := by
  have here : t.spwChan c = x :=
    (congrArg (fun p : Supply => vecGet SpwChan.start p.chans c) told.spw).trans ((State.spwChan_setSpw hc x c).trans (if_pos rfl))
  exact ⟨by rw [here]; exact told, by rw [here]; exact h⟩

theorem Probes.spw (h : Probes c π s t) : t.spw = (s.setSpw c (t.spwChan c)).spw := h.chats.spw

theorem Probes.other (h : Probes c π s t) (hc : c < 8) {d : Nat} (hd : d ≠ c) : t.spwChan d = s.spwChan d := by
  have := congrArg (fun p : Supply => vecGet SpwChan.start p.chans d) h.spw
  exact this.trans ((State.spwChan_setSpw hc _ d).trans (if_neg hd))

theorem State.setSpw_keeps (s : State) (c : Nat) (x : SpwChan) : KeepsBut [.spw] s (s.setSpw c x) :=
  keepsBut_of_restore (by cases s; rfl)

theorem Probes.keeps (h : Probes c π s t) : KeepsBut (.spw :: talkParts) s t :=
  (s.setSpw_keeps c _).within.also h.chats.keeps

theorem Probes.tick (h : Probes c π s t) : t.tick = s.tick := h.chats.tick
theorem Probes.rcp (h : Probes c π s t) : t.rcp = s.rcp := h.chats.rcp

end

/-! ## Events, levels and LOST -/

/-- A channel without its events and its acquisition. -/
def SpwChan.unmarked (x : SpwChan) : SpwChan :=
  { x with events := 0, seen := 0, onsets := 0, transEnd := none, acquire := false }

/-- A channel at an edge of an event. -/
def SpwChan.edged (x : SpwChan) (e : Nat) (on : Bool) : SpwChan :=
  { x with
    events := setBit x.events e on
    seen := if on then setBit x.seen e true else x.seen
    onsets := if on then satInc x.onsets else x.onsets }

theorem State.spwEdge_chats (s : State) (c e : Nat) (on : Bool) :
    Chats (s.setSpw c ((s.spwChan c).edged e on)) (s.spwEdge c e on) := State.report_chats _ _ _

theorem State.spwEdge_marks {s : State} {c : Nat} (hc : c < 8) (e : Nat) (on : Bool) :
    Probes c SpwChan.unmarked s (s.spwEdge c e on) := .tell (x := (s.spwChan c).edged e on) hc rfl (s.spwEdge_chats c e on)

theorem State.spwChan_spwEdge {s : State} {c : Nat} (hc : c < 8) (e : Nat) (on : Bool) :
    (s.spwEdge c e on).spwChan c = (s.spwChan c).edged e on :=
  (congrArg (fun p : Supply => vecGet SpwChan.start p.chans c) (s.spwEdge_chats c e on).spw).trans
    ((State.spwChan_setSpw hc _ c).trans (if_pos rfl))

theorem State.spwLevel_marks {s : State} {c : Nat} (hc : c < 8) (e : Nat) (onset ends : Bool) :
    Probes c SpwChan.unmarked s (s.spwLevel c e onset ends) :=
  .ite (fun _ => .ite (fun _ => spwEdge_marks hc e false) fun _ => .refl s c _)
    fun _ => .ite (fun _ => spwEdge_marks hc e true) fun _ => .refl s c _

theorem State.spwAcquired_marks {s : State} {c : Nat} (hc : c < 8) : Probes c SpwChan.unmarked s (s.spwAcquired c) :=
  Probes.trans (t := s.setSpw c { s.spwChan c with acquire := false }) (.set hc rfl) (spwEdge_marks hc evAcquire false)

theorem State.spwTransient_marks {s : State} {c : Nat} (hc : c < 8) : Probes c SpwChan.unmarked s (s.spwTransient c) :=
  (spwLevel_marks hc _ _ _).trans (.ite (fun _ => .set hc rfl) fun _ => .refl _ c _)

/-- A channel without its LOST state too. -/
def SpwChan.unlost (x : SpwChan) : SpwChan := { x with lost := false, lostAt := 0, goodHalf := 0 }

theorem State.spwLost_lost {s : State} {c : Nat} (hc : c < 8) (b : Bool) :
    Probes c SpwChan.unlost s (s.spwLost c b) ∧ ((s.spwLost c b).spwChan c).lost = b := by
  unfold spwLost
  by_cases h : (s.spwChan c).lost = b
  · exact ⟨(if_pos h).symm ▸ Probes.refl s c _, (if_pos h).symm ▸ h⟩
  · simp only [if_neg h]
    exact ⟨.set hc rfl, congrArg SpwChan.lost ((spwChan_setSpw hc _ c).trans (if_pos rfl))⟩

/-- What neither a level nor a boundary of an AC channel moves. -/
def SpwChan.core (x : SpwChan) : List Rat × Nat × Option Nat × Bool := (x.samples, x.count, x.synth, x.clip)

theorem SpwChan.core_of_unmarked (x y : SpwChan) (h : x.unmarked = y.unmarked) : x.core = y.core :=
  (congrArg SpwChan.core h :)

theorem SpwChan.core_of_unlost (x y : SpwChan) (h : x.unlost = y.unlost) : x.core = y.core :=
  (congrArg SpwChan.core h :)

/-- What its RMS values do not move either. -/
def SpwChan.cycling (x : SpwChan) : (List Rat × Nat × Option Nat × Bool) × Nat × Nat := (x.core, x.cycles, x.freq)

theorem SpwChan.cycling_of_unmarked (x y : SpwChan) (h : x.unmarked = y.unmarked) : x.cycling = y.cycling :=
  (congrArg SpwChan.cycling h :)

theorem SpwChan.cycling_of_unlost (x y : SpwChan) (h : x.unlost = y.unlost) : x.cycling = y.cycling :=
  (congrArg SpwChan.cycling h :)

theorem SpwChan.core_of_cycling (x y : SpwChan) (h : x.cycling = y.cycling) : x.core = y.core := congrArg Prod.fst h

/-! ## The boundaries of an AC channel -/

theorem State.spwUrms_cycling {s : State} {c : Nat} (hc : c < 8) (e : SupplyEntry) (q : Rat) :
    Probes c SpwChan.cycling s (s.spwUrms c e q) := by
  have shown : Probes c SpwChan.cycling s (s.spwPublish c (Nat.sqrt (q / 100).floor.toNat)) := .set hc rfl
  refine shown.trans (.ite (fun _ => ?_) fun _ => .refl _ c _)
  exact .ite (fun _ => (spwLost_lost hc false).1.map _ SpwChan.cycling_of_unlost) fun _ => .set hc rfl

theorem State.spwUrmsEvents_marks {s : State} {c : Nat} (hc : c < 8) (e : SupplyEntry) (q : Rat) :
    Probes c SpwChan.unmarked s (s.spwUrmsEvents c e q) :=
  ((spwLevel_marks hc _ _ _).trans (spwLevel_marks hc _ _ _)).trans (spwLevel_marks hc _ _ _)

/-- The frequency of a cycle between two crossings. -/
def SpwChan.freqFrom (x : SpwChan) (zero : Option Rat) : Option Rat :=
  match x.crossAt, zero with
  | some a, some b => if a < b then some (1000000 / (b - a)) else none
  | _, _ => none

/-- It is out of the tolerance of R317. -/
def SupplyEntry.freqOut (e : SupplyEntry) (f : Option Rat) : Bool :=
  match f with
  | none => false
  | some f => decide ((e.freqTol : Rat) / 100 < f - e.hz) || decide ((e.freqTol : Rat) / 100 < e.hz - f)

/-- A channel whose cycle has closed. -/
def SpwChan.cycled (x : SpwChan) (e : SupplyEntry) (zero : Option Rat) : SpwChan :=
  { x with
    offset := if x.cycles ≠ 0 ∧ x.cycN ≠ 0 then x.cycSum / (x.cycN : Rat) else x.offset
    cycSum := 0, cycN := 0, cycles := x.cycles + 1, crossAt := zero
    freq := match x.freqFrom zero with | none => 0 | some f => Min.min 65535 (f * 100).floor.toNat
    outRun := if (x.freqFrom zero).isNone then x.outRun else if e.freqOut (x.freqFrom zero) then x.outRun + 1 else 0
    inRun := if (x.freqFrom zero).isNone then x.inRun else if e.freqOut (x.freqFrom zero) then 0 else x.inRun + 1 }

/-- Acquisition ends with the eleventh cycle. -/
def State.acquiring (s : State) (c : Nat) (x : SpwChan) : State :=
  if x.acquire && decide (11 ≤ x.cycles) then s.spwAcquired c else s

theorem State.spwCycle_eq (s : State) (c : Nat) (e : SupplyEntry) (zero : Option Rat) : s.spwCycle c e zero =
    if ((s.spwChan c).freqFrom zero).isSome then
      ((s.setSpw c ((s.spwChan c).cycled e zero)).acquiring c ((s.spwChan c).cycled e zero)).spwLevel c evFreq
        (decide (3 ≤ ((s.spwChan c).cycled e zero).outRun)) (decide (3 ≤ ((s.spwChan c).cycled e zero).inRun))
    else (s.setSpw c ((s.spwChan c).cycled e zero)).acquiring c ((s.spwChan c).cycled e zero) := by
  unfold spwCycle acquiring SpwChan.cycled SpwChan.freqFrom SupplyEntry.freqOut
  rfl

theorem State.spwCycle_core {s : State} {c : Nat} (hc : c < 8) (e : SupplyEntry) (zero : Option Rat) :
    Probes c SpwChan.core s (s.spwCycle c e zero) := by
  have marks : ∀ {t u : State}, Probes c SpwChan.unmarked t u → Probes c SpwChan.core t u := fun h =>
    h.map _ SpwChan.core_of_unmarked
  rw [spwCycle_eq]
  have cycled : Probes c SpwChan.core s (s.setSpw c ((s.spwChan c).cycled e zero)) := .set hc rfl
  have acquired := cycled.trans (u := (s.setSpw c ((s.spwChan c).cycled e zero)).acquiring c ((s.spwChan c).cycled e zero))
    (.ite (fun _ => marks (spwAcquired_marks hc)) fun _ => .refl _ c _)
  exact acquired.trans (.ite (fun _ => marks (spwLevel_marks hc _ _ _)) fun _ => .refl _ c _)

/-- A boundary up to its cycle. -/
def State.spwHalf (s : State) (c : Nat) (e : SupplyEntry) : State :=
  let u := (s.spwChan c).urms2 (periodLen e.hz s.spwStep)
  let s := s.setSpw c (s.spwChan c).newHalf
  match u with | none => s | some q => s.spwUrms c e q

theorem State.spwHalf_cycling {s : State} {c : Nat} (hc : c < 8) (e : SupplyEntry) :
    Probes c SpwChan.cycling s (s.spwHalf c e) := by
  have half : Probes c SpwChan.cycling s (s.setSpw c (s.spwChan c).newHalf) := .set hc rfl
  unfold spwHalf
  cases (s.spwChan c).urms2 (periodLen e.hz s.spwStep) with
  | none => exact half
  | some q => exact half.trans (spwUrms_cycling hc e q)

/-- The events of a boundary's RMS value. -/
def State.spwTold (s : State) (c : Nat) (e : SupplyEntry) (u : Option Rat) : State :=
  match u with | none => s | some q => s.spwUrmsEvents c e q

theorem State.spwTold_marks {s : State} {c : Nat} (hc : c < 8) (e : SupplyEntry) (u : Option Rat) :
    Probes c SpwChan.unmarked s (s.spwTold c e u) := by
  cases u with
  | none => exact .refl s c _
  | some q => exact spwUrmsEvents_marks hc e q

theorem State.spwBoundary_eq (s : State) (c : Nat) (e : SupplyEntry) (cycle : Bool) (zero : Option Rat) :
    s.spwBoundary c e cycle zero = (if cycle then (s.spwHalf c e).spwCycle c e zero else s.spwHalf c e).spwTold c e
      ((s.spwChan c).urms2 (periodLen e.hz s.spwStep)) := rfl

theorem State.spwBoundary_core {s : State} {c : Nat} (hc : c < 8) (e : SupplyEntry) (cycle : Bool) (zero : Option Rat) :
    Probes c SpwChan.core s (s.spwBoundary c e cycle zero) := by
  have half := (s.spwHalf_cycling hc e).map _ SpwChan.core_of_cycling
  rw [spwBoundary_eq]
  refine Probes.trans (t := if cycle then (s.spwHalf c e).spwCycle c e zero else s.spwHalf c e)
    (Probes.ite (p := cycle = true) (fun _ => half.trans (spwCycle_core hc e zero)) fun _ => half) ?_
  exact (spwTold_marks hc e _).map _ SpwChan.core_of_unmarked

/-- A cycle that ends without a crossing has no frequency. -/
theorem State.spwCycle_missing {s : State} {c : Nat} (hc : c < 8) (e : SupplyEntry) :
    ((s.spwCycle c e none).spwChan c).cycles = (s.spwChan c).cycles + 1 ∧ ((s.spwCycle c e none).spwChan c).freq = 0 := by
  have no : (s.spwChan c).freqFrom none = none := by unfold SpwChan.freqFrom; cases (s.spwChan c).crossAt <;> rfl
  have marks : Probes c SpwChan.unmarked (s.setSpw c ((s.spwChan c).cycled e none)) (s.spwCycle c e none) := by
    rw [spwCycle_eq, no, if_neg (by decide)]
    unfold acquiring
    exact .ite (fun _ => spwAcquired_marks hc) fun _ => .refl _ c _
  have here : (s.setSpw c ((s.spwChan c).cycled e none)).spwChan c = (s.spwChan c).cycled e none :=
    (spwChan_setSpw hc _ c).trans (if_pos rfl)
  have cycles : ((s.spwCycle c e none).spwChan c).cycles = ((s.spwChan c).cycled e none).cycles :=
    (marks.map SpwChan.cycles fun _ _ h => (congrArg SpwChan.cycles h :)).same.trans (congrArg SpwChan.cycles here)
  have freq : ((s.spwCycle c e none).spwChan c).freq = ((s.spwChan c).cycled e none).freq :=
    (marks.map SpwChan.freq fun _ _ h => (congrArg SpwChan.freq h :)).same.trans (congrArg SpwChan.freq here)
  refine ⟨cycles, freq.trans ?_⟩
  unfold SpwChan.cycled
  rw [no]

theorem State.spwBoundary_missing {s : State} {c : Nat} (hc : c < 8) (e : SupplyEntry) :
    ((s.spwBoundary c e true none).spwChan c).cycles = (s.spwChan c).cycles + 1
      ∧ ((s.spwBoundary c e true none).spwChan c).freq = 0 := by
  have cycle := spwCycle_missing (s := s.spwHalf c e) hc e
  have half : ((s.spwHalf c e).spwChan c).cycles = (s.spwChan c).cycles := congrArg (·.2.1) (s.spwHalf_cycling hc e).same
  have told := ((s.spwHalf c e).spwCycle c e none).spwTold_marks hc e ((s.spwChan c).urms2 (periodLen e.hz s.spwStep))
  rw [spwBoundary_eq, if_pos rfl]
  exact ⟨(told.map SpwChan.cycles fun _ _ h => (congrArg SpwChan.cycles h :)).same.trans (cycle.1.trans (congrArg (· + 1) half)),
    (told.map SpwChan.freq fun _ _ h => (congrArg SpwChan.freq h :)).same.trans cycle.2⟩

/-! ## Samples -/

/-- A crossing moves neither the samples nor their number. -/
theorem State.spwCross_core {s : State} {c : Nat} (hc : c < 8) (e : SupplyEntry) (y : Rat) :
    Probes c (fun x => (x.samples, x.count, x.clip)) s (s.spwCross c e y) := by
  have bounds : ∀ (t : State) (b : Bool) (z : Option Rat),
      Probes c (fun x => (x.samples, x.count, x.clip)) t (t.spwBoundary c e b z) := fun t b z =>
    (t.spwBoundary_core hc e b z).map _ fun x y h => by
      have h1 := congrArg (·.1) h
      have h2 := congrArg (·.2.1) h
      have h3 := congrArg (·.2.2.2) h
      exact Prod.ext h1 (Prod.ext h2 h3)
  unfold spwCross
  exact .ite
    (fun _ => .after hc (.ite (fun _ => .after hc (bounds _ _ _)) fun _ => .refl _ c _))
    fun _ => .ite (fun _ => .after hc (.ite (fun _ => .after hc (bounds _ _ _)) fun _ => .refl _ c _))
      fun _ => .after hc (.refl _ c _)

/-- A DC channel with its next sample. -/
def SpwChan.taken (x : SpwChan) (v : Rat) (tick : Nat) : SpwChan :=
  { x with
    samples := (v :: x.samples).take 8, sampleAt := tick, count := x.count + 1
    v8s := (mean ((v :: x.samples).take 8) :: x.v8s).take 9
    winMin := some (match x.winMin with | none => v | some m => Min.min m v)
    winMax := some (match x.winMax with | none => v | some m => Max.max m v) }

/-- And with its slope. -/
def SpwChan.sampled (x : SpwChan) (v : Rat) (tick step : Nat) : SpwChan :=
  let x := x.taken v tick
  { x with slope := match x.slopeOf step with
    | none => 0
    | some r => Int.tdiv (r * 1000).num (r * 1000).den }

theorem SpwChan.v8_sampled (x : SpwChan) (v : Rat) (tick step : Nat) :
    (x.sampled v tick step).v8 = mean ((v :: x.samples).take 8) := rfl

/-- A DC channel once its sample and its level are in. -/
def State.dcShown (s : State) (c : Nat) (v : Rat) : State :=
  let x := (s.spwChan c).sampled v s.tick.toNat s.spwStep
  (s.setSpw c x).spwPublish c (tenths x.v8)

/-- And its LOST state follows. -/
def State.dcLost (s : State) (c : Nat) (e : SupplyEntry) (v : Rat) : State :=
  let v8 := mean ((v :: (s.spwChan c).samples).take 8)
  let t := s.dcShown c v
  if e.feed || e.bus then
    if v8 < mv e.warn then t.spwLost c true else if mv e.warn + mv e.hyst ≤ v8 then t.spwLost c false else t
  else t

/-- The rest of a DC sample marks events. -/
theorem State.spwDc_marks {s : State} {c : Nat} (hc : c < 8) (e : SupplyEntry) (v : Rat) :
    Probes c SpwChan.unmarked (s.dcLost c e v) (s.spwDc c e v) := by
  have acquires : ∀ (t : State) (p : Prop) [Decidable p], Probes c SpwChan.unmarked t (if p then t.spwAcquired c else t) :=
    fun t p _ => .ite (fun _ => spwAcquired_marks hc) fun _ => .refl t c _
  have levels := fun (t : State) (n : Nat) (a b : Bool) => t.spwLevel_marks hc n a b
  unfold spwDc
  exact .ite
    (fun _ => ((((acquires _ _).trans (levels _ _ _ _)).trans (levels _ _ _ _)).trans (levels _ _ _ _)).trans
      (spwTransient_marks hc))
    fun _ => (((acquires _ _).trans (levels _ _ _ _)).trans (levels _ _ _ _)).trans (levels _ _ _ _)

/-- What a DC sample leaves of its channel. -/
structure DcSampled (c : Nat) (v : Rat) (s t : State) : Prop where
  chats : Chats (s.setSpw c (t.spwChan c)) t
  count : (t.spwChan c).count = (s.spwChan c).count + 1
  level : (t.spwChan c).level = Min.min 65535 (tenths (mean ((v :: (s.spwChan c).samples).take 8)))
  clip : (t.spwChan c).clip = (s.spwChan c).clip

theorem State.dcShown_sampled {s : State} {c : Nat} (hc : c < 8) (v : Rat) : DcSampled c v s (s.dcShown c v) := by
  have shown : Probes c (fun x => x.clip) s (s.dcShown c v) := .after hc (.after hc (.refl _ c _) (by
    rw [(spwChan_setSpw hc _ c).trans (if_pos rfl)]))
  have here : (s.setSpw c ((s.spwChan c).sampled v s.tick.toNat s.spwStep)).spwChan c
      = (s.spwChan c).sampled v s.tick.toNat s.spwStep := (spwChan_setSpw hc _ c).trans (if_pos rfl)
  refine ⟨shown.chats, ?_, ?_, shown.same⟩
  · exact (congrArg SpwChan.count ((spwChan_setSpw hc _ c).trans (if_pos rfl))).trans (congrArg SpwChan.count here)
  · exact congrArg SpwChan.level ((spwChan_setSpw hc _ c).trans (if_pos rfl))

theorem DcSampled.then {α : Type} {c : Nat} {v : Rat} {π : SpwChan → α} {s t u : State} (h : DcSampled c v s t)
    (k : Probes c π t u) (hπ : ∀ x y, π x = π y → (x.count, x.level, x.clip) = (y.count, y.level, y.clip)) :
    DcSampled c v s u := by
  have first := h.chats.setSpw c (u.spwChan c)
  rw [State.setSpw_setSpw] at first
  have same := hπ _ _ k.same
  exact ⟨first.trans k.chats, (congrArg (·.1) same).trans h.count, (congrArg (·.2.1) same).trans h.level,
    (congrArg (·.2.2) same).trans h.clip⟩

theorem State.dcLost_sampled {s : State} {c : Nat} (hc : c < 8) (e : SupplyEntry) (v : Rat) :
    DcSampled c v s (s.dcLost c e v) := by
  have shown := s.dcShown_sampled hc v
  have lost : ∀ b, DcSampled c v s ((s.dcShown c v).spwLost c b) := fun b =>
    shown.then (spwLost_lost hc b).1 fun _ _ h => (congrArg (fun x => (x.count, x.level, x.clip)) h :)
  have either : ∀ (p : Prop) [Decidable p] (t u : State), DcSampled c v s t → DcSampled c v s u →
      DcSampled c v s (if p then t else u) := fun p _ t u h k => by
    split
    · exact h
    · exact k
  exact either _ _ _ (either _ _ _ (lost true) (either _ _ _ (lost false) shown)) shown

theorem State.spwDc_sampled {s : State} {c : Nat} (hc : c < 8) (e : SupplyEntry) (v : Rat) :
    DcSampled c v s (s.spwDc c e v) :=
  (s.dcLost_sampled hc e v).then (spwDc_marks hc e v) fun _ _ h =>
    (congrArg (fun x => (x.count, x.level, x.clip)) h :)

/-- A BUS channel whose V8 is below WARN is LOST. -/
theorem State.spwDc_lost {s : State} {c : Nat} (hc : c < 8) {e : SupplyEntry} {v : Rat} (bus : e.bus = true)
    (low : mean ((v :: (s.spwChan c).samples).take 8) < mv e.warn) : ((s.spwDc c e v).spwChan c).lost = true := by
  have lost : ((s.dcLost c e v).spwChan c).lost = true := by
    unfold dcLost
    simp only [bus, Bool.or_true, if_true, if_pos low]
    exact (spwLost_lost hc true).2
  exact ((spwDc_marks hc e v).map SpwChan.lost fun _ _ h => (congrArg SpwChan.lost h :)).same.trans lost

/-- What an AC sample leaves of its channel. -/
structure AcSampled (c : Nat) (v : Rat) (s t : State) : Prop where
  chats : Chats (s.setSpw c (t.spwChan c)) t
  count : (t.spwChan c).count = (s.spwChan c).count + 1
  head : (t.spwChan c).samples.head? = some (v - (s.spwChan c).offset)

/-- An AC channel with its next sample. -/
def SpwChan.acTaken (x : SpwChan) (y v : Rat) (n tick : Nat) : SpwChan :=
  { x with
    samples := (y :: x.samples).take (n + 1), sampleAt := tick, count := x.count + 1
    cycSum := x.cycSum + v, cycN := x.cycN + 1, halfSq := x.halfSq + y * y, halfN := x.halfN + 1 }

/-- The block once an AC sample is in. -/
def State.acTaken (s : State) (c : Nat) (e : SupplyEntry) (v : Rat) : State :=
  let y := v - (s.spwChan c).offset
  let t := s.spwCross c e y
  t.setSpw c ((t.spwChan c).acTaken y v (periodLen e.hz t.spwStep) t.tick.toNat)

theorem State.acTaken_sampled {s : State} {c : Nat} (hc : c < 8) (e : SupplyEntry) (v : Rat) :
    AcSampled c v s (s.acTaken c e v) := by
  have cross := s.spwCross_core hc e (v - (s.spwChan c).offset)
  have here : (s.acTaken c e v).spwChan c = ((s.spwCross c e (v - (s.spwChan c).offset)).spwChan c).acTaken
      (v - (s.spwChan c).offset) v (periodLen e.hz (s.spwCross c e (v - (s.spwChan c).offset)).spwStep)
      (s.spwCross c e (v - (s.spwChan c).offset)).tick.toNat := (spwChan_setSpw hc _ c).trans (if_pos rfl)
  have first := cross.chats.setSpw c ((s.acTaken c e v).spwChan c)
  rw [setSpw_setSpw] at first
  refine ⟨?_, ?_, ?_⟩
  · have : s.acTaken c e v
        = (s.spwCross c e (v - (s.spwChan c).offset)).setSpw c ((s.acTaken c e v).spwChan c) := by
      rw [here]; rfl
    exact first.trans (this ▸ .refl _)
  · rw [here]
    exact congrArg (· + 1) (congrArg (·.2.1) cross.same)
  · rw [here]
    rfl

/-- The rest of an AC sample. -/
theorem State.spwAc_core {s : State} {c : Nat} (hc : c < 8) (e : SupplyEntry) (v : Rat) :
    Probes c SpwChan.core (s.acTaken c e v) (s.spwAc c e v) := by
  have fast : ∀ (t : State) (q : Option Rat), Probes c SpwChan.core t
      (match q with
      | none => t
      | some q => if e.feed && rmsBelow q (mv e.warn) then t.spwLost c true else t) := fun t q => by
    cases q with
    | none => exact .refl t c _
    | some q => exact .ite (fun _ => (spwLost_lost hc true).1.map _ SpwChan.core_of_unlost) fun _ => .refl t c _
  unfold spwAc
  exact .ite (fun _ => (fast _ _).trans ((spwTransient_marks hc).map _ SpwChan.core_of_unmarked)) fun _ => fast _ _

theorem State.spwAc_sampled {s : State} {c : Nat} (hc : c < 8) (e : SupplyEntry) (v : Rat) :
    AcSampled c v s (s.spwAc c e v) := by
  have taken := s.acTaken_sampled hc e v
  have rest := s.spwAc_core hc e v
  have first := taken.chats.setSpw c ((s.spwAc c e v).spwChan c)
  rw [setSpw_setSpw] at first
  exact ⟨first.trans rest.chats, (congrArg (·.2.1) rest.same).trans taken.count,
    (congrArg (fun x => x.1.head?) rest.same).trans taken.head⟩

/-! ## EARLY_WARNING -/

/-- The block once these needs of commits are withdrawn. -/
def State.withoutBinds (s : State) (l : List Need) : State :=
  l.foldl (fun s n => match n with | .bind p i r => s.bindEnded p i r false | _ => s)
    { s with ldr := { s.ldr with needs := s.ldr.needs.filter fun n => !l.contains n } }

theorem State.withdrawBinds_none {s : State} (none : s.noBind) : s.withdrawBinds = s := by
  have binds : (s.ldr.needs.filter fun n => match n with | .bind _ _ _ => true | _ => false) = [] :=
    filter_none fun n hn => by
      cases n with
      | bind p i r => exact absurd hn (none p i r)
      | _ => rfl
  have all : (s.ldr.needs.filter fun n => !([] : List Need).contains n) = s.ldr.needs := List.filter_eq_self.2 fun _ _ => rfl
  refine (congrArg s.withoutBinds binds).trans ?_
  exact congrArg (fun l => { s with ldr := { s.ldr with needs := l } }) all

/-- Supply Watch with its prediction and its warning. -/
def State.withSpw (s : State) (x : Supply) : State := { s with spw := x }

theorem State.withSpw_keeps (s : State) (x : Supply) : KeepsBut [.spw] s (s.withSpw x) :=
  keepsBut_of_restore (by cases s; rfl)

/-- What the warning leaves of the channels and the conversions. -/
structure Warned (s t : State) : Prop where
  keeps : KeepsBut (.spw :: .msp :: talkParts) s t
  chans : t.spw.chans = s.spw.chans
  next : t.spw.next = s.spw.next
  last : t.spw.lastConv = s.spw.lastConv


/-- The warning as it rises, before its event. -/
def State.warning (s : State) : State :=
  ((s.withSpw { s.spw with clearAt := none, early := true, rises := satInc s.spw.rises, lastRise := s.tick }).raise
    .earlyWarning).attend 2

theorem State.warn_rise {s : State} (cause : (s.feedCause || s.busCause) = true) (calm : s.spw.early = false)
    (none : s.noBind) : ∃ body, s.warn = s.warning.report 2 body := by
  refine ⟨supplyBody 0xFF 0xFF 1 s.predUs, ?_⟩
  have early : ¬ (s.spw.early = true) := by rw [calm]; decide
  have ldr : (s.warning.report 2 (supplyBody 0xFF 0xFF 1 s.predUs)).ldr = s.ldr := by
    have same := (State.report_chats s.warning 2 (supplyBody 0xFF 0xFF 1 s.predUs)).ldr
    refine same.trans ((State.attend_ldr _ 2).trans ?_)
    exact (State.raise_chats _ _).ldr
  have free : (s.warning.report 2 (supplyBody 0xFF 0xFF 1 s.predUs)).noBind := by unfold noBind; rw [ldr]; exact none
  refine Eq.trans ?_ (withdrawBinds_none free)
  unfold warn
  exact (if_pos cause).trans (if_neg early)

theorem State.warning_keeps (s : State) : KeepsBut (.spw :: .msp :: talkParts) s s.warning :=
  (((s.withSpw_keeps _).within.also (State.raise_chats _ _).keeps).also (State.attend_keeps _ _))

theorem State.warning_spw (s : State) : s.warning.spw
    = { s.spw with clearAt := none, early := true, rises := satInc s.spw.rises, lastRise := s.tick } := by
  exact (State.attend_spw _ 2).trans (State.raise_chats _ _).spw

theorem State.warn_warned {s : State} (none : s.noBind) : Warned s s.warn := by
  by_cases cause : (s.feedCause || s.busCause) = true
  · cases calm : s.spw.early with
    | false =>
      obtain ⟨body, eq⟩ := warn_rise cause calm none
      have told := State.report_chats s.warning 2 body
      rw [eq]
      refine ⟨s.warning_keeps.also told.keeps, ?_, ?_, ?_⟩ <;> rw [told.spw, warning_spw]
    | true =>
      have eq : s.warn = s.withSpw { s.spw with clearAt := .none } := by
        unfold warn
        exact (if_pos cause).trans (if_pos calm)
      rw [eq]
      exact ⟨(s.withSpw_keeps _).within, rfl, rfl, rfl⟩
  · have eq : s.warn = if s.spw.early && s.spw.clearAt.isNone then s.withSpw { s.spw with clearAt := some (s.tick + 10000) }
        else s := by
      unfold warn
      exact if_neg cause
    rw [eq]
    split
    · exact ⟨(s.withSpw_keeps _).within, rfl, rfl, rfl⟩
    · exact ⟨.refl _ s, rfl, rfl, rfl⟩

/-- The prediction before the warning. -/
def State.predicted (s : State) (e : SupplyEntry) : State :=
  if e.feed || e.bus then s.withSpw { s.spw with pred := s.predict } else s

theorem State.predictWarn_warned {s : State} (none : s.noBind) (e : SupplyEntry) : Warned s (s.predictWarn e) := by
  have shape : s.predictWarn e = (s.predicted e).warn := rfl
  have free : (s.predicted e).noBind := by unfold predicted; split <;> exact none
  have pred : Warned s (s.predicted e) := by
    unfold predicted
    split
    · exact ⟨(s.withSpw_keeps _).within, rfl, rfl, rfl⟩
    · exact ⟨.refl _ s, rfl, rfl, rfl⟩
  have warned := warn_warned free
  rw [shape]
  exact ⟨pred.keeps.trans warned.keeps, warned.chans.trans pred.chans, warned.next.trans pred.next,
    warned.last.trans pred.last⟩

/-- A BUS channel that is LOST raises the warning. -/
structure Rises (s t : State) : Prop where
  early : t.spw.early = true
  rises : t.spw.rises = satInc s.spw.rises
  last : t.spw.lastRise = s.tick
  told : s.stepDone 1 = true → t.irqStat.getLsbD 4 = true ∧ t.msp.attn.getLsbD 2 = true

theorem State.predictWarn_rises {s : State} (none : s.noBind) (e : SupplyEntry) (cause : s.busCause = true)
    (calm : s.spw.early = false) : Rises s (s.predictWarn e) := by
  have shape : s.predictWarn e = (s.predicted e).warn := rfl
  obtain ⟨body, eq⟩ : ∃ body, (s.predicted e).warn = (s.predicted e).warning.report 2 body := by
    refine warn_rise ?_ ?_ ?_
    · have : (s.predicted e).busCause = s.busCause := by unfold predicted; split <;> rfl
      rw [this, cause, Bool.or_true]
    · unfold predicted; split <;> exact calm
    · unfold predicted; split <;> exact none
  have told := State.report_chats (s.predicted e).warning 2 body
  have spw := told.spw.trans (State.warning_spw _)
  have rises : (s.predicted e).spw.rises = s.spw.rises := by unfold predicted; split <;> rfl
  have tick : (s.predicted e).tick = s.tick := by unfold predicted; split <;> rfl
  rw [shape, eq]
  refine ⟨congrArg Supply.early spw, (congrArg Supply.rises spw).trans (congrArg satInc rises),
    (congrArg Supply.lastRise spw).trans tick, fun one => ⟨told.irq 4 ?_, ?_⟩⟩
  · have : (s.predicted e).stepDone 1 = true := by unfold predicted; split <;> exact one
    unfold warning
    rw [State.attend_irqStat]
    exact State.raise_bit .earlyWarning this
  · have : ((s.predicted e).withSpw { (s.predicted e).spw with
        clearAt := .none, early := true, rises := satInc (s.predicted e).spw.rises,
        lastRise := (s.predicted e).tick }).stepDone 1 = true := by
      unfold predicted; split <;> exact one
    have raised := ((State.raise_chats ((s.predicted e).withSpw { (s.predicted e).spw with
        clearAt := .none, early := true, rises := satInc (s.predicted e).spw.rises,
        lastRise := (s.predicted e).tick }) .earlyWarning).stepDone 1).trans this
    rw [told.msp]
    unfold warning attend
    rw [if_pos raised]
    exact (getLsbD_setBit _ 2 2 true).trans (if_pos (by decide))

/-! ## Conversions -/

theorem State.spwNext_lt {s : State} {c : Nat} (h : s.spwNext = some c) : c < 8 := by
  have on : c ∈ s.spwOn := by
    unfold spwNext at h
    split at h
    · next d found => exact Option.some.inj h ▸ List.mem_of_find?_eq_some found
    · exact List.mem_of_head? h
  exact List.mem_range.1 (List.mem_filter.1 on).1

/-- The block as a conversion samples channel `c`. -/
def State.converting (s : State) (nv c : Nat) : State :=
  let s := s.withSpw { s.spw with next := c + 1, lastConv := some s.tick }
  s.setSpw c { s.spwChan c with clip := spwCode nv == 0 || spwCode nv == 16383 }

theorem State.spwChan_converting {s : State} {c : Nat} (hc : c < 8) (nv : Nat) : (s.converting nv c).spwChan c =
    { s.spwChan c with clip := spwCode nv == 0 || spwCode nv == 16383 } := (spwChan_setSpw hc _ c).trans (if_pos rfl)

theorem State.convert_eq {s : State} {nv c : Nat} {e : SupplyEntry} (on : s.spw.running = true)
    (due : s.spw.lastConv ≠ some s.tick) (next : s.spwNext = some c) (entry : s.supplyEntry c = some e) :
    s.convert nv = State.predictWarn (if e.ac then (s.converting nv c).spwAc c e (supplyMv (spwCode nv) e.scale)
      else (s.converting nv c).spwDc c e (supplyMv (spwCode nv) e.scale)) e := by
  have waits : (s.spw.lastConv == some s.tick) = false := beq_false_of_ne due
  have goes : ¬ ((!s.spw.running || s.spw.lastConv == some s.tick) = true) := by rw [on, waits]; decide
  unfold convert
  rw [if_neg goes, next]
  simp only [entry]
  rfl

/-- What a conversion leaves beside its channel's own values. -/
structure Converted (c : Nat) (s t u : State) : Prop where
  keeps : KeepsBut (.spw :: .msp :: talkParts) s u
  next : u.spw.next = c + 1
  last : u.spw.lastConv = some s.tick
  chan : ∀ d, u.spwChan d = t.spwChan d
  other : ∀ d, d ≠ c → u.spwChan d = s.spwChan d

theorem State.converting_warned {s t : State} {nv c : Nat} (hc : c < 8) (none : s.noBind) (e : SupplyEntry)
    (h : Chats ((s.converting nv c).setSpw c (t.spwChan c)) t) : Converted c s t (t.predictWarn e) := by
  have free : t.noBind := by
    have ldr : t.ldr = s.ldr := h.ldr
    unfold noBind
    rw [ldr]
    exact none
  have warned := predictWarn_warned free e
  have chan : ∀ d, (t.predictWarn e).spwChan d = t.spwChan d := fun d =>
    congrArg (vecGet SpwChan.start · d) warned.chans
  have moved : KeepsBut [.spw] s ((s.converting nv c).setSpw c (t.spwChan c)) :=
    ((s.withSpw_keeps _).also (State.setSpw_keeps _ c _)).also (State.setSpw_keeps _ c _)
  refine ⟨(moved.within.also h.keeps).also warned.keeps, warned.next.trans (congrArg Supply.next h.spw),
    warned.last.trans (congrArg Supply.lastConv h.spw), chan, fun d hd => ?_⟩
  have same := congrArg (fun p : Supply => vecGet SpwChan.start p.chans d) h.spw
  exact (chan d).trans (same.trans (((spwChan_setSpw hc _ d).trans (if_neg hd)).trans ((spwChan_setSpw hc _ d).trans (if_neg hd))))

/-! ## The ends of waits -/

/-- Completions, messages and events leave a quiet block quiet. -/
theorem Chats.quiet {s t : State} (h : Chats s t) (quiet : s.quiet) : t.quiet :=
  quiet_congr quiet h.ops h.ports (congrArg _ h.rcp) (congrArg _ h.rcp) (congrArg _ h.life) (congrArg _ h.life)
    (congrArg _ h.cnt) (congrArg _ h.cnt) (congrArg _ h.cnt) (congrArg _ h.glz) (congrArg _ h.glz) (congrArg _ h.glz)
    (congrArg _ h.ldr)

/-- EARLY_WARNING falls with nothing deferred. -/
theorem State.warnEnd_falls {s : State} {u : BitVec 64} (early : s.spw.early = true) (clears : s.spw.clearAt = some u)
    (past : u ≤ s.tick) (calm : s.mod.snapDeferred = false) (idle : s.cnt.compaction = .none) :
    Chats (s.withSpw { s.spw with early := false, clearAt := none }) s.warnEnd := by
  have told := State.report_chats (s.withSpw { s.spw with early := false, clearAt := none }) 2
    (supplyBody 0xFF 0xFF 0 (s.withSpw { s.spw with early := false, clearAt := none }).predUs)
  have eq : s.warnEnd = (s.withSpw { s.spw with early := false, clearAt := none }).report 2
      (supplyBody 0xFF 0xFF 0 (s.withSpw { s.spw with early := false, clearAt := none }).predUs) := by
    unfold warnEnd
    simp only [clears, early, decide_eq_true past, Bool.and_self, if_true]
    have waits : (State.report (s.withSpw { s.spw with early := false, clearAt := none }) 2
        (supplyBody 0xFF 0xFF 0 (s.withSpw { s.spw with early := false, clearAt := none }).predUs)).mod.snapDeferred
          = false := (congrArg Mod.snapDeferred told.mod).trans calm
    have noMore : (State.report (s.withSpw { s.spw with early := false, clearAt := none }) 2
        (supplyBody 0xFF 0xFF 0 (s.withSpw { s.spw with early := false, clearAt := none }).predUs)).cnt.compaction
          = .none := (congrArg Counters.compaction told.cnt).trans idle
    have resumes : ∀ t : State, t.mod.snapDeferred = false → t.cnt.compaction = .none →
        t.snapResume.resumeCompaction = t := fun t h k => by
      have : t.snapResume = t := if_neg (by rw [h]; decide)
      rw [this]
      unfold resumeCompaction
      rw [k]
    exact resumes _ waits noMore
  rw [eq]
  exact told

theorem State.transientEnd_ends {s : State} {c : Nat} {u : BitVec 64} (on : s.spw.running = true)
    (ends : (s.spwChan c).transEnd = some u) (past : u ≤ s.tick) :
    s.transientEnd c = (s.setSpw c { s.spwChan c with transEnd := none }).spwEdge c evTransient false := by
  unfold transientEnd
  simp only [ends, on, decide_eq_true past, Bool.and_self, if_true]

/-- A channel as its ripple window ends. -/
def State.rippled (s : State) (c : Nat) (r : Rat) : State :=
  (s.setSpw c { s.spwChan c with winMin := none, winMax := none, winWhole := true }).setSpw c
    { (s.setSpw c { s.spwChan c with winMin := none, winMax := none, winWhole := true }).spwChan c with
      ripple := Min.min 65535 (tenths r) }

theorem State.spwChan_rippled {s : State} {c : Nat} (hc : c < 8) (r : Rat) : (s.rippled c r).spwChan c =
    { s.spwChan c with winMin := none, winMax := none, winWhole := true, ripple := Min.min 65535 (tenths r) } := by
  unfold rippled
  rw [spwChan_setSpw hc, if_pos rfl, spwChan_setSpw hc, if_pos rfl]

theorem State.rippleEnd_whole {s : State} {c : Nat} {e : SupplyEntry} {lo hi : Rat} (on : s.spw.running = true)
    (entry : s.supplyEntry c = some e) (dc : e.ac = false) (now : s.tick.toNat % 1000 = 0)
    (whole : (s.spwChan c).winWhole = true) (least : (s.spwChan c).winMin = some lo)
    (most : (s.spwChan c).winMax = some hi) : s.rippleEnd c = (s.rippled c (hi - lo)).spwLevel c evRipple
      (decide (mv e.ripple < hi - lo)) (decide (hi - lo ≤ mv e.ripple - mv e.hyst)) := by
  unfold rippleEnd
  simp only [entry, on, dc, now, whole, least, most]
  rfl

theorem State.missingClose_first {s : State} {c : Nat} {e : SupplyEntry} (on : s.spw.running = true)
    (entry : s.supplyEntry c = some e) (ac : e.ac = true) (first : (s.spwChan c).synth = none)
    (past : 3000000 ≤ (s.tick - (s.spwChan c).lastCross).toNat * e.hz * 2) :
    s.missingClose c = ((s.setSpw c { s.spwChan c with synth := some 1, nominal := 3 }).spwBoundary c e true none).predictWarn
      e := by
  have late : ¬ ((s.tick - (s.spwChan c).lastCross).toNat * e.hz * 2 < (3 + 0) * 1000000) := by omega
  unfold missingClose
  simp only [entry, on, ac, first, decide_eq_false late, Bool.not_true, Bool.or_self, Bool.false_eq_true, if_false]
  rfl

/-! ## The statement -/

/-- A BUS channel of the recipe that is LOST is a cause. -/
theorem State.busCause_lost {s : State} {c : Nat} {e : SupplyEntry} (hc : c < 8) (entry : s.supplyEntry c = some e)
    (bus : e.bus = true) (lost : (s.spwChan c).lost = true) : s.busCause = true := by
  have on : c ∈ s.spwOn := List.mem_filter.2 ⟨List.mem_range.2 hc, by rw [entry]; rfl⟩
  have mine : (c, e) ∈ s.spwBuses := List.mem_filterMap.2 ⟨c, on, by simp only [entry, bus, if_true]⟩
  exact List.any_eq_true.2 ⟨(c, e), mine, lost⟩

theorem State.settle_spwChan (old t : State) (c : Nat) : (settle old t).spwChan c = t.spwChan c := by
  unfold spwChan
  rw [settle_spw]

/-- Settles O54: each command moves its channel by one sample, boundary or window, and the warning follows. -/
theorem supplyWatch : Obligations.SupplyWatch := by
  unfold Obligations.SupplyWatch
  refine ⟨fun s nv c e running on due next entry dc none => ?_, fun s nv c e running on due next entry ac none => ?_,
    fun s nv running waits => ?_, fun s nv c e running on due next entry dc bus low calm none => ?_,
    fun s u running quiet early clears past calm idle => ?_, fun s c u running on hc ends past => ?_,
    fun s c e lo hi running on hc entry dc now whole least most => ?_,
    fun s c e running on hc entry ac first none past => ?_⟩
  · have hc := State.spwNext_lt next
    have sampled := (s.converting nv c).spwDc_sampled hc e (supplyMv (spwCode nv) e.scale)
    have converted := State.converting_warned hc none e sampled.chats
    have eq : s.convert nv = _ := (State.convert_eq on due next entry).trans
      (congrArg (State.predictWarn · e) (if_neg (by rw [dc]; decide)))
    have was := s.spwChan_converting hc nv
    refine runs_clock (fun s => s.convert nv) rfl running _ eq converted.keeps ?_
    simp only [settle_spw, State.settle_spwChan, converted.chan c, sampled.count, sampled.level, sampled.clip, was]
    exact ⟨converted.next, converted.last, True.intro, True.intro, True.intro, converted.other⟩
  · have hc := State.spwNext_lt next
    have sampled := (s.converting nv c).spwAc_sampled hc e (supplyMv (spwCode nv) e.scale)
    have converted := State.converting_warned hc none e sampled.chats
    have eq : s.convert nv = _ := (State.convert_eq on due next entry).trans
      (congrArg (State.predictWarn · e) (if_pos ac))
    have was := s.spwChan_converting hc nv
    refine runs_clock (fun s => s.convert nv) rfl running _ eq converted.keeps ?_
    simp only [settle_spw, State.settle_spwChan, converted.chan c, sampled.count, sampled.head, was]
    exact ⟨converted.next, converted.last, True.intro, True.intro, converted.other⟩
  · have rests : (!s.spw.running || s.spw.lastConv == some s.tick) = true := by
      rcases waits with off | now
      · rw [off]; rfl
      · rw [now]; simp
    refine runs_clock (fun s => s.convert nv) rfl running s ?_ (.refl _ s) (settle_spw ..)
    unfold State.convert
    exact if_pos rests
  · have hc := State.spwNext_lt next
    have sampled := (s.converting nv c).spwDc_sampled hc e (supplyMv (spwCode nv) e.scale)
    have converted := State.converting_warned hc none e sampled.chats
    have eq : s.convert nv = _ := (State.convert_eq on due next entry).trans
      (congrArg (State.predictWarn · e) (if_neg (by rw [dc]; decide)))
    have lost : (((s.converting nv c).spwDc c e (supplyMv (spwCode nv) e.scale)).spwChan c).lost = true := by
      refine State.spwDc_lost hc bus ?_
      rw [s.spwChan_converting hc nv]
      exact low
    have free : ((s.converting nv c).spwDc c e (supplyMv (spwCode nv) e.scale)).noBind := by
      have ldr : ((s.converting nv c).spwDc c e (supplyMv (spwCode nv) e.scale)).ldr = s.ldr := sampled.chats.ldr
      unfold State.noBind
      rw [ldr]
      exact none
    have cause : ((s.converting nv c).spwDc c e (supplyMv (spwCode nv) e.scale)).busCause = true := by
      refine State.busCause_lost hc ?_ bus lost
      have rcp : ((s.converting nv c).spwDc c e (supplyMv (spwCode nv) e.scale)).rcp = s.rcp := sampled.chats.rcp
      unfold State.supplyEntry at entry ⊢
      rw [rcp]
      exact entry
    have rises := State.predictWarn_rises free e cause ((congrArg Supply.early sampled.chats.spw).trans calm)
    refine runs_clock (fun s => s.convert nv) rfl running _ eq converted.keeps ?_
    rw [State.settle_spwChan, settle_spw, settle_irqStat, settle_msp, converted.chan c]
    refine ⟨lost, rises.early, rises.rises.trans (congrArg (fun p : Supply => satInc p.rises) sampled.chats.spw :),
      rises.last.trans sampled.chats.tick, fun one => rises.told ?_⟩
    exact (sampled.chats.stepDone 1).trans one
  · have falls := State.warnEnd_falls early clears past calm idle
    refine runs_react State.warnEnd rfl running _ rfl (falls.quiet (quiet_congr quiet))
      ((s.withSpw_keeps _).within.also falls.keeps) ?_
    rw [settle_spw]
    exact falls.spw
  · have edge := State.spwEdge_marks (s := s.setSpw c { s.spwChan c with transEnd := none }) hc evTransient false
    have here : (s.setSpw c { s.spwChan c with transEnd := none }).spwChan c = { s.spwChan c with transEnd := none } :=
      (State.spwChan_setSpw hc _ c).trans (if_pos rfl)
    refine runs_clock (fun s => s.transientEnd c) rfl running _ (State.transientEnd_ends on ends past)
      ((s.setSpw_keeps c _).within.also edge.keeps) ?_
    simp only [State.settle_spwChan]
    refine ⟨?_, fun d hd => (edge.other hc hd).trans ((State.spwChan_setSpw hc _ d).trans (if_neg hd))⟩
    rw [State.spwChan_spwEdge hc, here]
    rfl
  · have was := s.spwChan_rippled hc (hi - lo)
    have level := (s.rippled c (hi - lo)).spwLevel_marks hc evRipple (decide (mv e.ripple < hi - lo))
      (decide (hi - lo ≤ mv e.ripple - mv e.hyst))
    have kept : KeepsBut [.spw] s (s.rippled c (hi - lo)) := (s.setSpw_keeps c _).also (State.setSpw_keeps _ c _)
    have stays := (level.map (fun x => (x.ripple, x.winMin, x.winMax)) fun _ _ h =>
      (congrArg (fun x => (x.ripple, x.winMin, x.winMax)) h :)).same
    rw [was] at stays
    refine runs_clock (fun s => s.rippleEnd c) rfl running _ (State.rippleEnd_whole on entry dc now whole least most)
      (kept.within.also level.keeps) ?_
    rw [State.settle_spwChan]
    refine ⟨congrArg (·.1) stays, congrArg (·.2.1) stays, congrArg (·.2.2) stays, fun high calm off => ?_⟩
    have clear : ¬ (((s.rippled c (hi - lo)).spwChan c).events.getLsbD evRipple = true) := by
      rw [was]
      exact fun h => Bool.false_ne_true (off.symm.trans h)
    have begins : (decide (mv e.ripple < hi - lo) && !((s.rippled c (hi - lo)).spwChan c).acquire) = true := by
      rw [was, decide_eq_true high]
      exact congrArg (!·) calm
    have eq : (s.rippled c (hi - lo)).spwLevel c evRipple (decide (mv e.ripple < hi - lo))
        (decide (hi - lo ≤ mv e.ripple - mv e.hyst)) = (s.rippled c (hi - lo)).spwEdge c evRipple true :=
      (if_neg clear).trans (if_pos begins)
    rw [eq, State.spwChan_spwEdge hc]
    exact (getLsbD_setBit _ 7 7 true).trans (if_pos (by decide))
  · have bound := State.spwBoundary_core (s := s.setSpw c { s.spwChan c with synth := some 1, nominal := 3 }) hc e true
      .none
    have closes := State.spwBoundary_missing (s := s.setSpw c { s.spwChan c with synth := some 1, nominal := 3 }) hc e
    have here : (s.setSpw c { s.spwChan c with synth := some 1, nominal := 3 }).spwChan c
        = { s.spwChan c with synth := some 1, nominal := 3 } := (State.spwChan_setSpw hc _ c).trans (if_pos rfl)
    have free : ((s.setSpw c { s.spwChan c with synth := some 1, nominal := 3 }).spwBoundary c e true .none).noBind := by
      unfold State.noBind
      rw [show _ = s.ldr from bound.chats.ldr]
      exact none
    have warned := State.predictWarn_warned free e
    have chan := congrArg (vecGet SpwChan.start · c) warned.chans
    rw [here] at closes
    refine runs_clock (fun s => s.missingClose c) rfl running _ (State.missingClose_first on entry ac first past)
      ((KeepsBut.within (s.setSpw_keeps c _)).also bound.keeps |>.also warned.keeps) ?_
    rw [State.settle_spwChan]
    refine ⟨(congrArg SpwChan.synth chan).trans ((congrArg (·.2.2.1) bound.same).trans (congrArg SpwChan.synth here)),
      (congrArg SpwChan.cycles chan).trans closes.1, (congrArg SpwChan.freq chan).trans closes.2⟩

end Sys2Proof.Machine
end

section
/-! PROOF. COMMIT_ENTRY_VALID, and why the value it commits need not show at once: while a held completion carries a COUNT of
the same counter, the counter shows the highest of the counts that have been shown (R31, R453). -/

namespace Sys2Proof.Machine

open Sys2Proof.Tests

/-- An INCREMENT of global counter 0 to 6, whose COUNT 9 is what shows and stands in a held completion too. -/
def countHolds : State :=
  let s := committing 0x11 262144 1 2 6
  { s with
    sch := { s.sch with held := [⟨0, desc 0x11, .ok, [], none, true, some (262144, 9)⟩] }
    cnt := { s.cnt with visible := [(262144, 9)] } }

theorem countHolds_quiet : countHolds.quiet := (quiet_iff _).2 (by decide +kernel)

theorem exec_commitEntryValid_countHolds :
    exec .commitEntryValid countHolds = .next (settle countHolds countHolds.commitValid.react) :=
  reacting_next State.commitValid rfl

/-- The count that shows stays 9. -/
theorem countHolds_visible : countHolds.commitValid.react.cnt.visible = [(262144, 9)] := by decide +kernel

/-- Refutes O29: its first clause has the committed value show, and here a held completion keeps a higher one. -/
theorem not_commitsComplete : ¬ Obligations.CommitsComplete := by
  rintro ⟨commits, -⟩
  obtain ⟨t, ran, -, post⟩ := commits countHolds (entry 262144 1 2 6) (commitAsk 262144 1 2 6) (commitOp 0x11 262144) rfl
    countHolds_quiet rfl rfl rfl (by decide +kernel) (by decide +kernel) rfl rfl rfl rfl (by decide +kernel)
  obtain ⟨-, -, -, -, -, -, shown, -⟩ := post
  obtain rfl : settle countHolds countHolds.commitValid.react = t :=
    Host.Outcome.next.inj (exec_commitEntryValid_countHolds.symm.trans ran)
  unfold State.visibleCount at shown
  rw [settle_cnt, countHolds_visible] at shown
  exact absurd shown (by decide +kernel)

end Sys2Proof.Machine
end

section
/-! PROOF. How host operations begin and end (R365, R369, R382–R384): the context that a descriptor takes, the operation that
holds it, the completion that frees it. -/

namespace Sys2Proof.Machine

/-! ## The descriptor in its context -/

theorem State.takeIn_keeps (s : State) (q : Nat) (h : Fetched) : KeepsBut [.queues, .sch] s (s.takeIn q h) := by
  have pop : KeepsBut [.queues] s (s.popHead q) := State.setQueue_keeps _ _ _
  have served : ∀ t : State, KeepsBut [.sch] t (t.servedLast q) := fun t => keepsBut_of_restore (by cases t; rfl)
  have moved : ∀ t : State, KeepsBut [.queues] t (t.countMoved q) := fun t => State.setQueue_keeps _ _ _
  have held : ∀ (t : State) (o : Op), KeepsBut [.sch] t (t.withOp o) := fun t o => keepsBut_of_restore (by cases t; rfl)
  have peak : ∀ t : State, KeepsBut [.sch] t t.peaks := fun t => keepsBut_of_restore (by cases t; rfl)
  exact ((((pop.within.also (served _)).also (moved _)).also (held _ _)).also (peak _))

theorem State.takeIn_ops (s : State) (q : Nat) (h : Fetched) : (s.takeIn q h).sch.ops = s.sch.ops ++ [s.newOp q h] := rfl

/-- Everything else stays. -/
theorem State.takeIn_fields (s : State) (q : Nat) (h : Fetched) : { s.takeIn q h with que := s.que, sch := s.sch } = s := by
  simp only [takeIn, peaks, withOp, countMoved, servedLast, popHead, setQueue]

section
variable (s : State) (q : Nat) (h : Fetched)

@[simp] theorem State.takeIn_out : (s.takeIn q h).out = s.out := (congrArg State.out (s.takeIn_fields q h) :)
@[simp] theorem State.takeIn_mode : (s.takeIn q h).mode = s.mode := (congrArg State.mode (s.takeIn_fields q h) :)
@[simp] theorem State.takeIn_tick : (s.takeIn q h).tick = s.tick := (congrArg State.tick (s.takeIn_fields q h) :)
@[simp] theorem State.takeIn_mod : (s.takeIn q h).mod = s.mod := (congrArg State.mod (s.takeIn_fields q h) :)
@[simp] theorem State.takeIn_vig : (s.takeIn q h).vig = s.vig := (congrArg State.vig (s.takeIn_fields q h) :)
@[simp] theorem State.takeIn_otp : (s.takeIn q h).otp = s.otp := (congrArg State.otp (s.takeIn_fields q h) :)
@[simp] theorem State.takeIn_life : (s.takeIn q h).life = s.life := (congrArg State.life (s.takeIn_fields q h) :)
@[simp] theorem State.takeIn_rcp : (s.takeIn q h).rcp = s.rcp := (congrArg State.rcp (s.takeIn_fields q h) :)
@[simp] theorem State.takeIn_ports : (s.takeIn q h).ports = s.ports := (congrArg State.ports (s.takeIn_fields q h) :)
@[simp] theorem State.takeIn_prf : (s.takeIn q h).prf = s.prf := (congrArg State.prf (s.takeIn_fields q h) :)
@[simp] theorem State.takeIn_cnt : (s.takeIn q h).cnt = s.cnt := (congrArg State.cnt (s.takeIn_fields q h) :)
@[simp] theorem State.takeIn_spw : (s.takeIn q h).spw = s.spw := (congrArg State.spw (s.takeIn_fields q h) :)
@[simp] theorem State.takeIn_ldr : (s.takeIn q h).ldr = s.ldr := (congrArg State.ldr (s.takeIn_fields q h) :)
@[simp] theorem State.takeIn_glz : (s.takeIn q h).glz = s.glz := (congrArg State.glz (s.takeIn_fields q h) :)
@[simp] theorem State.takeIn_links : (s.takeIn q h).links = s.links := (congrArg State.links (s.takeIn_fields q h) :)

end

theorem State.takeIn_que (s : State) (q : Nat) (h : Fetched) :
    (s.takeIn q h).que = ((s.popHead q).countMoved q).que := rfl

/-- What a completion entry says of its queue. -/
theorem State.takeIn_queue (s : State) (q : Nat) (h : Fetched) : ((s.takeIn q h).queue q).write = (s.queue q).write
    ∧ ((s.takeIn q h).queue q).fetch = (s.queue q).fetch ∧ ((s.takeIn q h).queue q).phase = (s.queue q).phase := by
  have same : (s.takeIn q h).queue q = ((s.popHead q).countMoved q).queue q := by
    unfold queue
    rw [takeIn_que]
  rw [same]
  unfold countMoved popHead
  simp only [queue_setQueue_same, and_self]

/-- Of its queue's entry the next completion sees nothing of it. -/
theorem State.takeIn_entry (s : State) (q : Nat) (h : Fetched) (d : Desc) (st : Status) (r : Bytes) :
    (s.takeIn q h).entryOut q d st r = s.entryOut q d st r := by
  obtain ⟨write, fetch, phase⟩ := s.takeIn_queue q h
  unfold entryOut
  rw [write, fetch, phase, takeIn_tick]

/-- A descriptor that takes its context runs its operation, and nothing behind it is rejected. -/
theorem State.Takes.dispatch {s t : State} {q code : Nat} {h : Fetched} (k : s.Takes q code h) {f : Op → State → State}
    (eq : f (s.newOp q h) (s.takeIn q h) = t) (buf : (t.queue q).buf = (s.queue q).buf.drop 1) :
    s.dispatch q code f = t := by
  rw [dispatch_takes k, eq]
  exact rejectUnknown_known fun g hg => k.known g (List.mem_of_mem_drop (buf ▸ hg))

theorem State.Takes.free {s : State} {q code : Nat} {h : Fetched} (k : s.Takes q code h) : s.op s.freeCtx = none :=
  freeCtx_free k.room

/-- It is not past its deadline: that is one of the checks of R369. -/
theorem State.Takes.inTime {s : State} {q code : Nat} {h : Fetched} (k : s.Takes q code h) : s.isLate h.desc = false := by
  have passes := k.passes
  unfold refusal at passes
  split at passes
  · cases passes
  · split at passes
    · cases passes
    · next late => exact Bool.eq_false_iff.2 late

theorem State.Takes.formOk {s : State} {q code : Nat} {h : Fetched} (k : s.Takes q code h) :
    s.formRefusal q h.desc = none := by
  have passes := k.passes
  unfold refusal at passes
  split at passes
  · cases passes
  · next none => exact none

/-- Its fields are in range. -/
theorem State.Takes.wellFormed {s : State} {q code : Nat} {h : Fetched} (k : s.Takes q code h) :
    h.desc.wellFormed = true := by
  have form := k.formOk
  unfold formRefusal at form
  split at form
  · cases form
  · split at form
    · cases form
    · next ok => simpa using ok

/-! ## The operation that holds it -/

/-- The last operation is `o`, behind others in other contexts. -/
structure State.LastOp (l : List Op) (o : Op) (s : State) : Prop where
  ops : s.sch.ops = l ++ [o]
  others : ∀ x ∈ l, x.ctx ≠ o.ctx

theorem State.others_of_free {s : State} {c : Nat} (free : s.op c = none) : ∀ x ∈ s.sch.ops, x.ctx ≠ c := by
  intro x hx hc
  unfold op at free
  exact List.find?_eq_none.1 free x hx (by simpa using hc)

theorem State.newOp_ctx (s : State) (q : Nat) (h : Fetched) : (s.newOp q h).ctx = s.freeCtx := by
  simp only [newOp]

theorem State.Takes.runs {s : State} {q code : Nat} {h : Fetched} (k : s.Takes q code h) :
    State.LastOp s.sch.ops (s.newOp q h) (s.takeIn q h) :=
  ⟨s.takeIn_ops q h, by rw [newOp_ctx]; exact others_of_free k.free⟩

section
variable {l : List Op} {o : Op} {s : State}

theorem State.LastOp.op (h : State.LastOp l o s) : s.op o.ctx = some o := by
  unfold State.op
  rw [h.ops, List.find?_append, List.find?_eq_none.2 fun x hx => by simpa using h.others x hx]
  simp

/-- Another state of the operation. -/
theorem State.LastOp.setOp (h : State.LastOp l o s) {p : Op} (hp : p.ctx = o.ctx) : State.LastOp l p (s.setOp p) := by
  refine ⟨?_, fun x hx => hp ▸ h.others x hx⟩
  show s.sch.ops.map (fun x => if x.ctx = p.ctx then p else x) = l ++ [p]
  rw [h.ops, List.map_append, hp]
  congr 1
  · exact (List.map_congr_left fun x hx => if_neg (h.others x hx)).trans (List.map_id _)
  · simp

theorem State.LastOp.dropOp (h : State.LastOp l o s) : (s.dropOp o.ctx).sch.ops = l := by
  show s.sch.ops.filter (·.ctx != o.ctx) = l
  rw [h.ops, List.filter_append, List.filter_eq_self.2 fun x hx => by simpa using h.others x hx]
  simp

theorem State.LastOp.finishOp (h : State.LastOp l o s) (st : Status) (r : Bytes) (dma : Option Bytes) :
    s.finishOp o.ctx st r dma = (s.dropOp o.ctx).complete o.q o.desc st r dma true := by
  unfold State.finishOp
  rw [h.op]

theorem State.LastOp.endOp (h : State.LastOp l o s) (plain : o.committed = false) (st : Status) (r : Bytes)
    (dma : Option Bytes) : s.endOp o.ctx st r dma = (s.dropOp o.ctx).complete o.q o.desc st r dma true := by
  unfold State.endOp
  rw [h.op]
  simp only [plain, Bool.not_false, if_true, h.finishOp]

end

theorem State.setOp_keeps (s : State) (o : Op) : KeepsBut [.sch] s (s.setOp o) := keepsBut_of_restore (by cases s; rfl)

theorem State.dropOp_keeps (s : State) (c : Nat) : KeepsBut [.sch, .ldr] s (s.dropOp c) :=
  keepsBut_of_restore (by cases s; rfl)

/-! ## Its completion -/

/-- `t` is `u` after the operation that holds context `c` has completed. -/
structure Completed (s u : State) (q c : Nat) (h : Fetched) (st : Status) (r : Bytes) (dma : Option Bytes) (t : State) :
    Prop where
  chats : Chats (u.dropOp c) t
  ops : t.sch.ops = s.sch.ops
  entry : s.canMaster = true → s.entryOut q h.desc st r ∈ t.out
  data : s.canMaster = true → ∀ b, dma = some b → .dmaWrite h.desc.bufAddr b ∈ t.out
  buf : (t.queue q).buf = (u.queue q).buf

section
variable {s u t : State} {q c : Nat} {h : Fetched} {st : Status} {r : Bytes} {dma : Option Bytes}

/-- The operation completes in a state whose queues and links are those in which it began. -/
theorem State.LastOp.completed {o : Op} (k : State.LastOp s.sch.ops o u) (hq : o.q = q) (hd : o.desc = h.desc)
    (que : u.que = (s.takeIn q h).que) (tick : u.tick = s.tick) (links : u.links = s.links) (st : Status) (r : Bytes)
    (dma : Option Bytes) :
    Completed s u q o.ctx h st r dma ((u.dropOp o.ctx).complete o.q o.desc st r dma true) := by
  have queue : (u.dropOp o.ctx).queue q = (s.takeIn q h).queue q := by
    unfold State.queue
    exact congrArg (tabGet queueIdle · q) que
  have entry : (u.dropOp o.ctx).entryOut q h.desc st r = s.entryOut q h.desc st r := by
    rw [← s.takeIn_entry q h]
    unfold entryOut
    rw [queue, takeIn_tick, show (u.dropOp o.ctx).tick = s.tick from tick]
  have master : s.canMaster = true → (u.dropOp o.ctx).canMaster = true := fun m => by
    unfold canMaster at m ⊢
    rw [show (u.dropOp o.ctx).links = s.links from links]
    exact m
  have chats := State.complete_chats (u.dropOp o.ctx) o.q o.desc st r dma true
  refine ⟨chats, chats.ops.trans k.dropOp, fun m => ?_, fun m => ?_, ?_⟩
  · rw [← entry, hq, hd]
    exact (complete_sent (master m) q h.desc st r dma true).1
  · rw [hd]
    exact (complete_sent (master m) o.q h.desc st r dma true).2
  · have same : (u.dropOp o.ctx).que = u.que := rfl
    refine (complete_buf ..).trans ?_
    unfold State.queue
    rw [same]

theorem Completed.buffer (k : Completed s u q c h st r dma t) (que : u.que = (s.takeIn q h).que) :
    (t.queue q).buf = (s.queue q).buf.drop 1 := by
  refine k.buf.trans (Eq.trans ?_ (s.takeIn_buf q h))
  unfold State.queue
  rw [que]

theorem Completed.keeps (k : Completed s u q c h st r dma t) : KeepsBut opParts u t :=
  (u.dropOp_keeps c).within.also k.chats.keeps

theorem Completed.records (k : Completed s u q c h st r dma t) : t.ldr.records = u.ldr.records :=
  (congrArg Larder.records k.chats.ldr :)

/-- Dropping a context, as completing does, leaves what `quiet` looks at. -/
theorem Completed.quiet (k : Completed s u q c h st r dma t) (quiet : s.quiet) (ports : u.ports = s.ports)
    (rcp : u.rcp = s.rcp) (life : u.life = s.life) (cnt : u.cnt = s.cnt) (glz : u.glz = s.glz)
    (ldr : u.ldr.stalled = s.ldr.stalled) : t.quiet := by
  have rcp' : t.rcp = s.rcp := k.chats.rcp.trans rcp
  have life' : t.life = s.life := k.chats.life.trans life
  have cnt' : t.cnt = s.cnt := k.chats.cnt.trans cnt
  have glz' : t.glz = s.glz := k.chats.glz.trans glz
  exact quiet_congr quiet k.ops (k.chats.ports.trans ports) (congrArg _ rcp') (congrArg _ rcp') (congrArg _ life')
    (congrArg _ life') (congrArg _ cnt') (congrArg _ cnt') (congrArg _ cnt') (congrArg _ glz') (congrArg _ glz')
    (congrArg _ glz') ((congrArg _ k.chats.ldr).trans ldr)

end

/-! ## Refusals (R369) -/

/-- A descriptor that fails a check completes as it leaves the buffer. -/
def State.refused (s : State) (q : Nat) (d : Desc) (st : Status) : State :=
  ((s.popHead q).servedLast q).complete q d st [] none false

theorem State.refused_buf (s : State) (q : Nat) (d : Desc) (st : Status) :
    ((s.refused q d st).queue q).buf = (s.queue q).buf.drop 1 := by
  have que : ((s.popHead q).servedLast q).que = (s.popHead q).que := rfl
  refine (complete_buf ..).trans ?_
  unfold queue
  rw [que]
  exact congrArg Queue.buf (queue_setQueue_same s q _)

theorem State.dispatch_refused {s : State} {q code : Nat} {h : Fetched} {st : Status} (f : Op → State → State)
    (head : (s.queue q).buf.head? = some h) (opcode : h.desc.opcode = code) (wins : s.winner = some q)
    (room : s.hostUsed < 3584) (known : ∀ f ∈ (s.queue q).buf, opcodeClass f.desc.opcode ≠ none)
    (refuses : s.refusal q h.desc = some st) :
    s.dispatch q code f = s.refused q h.desc st := by
  have gone := s.refused_buf q h.desc st
  have rest : (s.refused q h.desc st).rejectUnknown q = s.refused q h.desc st :=
    rejectUnknown_known fun g hg => known g (List.mem_of_mem_drop (gone ▸ hg))
  refine Eq.trans ?_ rest
  unfold dispatch
  cases hb : (s.queue q).buf with
  | nil => rw [hb] at head; cases head
  | cons x l =>
    obtain rfl : x = h := by rw [hb] at head; exact Option.some.inj head
    have goes : ¬ (x.desc.opcode ≠ code ∨ (s.queueClass q ≠ 6 ∧ (s.winner ≠ some q ∨ 3584 ≤ s.hostUsed))) := by
      rw [opcode, wins]
      rintro (no | ⟨-, no | full⟩)
      · exact no rfl
      · exact no rfl
      · omega
    simp only
    rw [if_neg goes, refuses]
    rfl

/-- The descriptor's way out of the buffer shows in no completion entry. -/
theorem State.popped_entry (s : State) (q : Nat) (d : Desc) (st : Status) (r : Bytes) :
    ((s.popHead q).servedLast q).entryOut q d st r = s.entryOut q d st r := by
  have que : ((s.popHead q).servedLast q).que = (s.popHead q).que := rfl
  have queue : ((s.popHead q).servedLast q).queue q = (s.popHead q).queue q := by unfold queue; rw [que]
  have tick : ((s.popHead q).servedLast q).tick = s.tick := rfl
  unfold entryOut
  rw [queue, tick]
  unfold popHead
  simp only [queue_setQueue_same]

theorem State.refused_chats (s : State) (q : Nat) (d : Desc) (st : Status) :
    Chats ((s.popHead q).servedLast q) (s.refused q d st) := State.complete_chats ..

theorem State.popHead_served_keeps (s : State) (q : Nat) :
    KeepsBut talkParts s ((s.popHead q).servedLast q) := by
  have pop : KeepsBut [.queues] s (s.popHead q) := State.setQueue_keeps _ _ _
  have served : KeepsBut [.sch] (s.popHead q) ((s.popHead q).servedLast q) :=
    keepsBut_of_restore (by cases s; rfl)
  exact pop.within.also served

/-- Settles O26: whatever the opcode, a refused descriptor runs no operation, and nothing else waits. -/
theorem descriptorRefusals : Obligations.DescriptorRefusals := by
  unfold Obligations.DescriptorRefusals
  intro s q h st b x y c running quiet master head wins room known hc opcode refuses
  have chats := s.refused_chats q h.desc st
  have calm : (s.refused q h.desc st).quiet := chats.quiet (quiet_congr quiet)
  have keeps : KeepsBut talkParts s (s.refused q h.desc st) := (s.popHead_served_keeps q).also chats.keeps
  have post : s.entryOut q h.desc st [] ∈ (settle s (s.refused q h.desc st)).out
      ∧ ((settle s (s.refused q h.desc st)).queue q).buf = (s.queue q).buf.drop 1
      ∧ (settle s (s.refused q h.desc st)).sch.ops = s.sch.ops := by
    rw [settle_queue Queue.buf _ _ _ fun _ _ => rfl, settle_sch]
    refine ⟨mem_settle_out ?_, ?_, chats.ops⟩
    · rw [← s.popped_entry q]
      exact (State.complete_sent (s := (s.popHead q).servedLast q) master q h.desc st [] none false).1
    · exact s.refused_buf q h.desc st
  have reacts : ∀ (i : Instr) (n : Nat) (f : Op → State → State), h.desc.opcode = n →
      exec i s = reacting s (fun s => s.dispatch q n f) →
      Runs i s talkParts fun t =>
        s.entryOut q h.desc st [] ∈ t.out ∧ (t.queue q).buf = (s.queue q).buf.drop 1 ∧ t.sch.ops = s.sch.ops :=
    fun i n f code hx =>
      runs_react _ hx running _ (State.dispatch_refused f head code wins room known refuses) calm keeps post
  simp only [List.mem_cons, List.not_mem_nil, or_false] at hc
  rcases hc with rfl | rfl | rfl | rfl | rfl | rfl | rfl | rfl | rfl | rfl | rfl | rfl
  case inr.inr.inr.inr.inr.inl =>
    exact runs_clock (fun s => s.dispatch q 0x40 fun o s => s.identifyOp o b) rfl running _
      (State.dispatch_refused _ head opcode wins room known refuses) keeps post
  all_goals exact reacts _ _ _ opcode rfl

end Sys2Proof.Machine
end

section
/-! PROOF. IDENTIFY and RANDOM (R97, R281, R472): an idle engine signs at once, and an instance with enough output hands it
over at once. -/

namespace Sys2Proof.Machine

/-! ## IDENTIFY -/

theorem State.attest_takeIn (s : State) (q : Nat) (h : Fetched) (b : Bytes) : (s.takeIn q h).attest b = s.attest b := by
  have blind : ∀ (t : State) (que : Tab Queue) (sch : Scheduler), ({ t with que := que, sch := sch } : State).attest b
      = t.attest b := fun t que sch => rfl
  rw [← blind (s.takeIn q h) s.que s.sch, takeIn_fields]

theorem State.idleEcc_takeIn (s : State) (q : Nat) (h : Fetched) (a : BitVec 16) :
    (s.takeIn q h).idleEcc a = s.idleEcc a := by
  unfold idleEcc unitIs unit auths
  rw [takeIn_rcp, takeIn_ports]

theorem State.affinity_takeIn (s : State) (q : Nat) (h : Fetched) (j : Nat) :
    (s.takeIn q h).affinity j = s.affinity j := by
  unfold affinity queueEntry
  rw [takeIn_rcp]

/-- With an engine of its queue's set idle an operation that has just begun goes on at once. -/
theorem State.onEcc_takeIn {s : State} {q : Nat} {h : Fetched} (idle : (s.idleEcc (s.affinity q)).isSome = true) {o : Op}
    (hq : o.q = q) (k : State → State) : (s.takeIn q h).onEcc o k = k (s.takeIn q h) := by
  unfold onEcc
  rw [hq, affinity_takeIn, idleEcc_takeIn]
  exact if_pos idle

/-- IDENTIFY runs to its end. -/
theorem State.identify_runs {s : State} {q : Nat} {h : Fetched} {b r : Bytes} (takes : s.Takes q 0x40 h)
    (idle : (s.idleEcc (s.affinity q)).isSome = true) (made : s.attest b = some r) :
    ∃ t, s.dispatch q 0x40 (fun o s => s.identifyOp o (some b)) = t
      ∧ Completed s (s.takeIn q h) q (s.newOp q h).ctx h .ok (leBytes 4 160) (some r) t := by
  have last := takes.runs
  have done := last.completed rfl rfl rfl (s.takeIn_tick q h) (s.takeIn_links q h) .ok (leBytes 4 160) (some r)
  refine ⟨_, takes.dispatch ?_ (done.buffer rfl), done⟩
  have runs : (s.takeIn q h).identifyRun { s.newOp q h with data := b }
      = (s.takeIn q h).finishOp (s.newOp q h).ctx .ok (leBytes 4 160) (some r) := by
    unfold identifyRun
    rw [attest_takeIn, made]
  exact ((onEcc_takeIn idle rfl fun u => u.identifyRun { s.newOp q h with data := b }).trans runs).trans (last.finishOp _ _ _)

/-- The mailbox after its IDENTIFY. -/
def State.mboxSigned (s : State) (r : Bytes) : State :=
  { s with msp := { s.msp with
      mbox := none, mboxStat := 0, mboxData := mboxWrite s.msp.mboxData r, attn := setBit s.msp.attn 1 true } }

theorem State.mboxSigned_keeps (s : State) (r : Bytes) : KeepsBut [.msp] s (s.mboxSigned r) :=
  keepsBut_of_restore (by cases s; rfl)

theorem State.mboxIdentify_signs {s : State} {r : Bytes} (asked : s.msp.mbox = some 1) (one : s.stepDone 1 = true)
    (three : s.mode = .stage → s.stepDone 3 = true) (made : s.attest (s.mboxRead 32) = some r) :
    s.mboxIdentify = s.mboxSigned r := by
  have goes : ¬ ((s.mode = .stage && !s.stepDone 3) = true) := fun no => by
    simp only [Bool.and_eq_true, decide_eq_true_eq, Bool.not_eq_true'] at no
    exact Bool.false_ne_true (no.2.symm.trans (three no.1))
  unfold mboxIdentify
  rw [if_pos asked, if_neg goes, made]
  exact if_pos one

/-! ## RANDOM -/

/-- A Proofer at rest takes up one request: it gathers. -/
theorem State.gathering_append {l : List Op} {o : Op} {t : State} (ops : t.sch.ops = l ++ [o])
    (idle : ∀ x ∈ l, x.phase ≠ .gather) (waits : o.phase = .gather) : t.gathering = [o.ctx] := by
  have only : (t.sch.ops.filter fun x => x.phase == .gather) = [o] := by
    rw [ops, List.filter_append, List.filter_eq_nil_iff.2 fun x hx => by simpa using idle x hx]
    simp [waits]
  unfold gathering
  rw [only]
  rfl

/-- An instance less the oldest octets of its output. -/
def Prf.drawn (x : Prf) (n : Nat) : Prf := { x with buf := x.buf.drop n }

/-- The request gathers all of its length from its instance, and ends. -/
theorem State.gatherOne_whole {s : State} {l : List Op} {o : Op} {i : Nat} (last : State.LastOp l o s)
    (plain : o.desc.fresh = false) (inTime : s.isLate o.desc = false) (server : s.server (randomInst o.q) = some i)
    (enough : o.desc.bufLen ≤ (s.inst i).buf.length) (empty : o.data = []) :
    s.gatherOne o.ctx = (s.setInst i ((s.inst i).drawn o.desc.bufLen)).gatherEnd o
      ((s.inst i).buf.take o.desc.bufLen) := by
  have n : min (s.inst i).buf.length (o.desc.bufLen - o.data.length) = o.desc.bufLen := by
    rw [empty, List.length_nil, Nat.sub_zero]
    exact Nat.min_eq_right enough
  have whole : (o.data ++ (s.inst i).buf.take o.desc.bufLen).length = o.desc.bufLen := by
    rw [empty, List.nil_append, List.length_take]
    exact Nat.min_eq_left enough
  unfold gatherOne
  simp only [last.op, plain, inTime, server, n, Bool.false_eq_true, if_false]
  rw [if_pos whole, empty, List.nil_append]
  rfl

theorem State.setInst_inst (s : State) (i : Nat) : s.setInst i (s.inst i) = s := by
  have same : vecSet s.prf i (vecGet Prf.start s.prf i) = s.prf := by
    unfold vecSet vecGet
    refine Vector.ext fun k hk => ?_
    rw [Vector.getElem_setIfInBounds]
    split
    · next h => subst h; exact dif_pos hk
    · rfl
  unfold setInst inst
  rw [same]

/-- The instances of the Proofer have nothing to begin, and one is not OFF. -/
structure State.PrfRests (s : State) : Prop where
  insts : ∀ i < 4, (s.inst i).quiet s.reseedInt = true
  limit : s.reseedInt ≤ stopCount
  on : ∃ i < 4, s.unitIs (prfUnit i) .off = false

section
variable {s : State} (rests : s.PrfRests)
include rests

theorem State.PrfRests.instantiateDue : s.instantiateDue = s := by
  unfold State.instantiateDue
  split
  · exact foldl_range4 fun i hi => if_neg (by rw [(Prf.quiet_cases (rests.insts i hi)).1]; decide)
  · rfl

theorem State.PrfRests.notDue : ∀ i ∈ List.range 4, ¬ (s.reseedDue i = true) := fun i hi => by
  rw [reseedDue_quiet rests.insts (List.mem_range.1 hi)]
  decide

theorem State.PrfRests.reseedOne : s.reseedOne = s := by
  have none : s.neediest = none := by
    unfold neediest
    rw [List.filter_eq_nil_iff.2 rests.notDue]
    rfl
  unfold State.reseedOne
  rw [none]

theorem State.PrfRests.speculateOne : s.speculateOne = s := by
  have none : ((List.range 4).filter fun i => s.reseedDue i && (s.inst i).shadow.isNone) = [] :=
    List.filter_eq_nil_iff.2 fun i hi no => rests.notDue i hi (Bool.and_eq_true_iff.1 no).1
  unfold State.speculateOne
  simp only [none, minBy]

theorem State.PrfRests.levels : (List.range 4).foldl State.prfLevel s = s := by
  refine foldl_range4 fun i hi => ?_
  unfold prfLevel
  rcases (Prf.quiet_cases (rests.insts i hi)).2 with off | ⟨runs, few⟩
  · exact if_pos off
  · have on : ¬ (s.inst i).state = 0 := by rw [runs]; decide
    have limit := rests.limit
    have level : (if stopCount ≤ (s.inst i).since then 3 else if s.reseedInt ≤ (s.inst i).since then 2 else 1) = 1 := by
      rw [if_neg (by omega), if_neg (by omega)]
    have same : ({ s.inst i with state := 1 } : Prf) = s.inst i := by rw [← runs]
    simp only [if_neg on, level, same, setInst_inst s i]
    exact if_neg fun no => absurd no.1 (by decide)

theorem State.PrfRests.exhaustCheck : s.exhaustCheck = s := by
  obtain ⟨j, hj, on⟩ := rests.on
  have lives : s.exhausted = false := by
    have some : ((List.range 4).all fun i => s.unitIs (prfUnit i) .off || (s.inst i).state == 3) = false := by
      rw [List.all_eq_false]
      refine ⟨j, List.mem_range.2 hj, ?_⟩
      rcases (Prf.quiet_cases (rests.insts j hj)).2 with state | ⟨state, -⟩ <;> rw [on, state] <;> decide
    unfold exhausted
    rw [some]
    rfl
  unfold State.exhaustCheck
  rw [lives]
  exact if_neg Bool.false_ne_true

/-- Then one request that gathers, and is not FRESH, is all that the Proofer serves. -/
theorem State.PrfRests.prfReact {o : Op} (one : s.gathering = [o.ctx]) (held : s.op o.ctx = some o)
    (plain : o.desc.fresh = false) : s.prfReact = (s.gatherOne o.ctx).exhaustCheck := by
  unfold State.prfReact gatherAll
  simp only [one, List.foldl_cons, List.foldl_nil, held, plain, Bool.false_eq_true, if_false, rests.instantiateDue,
    rests.reseedOne, rests.speculateOne, rests.levels]

end

/-- An operation in another phase. -/
def Op.inPhase (o : Op) (p : Phase) : Op := { o with phase := p }

theorem State.LastOp.phase {l : List Op} {o : Op} {s : State} (h : State.LastOp l o s) (p : Phase) :
    State.LastOp l (o.inPhase p) (s.setOp (o.inPhase p)) := h.setOp rfl

theorem State.server_lt {s : State} {j i : Nat} (h : s.server j = some i) : i < 4 := by
  have mem := List.mem_of_find?_eq_some h
  obtain ⟨k, -, rfl⟩ := List.mem_map.1 mem
  exact Nat.mod_lt _ (by decide)

/-- A request of a Proofer at rest, with its whole output there, gathers it and ends. -/
theorem State.gather_runs {s u : State} {l : List Op} {o : Op} {i : Nat} (rests : s.prfQuiet) (last : State.LastOp l o u)
    (idle : ∀ x ∈ l, x.phase ≠ .gather) (gathers : o.phase = .gather) (plain : o.desc.fresh = false)
    (inTime : u.isLate o.desc = false) (rcp : u.rcp = s.rcp) (prf : u.prf = s.prf)
    (server : s.server (randomInst o.q) = some i) (enough : o.desc.bufLen ≤ (s.inst i).buf.length) (empty : o.data = []) :
    u.prfReact = ((u.setInst i ((s.inst i).drawn o.desc.bufLen)).dropOp o.ctx).complete o.q o.desc .ok
      (leBytes 4 o.desc.bufLen) (some ((s.inst i).buf.take o.desc.bufLen)) true := by
  obtain ⟨-, insts, limit, j, hj, on⟩ := rests
  have hi := server_lt server
  have rested : ∀ {t : State}, t.rcp = s.rcp → (∀ k < 4, (t.inst k).quiet s.reseedInt = true) → t.PrfRests := by
    intro t same insts
    have int : t.reseedInt = s.reseedInt := by unfold reseedInt; rw [same]
    refine ⟨int ▸ insts, int ▸ limit, j, hj, ?_⟩
    unfold unitIs unit at on ⊢
    rw [same]
    exact on
  have inst : ∀ k, u.inst k = s.inst k := fun k => by unfold State.inst; rw [prf]
  have serves : u.server (randomInst o.q) = some i := by
    rw [← server]
    unfold State.server prfServes unitIs unit State.inst
    rw [rcp, prf]
  have drawn : u.gatherOne o.ctx = (u.setInst i ((s.inst i).drawn o.desc.bufLen)).gatherEnd o
      ((s.inst i).buf.take o.desc.bufLen) := by
    rw [gatherOne_whole last plain inTime serves (by rw [inst]; exact enough) empty, inst]
  have ends : (u.setInst i ((s.inst i).drawn o.desc.bufLen)).gatherEnd o ((s.inst i).buf.take o.desc.bufLen)
      = ((u.setInst i ((s.inst i).drawn o.desc.bufLen)).dropOp o.ctx).complete o.q o.desc .ok
        (leBytes 4 o.desc.bufLen) (some ((s.inst i).buf.take o.desc.bufLen)) true := by
    have held : State.LastOp l o (u.setInst i ((s.inst i).drawn o.desc.bufLen)) := ⟨last.ops, last.others⟩
    unfold gatherEnd
    exact (if_neg (by rw [show (u.setInst i _).isLate o.desc = false from inTime]; decide)).trans (held.finishOp _ _ _)
  have chats := State.complete_chats ((u.setInst i ((s.inst i).drawn o.desc.bufLen)).dropOp o.ctx) o.q o.desc .ok
    (leBytes 4 o.desc.bufLen) (some ((s.inst i).buf.take o.desc.bufLen)) true
  have after := rested (chats.rcp.trans rcp) fun k hk => by
    have same : (((u.setInst i ((s.inst i).drawn o.desc.bufLen)).dropOp o.ctx).complete o.q o.desc .ok
        (leBytes 4 o.desc.bufLen) (some ((s.inst i).buf.take o.desc.bufLen)) true).inst k
        = (u.setInst i ((s.inst i).drawn o.desc.bufLen)).inst k := congrArg (vecGet Prf.start · k) chats.prf
    rw [same, inst_setInst hi, inst]
    split
    · next h => subst h; exact insts k hk
    · exact insts k hk
  rw [(rested rcp fun k hk => by rw [inst]; exact insts k hk).prfReact
    (gathering_append last.ops idle gathers) last.op plain, drawn, ends, after.exhaustCheck]

/-- The block as RANDOM has taken its request's output. -/
def State.drawing (s : State) (q i : Nat) (h : Fetched) : State :=
  ((s.takeIn q h).setOp ((s.newOp q h).inPhase .gather)).setInst i ((s.inst i).drawn h.desc.bufLen)

theorem State.drawing_keeps (s : State) (q i : Nat) (h : Fetched) : KeepsBut (.prf :: opParts) s (s.drawing q i h) :=
  ((s.takeIn_keeps q h).within.also (State.setOp_keeps _ _)).also (State.setInst_keeps _ _ _)

theorem State.drawing_prf (s : State) (q i : Nat) (h : Fetched) :
    (s.drawing q i h).prf = vecSet s.prf i ((s.inst i).drawn h.desc.bufLen) :=
  congrArg (vecSet · i ((s.inst i).drawn h.desc.bufLen)) (s.takeIn_prf q h)

theorem State.isLate_congr {s t : State} (tick : t.tick = s.tick) (d : Desc) : t.isLate d = s.isLate d := by
  unfold isLate
  rw [tick]

/-- RANDOM runs to its end. -/
theorem State.random_runs {s : State} {q i : Nat} {h : Fetched} (takes : s.Takes q 0x20 h) (rests : s.prfQuiet)
    (plain : h.desc.fresh = false) (server : s.server (randomInst q) = some i)
    (enough : h.desc.bufLen ≤ (s.inst i).buf.length) :
    ∃ t, (s.dispatch q 0x20 fun o s => s.setOp { o with phase := .gather }).prfReact = t
      ∧ Completed s (s.drawing q i h) q ((s.newOp q h).inPhase .gather).ctx h .ok (leBytes 4 h.desc.bufLen)
          (some ((s.inst i).buf.take h.desc.bufLen)) t := by
  have last := takes.runs.phase .gather
  have dispatched : s.dispatch q 0x20 (fun o s => s.setOp { o with phase := .gather })
      = (s.takeIn q h).setOp ((s.newOp q h).inPhase .gather) := by
    refine takes.dispatch rfl ?_
    have que : ((s.takeIn q h).setOp ((s.newOp q h).inPhase .gather)).que = (s.takeIn q h).que := rfl
    rw [← s.takeIn_buf q h]
    unfold queue
    rw [que]
  have held : State.LastOp s.sch.ops ((s.newOp q h).inPhase .gather) (s.drawing q i h) := ⟨last.ops, last.others⟩
  have done := held.completed rfl rfl rfl (s.takeIn_tick q h) (s.takeIn_links q h) .ok (leBytes 4 h.desc.bufLen)
    (some ((s.inst i).buf.take h.desc.bufLen))
  refine ⟨_, ?_, done⟩
  rw [dispatched]
  exact gather_runs rests last rests.1 rfl plain ((isLate_congr (s.takeIn_tick q h) _).trans takes.inTime)
    (s.takeIn_rcp q h) (s.takeIn_prf q h) server enough rfl

/-- Settles O32: the operation begins in its context and ends in the same command. -/
theorem identifyAndRandom : Obligations.IdentifyAndRandom := by
  unfold Obligations.IdentifyAndRandom
  refine ⟨fun s q h b r running master takes idle made => ?_, fun s r running asked one three made => ?_,
    fun s q i h running master takes rests plain server enough => ?_⟩
  · obtain ⟨t, eq, done⟩ := State.identify_runs takes idle made
    refine runs_clock (fun s => s.dispatch q 0x40 fun o s => s.identifyOp o (some b)) rfl running t eq
      ((s.takeIn_keeps q h).within.also done.keeps) ?_
    rw [settle_sch, settle_ldr]
    exact ⟨mem_settle_out (done.data master r rfl), mem_settle_out (done.entry master), done.ops,
      done.records.trans (congrArg Larder.records (s.takeIn_ldr q h))⟩
  · refine runs_clock State.mboxIdentify rfl running _ (State.mboxIdentify_signs asked one three made)
      (s.mboxSigned_keeps r) ?_
    rw [settle_msp]
    rfl
  · obtain ⟨t, eq, done⟩ := State.random_runs takes rests plain server enough
    refine runs_clock (fun s => (s.dispatch q 0x20 fun o s => s.setOp { o with phase := .gather }).prfReact) rfl running t
      eq ((s.drawing_keeps q i h).also done.keeps) ?_
    rw [settle_prf, settle_sch]
    exact ⟨mem_settle_out (done.data master _ rfl), mem_settle_out (done.entry master),
      done.chats.prf.trans (s.drawing_prf q i h), done.ops⟩

end Sys2Proof.Machine
end

section
/-! PROOF. Lifecycle requests (R98–R102): judged by R101, held in the pending-transition record while their fuses blow, made
whole by the last one. -/

namespace Sys2Proof.Machine

/-! ## Requests -/

/-- The block as the fuses of an accepted request begin to blow. -/
def State.blowingFor (s : State) (ctx : Option Nat) (r : Bytes) : State :=
  { s with
    vig := { s.vig with record := some (requestRecord r) }
    life := { s.life with blowing := some (ctx, reqOp r), retireWait := s.life.retireWait || reqOp r == 5 } }

theorem State.blowingFor_keeps (s : State) (ctx : Option Nat) (r : Bytes) :
    KeepsBut [.vig, .life] s (s.blowingFor ctx r) := keepsBut_of_restore (by cases s; rfl)

theorem State.blowingFor_life {s : State} (ctx : Option Nat) {r : Bytes} {op : Nat} (calm : s.life.retireWait = false)
    (hop : reqOp r = op) :
    (s.blowingFor ctx r).life = { s.life with blowing := some (ctx, op), retireWait := decide (op = 5) } := by
  unfold blowingFor
  rw [calm, hop, Bool.false_or]
  rfl

/-- An accepted RETIRE makes the guards safe. -/
theorem settle_retiring {old e : State} (h : e.life.retireWait = true) : (settle old e).fab.enabled = 0 := by
  have k := (settle_settled old e).guards
  simp only [h, Bool.true_eq_false, and_false, if_false] at k
  exact k.1

theorem opMatches_of_op {r : Bytes} {op : Nat} (h : reqOp r = op) : opMatches r op = true := by
  unfold opMatches
  rw [h, beq_self_eq_true, Bool.true_or]
  rfl

/-- With no request under way a lifecycle command goes on by its source. -/
theorem State.lifecycle_idle {s : State} (idle : s.life.blowing = none) (calm : s.life.retireWait = false) :
    ¬ ((s.life.blowing.isSome || s.life.retireWait) = true) := by
  rw [idle, calm]
  decide

theorem State.lifecycle_mailbox {s : State} {op : Nat} (res : EngineResult) (idle : s.life.blowing = none)
    (calm : s.life.retireWait = false) (asked : s.msp.mbox = some 2) (served : s.mode ≠ .quarantine)
    (hop : reqOp (s.mboxRead 184) = op) :
    s.lifecycle op .mailbox res = s.judgeRequest none (s.mboxRead 184) := by
  unfold lifecycle
  refine (if_neg (lifecycle_idle idle calm)).trans ?_
  exact (if_pos ⟨asked, opMatches_of_op hop⟩).trans (if_neg served)

theorem State.judgeRequest_mailbox {s : State} {r : Bytes} (ok : s.requestOk r = true) (calm : s.spw.early = false) :
    s.judgeRequest none r = s.blowingFor none r := by
  have accepts : ¬ ((!s.requestOk r) = true) := by rw [ok]; decide
  have powered : ¬ (s.spw.early = true) := by rw [calm]; decide
  unfold judgeRequest
  exact (if_neg accepts).trans (if_neg powered)

/-- The mailbox once a request has ended. -/
def State.mboxEnded (s : State) (st : Status) (result : Bytes) : State :=
  { s with msp := { s.msp with
      mbox := none, mboxStat := st.code, attn := setBit s.msp.attn 1 true
      mboxData := mboxWrite s.msp.mboxData result } }

theorem State.mboxEnded_keeps (s : State) (st : Status) (r : Bytes) : KeepsBut [.msp] s (s.mboxEnded st r) :=
  keepsBut_of_restore (by cases s; rfl)

theorem State.mboxDone_ended {s : State} (one : s.stepDone 1 = true) (st : Status) (r : Bytes) :
    s.mboxDone st r = s.mboxEnded st r := by
  unfold mboxDone attend
  exact if_pos one

theorem State.judgeRequest_refused {s : State} {r : Bytes} (no : s.requestOk r = false) :
    s.judgeRequest none r = s.mboxDone .notPermitted [] := by
  have refuses : (!s.requestOk r) = true := by rw [no]; rfl
  unfold judgeRequest
  exact if_pos refuses

/-! ## From an ADMIN queue -/

theorem State.requestOk_takeIn (s : State) (q : Nat) (h : Fetched) (r : Bytes) :
    (s.takeIn q h).requestOk r = s.requestOk r := by
  have blind : ∀ (t : State) (que : Tab Queue) (sch : Scheduler), ({ t with que := que, sch := sch } : State).requestOk r
      = t.requestOk r := fun t que sch => rfl
  rw [← blind (s.takeIn q h) s.que s.sch, takeIn_fields]

/-- An operation past its point of no return whose fuses blow. -/
def Op.blowing (o : Op) : Op := { o with phase := .blow, pastPoint := true }

theorem Op.ctx_blowing (o : Op) : o.blowing.ctx = o.ctx := rfl

/-- An operation with its in-buffer read. -/
def Op.reading (o : Op) (b : Bytes) : Op := { o with data := b }

theorem State.lifecycleRun_reading (s : State) (o : Op) (b : Bytes) :
    s.lifecycleRun (o.reading b) = s.judgeRequest (some o.ctx) b := rfl

theorem State.judgeRequest_queue {u : State} {l : List Op} {o : Op} {r : Bytes} (last : State.LastOp l o u)
    (ok : u.requestOk r = true) (calm : u.spw.early = false) :
    u.judgeRequest (some o.ctx) r = (u.blowingFor (some o.ctx) r).setOp o.blowing := by
  have accepts : ¬ ((!u.requestOk r) = true) := by rw [ok]; decide
  have powered : ¬ (u.spw.early = true) := by rw [calm]; decide
  have held : (u.blowingFor (some o.ctx) r).op o.ctx = some o := last.op
  unfold judgeRequest
  refine ((if_neg accepts).trans (if_neg powered)).trans ?_
  show (match (u.blowingFor (some o.ctx) r).op o.ctx with | none => _ | some o => _) = _
  rw [held]
  rfl

/-- The block as a queue's request begins to blow its fuses. -/
def State.queueBlows (s : State) (q : Nat) (h : Fetched) (r : Bytes) : State :=
  ((s.takeIn q h).blowingFor (some (s.newOp q h).ctx) r).setOp (s.newOp q h).blowing

theorem State.queueBlows_keeps (s : State) (q : Nat) (h : Fetched) (r : Bytes) :
    KeepsBut [.vig, .life, .queues, .sch] s (s.queueBlows q h r) :=
  ((s.takeIn_keeps q h).within.also (State.blowingFor_keeps _ _ _)).also (State.setOp_keeps _ _)

theorem State.lifecycle_queue {s : State} {q op : Nat} {h : Fetched} {b : Bytes} (res : EngineResult)
    (takes : s.Takes q 0x41 h) (engine : (s.idleEcc (s.affinity q)).isSome = true) (idle : s.life.blowing = none)
    (calm : s.life.retireWait = false) (powered : s.spw.early = false) (hop : reqOp b = op)
    (ok : s.requestOk b = true) : s.lifecycle op (.queue q (some b)) res = s.queueBlows q h b := by
  have last := takes.runs
  have judged : (s.takeIn q h).judgeRequest (some (s.newOp q h).ctx) b = s.queueBlows q h b :=
    judgeRequest_queue last ((s.requestOk_takeIn q h b).trans ok) ((congrArg Supply.early (s.takeIn_spw q h)).trans powered)
  have runs : s.dispatch q 0x41 (fun o s => s.onEcc { o with data := b } fun s => s.lifecycleRun { o with data := b })
      = s.queueBlows q h b := by
    refine takes.dispatch ?_ ?_
    · exact ((onEcc_takeIn engine rfl fun u => u.lifecycleRun ((s.newOp q h).reading b)).trans
        (lifecycleRun_reading _ _ b)).trans judged
    · have que : (s.queueBlows q h b).que = (s.takeIn q h).que := rfl
      rw [← s.takeIn_buf q h]
      unfold queue
      rw [que]
  unfold lifecycle
  exact (if_neg (lifecycle_idle idle calm)).trans ((if_pos (opMatches_of_op hop)).trans runs)

/-! ## The last fuse -/

/-- The block as the last fuse of a record is blown. -/
def State.recordBlown (s : State) (r : PendingRec) (blowing : Option (Option Nat × Nat)) : State :=
  { s with
    otp := s.otp.blow r
    vig := { s.vig with record := none, shadow := some (s.otp.blow r).stateOf }
    life := { s.life with state := (s.otp.blow r).stateOf, blowing := blowing } }

theorem State.recordBlown_keeps (s : State) (r : PendingRec) (b : Option (Option Nat × Nat)) :
    KeepsBut [.otp, .vig, .life] s (s.recordBlown r b) := keepsBut_of_restore (by cases s; rfl)

theorem State.blowDone_mailbox {s : State} {op : Nat} {r : PendingRec} (one : s.stepDone 1 = true)
    (blows : s.life.blowing = some (none, op)) (other : op ≠ 5) (record : s.vig.record = some r) :
    s.blowDone = (s.recordBlown r none).mboxEnded .ok [BitVec.ofNat 8 (s.otp.blow r).stateOf] := by
  have ends : (s.recordBlown r none).mboxDone .ok [BitVec.ofNat 8 (s.otp.blow r).stateOf]
      = (s.recordBlown r none).mboxEnded .ok [BitVec.ofNat 8 (s.otp.blow r).stateOf] :=
    mboxDone_ended (s := s.recordBlown r none) one _ _
  rw [← ends]
  unfold blowDone
  rw [blows, record]
  simp only [if_neg other]
  rfl

theorem State.blowDone_retired {s : State} {ctx : Option Nat} {r : PendingRec} (blows : s.life.blowing = some (ctx, 5))
    (record : s.vig.record = some r) (drain : s.cnt.drain = .idle) (compaction : s.cnt.compaction = .none)
    (round : s.ldr.running = none) :
    s.blowDone = (s.recordBlown r (some (ctx, 5))).zeroizeMarks.wipeCore := by
  refine Eq.trans ?_ (zeroizeBegin_idle (s := s.recordBlown r (some (ctx, 5))) drain compaction round)
  unfold blowDone
  rw [blows, record]
  rfl

theorem Otp.blow_retired (o : Otp) : (o.blow (.group 4)).stateOf = 4 := by
  have group : vecGet 0 (o.blow (.group 4)).groups 3 = 3 := (vecGet_vecSet 0 o.groups (by decide) 3 3).trans (if_pos rfl)
  unfold Otp.stateOf
  exact if_pos group

/-- Settles O41: the branch of the request that its premises choose, for each of the five requests. -/
theorem lifecycleTransitions : Obligations.LifecycleTransitions := by
  unfold Obligations.LifecycleTransitions
  refine ⟨fun s c running asked served idle calm powered hc hop ok => ?_,
    fun s q h b c running master takes engine idle calm powered hc hop ok => ?_,
    fun s c running asked served idle calm one hc hop no => ?_,
    fun s op r running one blows other record => ?_,
    fun s ctx running blows record drain compaction round => ?_⟩
  · have hx : exec c.2 s = onClock s fun s => s.lifecycle c.1 .mailbox .done := by
      simp only [List.mem_cons, List.not_mem_nil, or_false] at hc
      rcases hc with rfl | rfl | rfl | rfl | rfl <;> rfl
    have life := s.blowingFor_life none calm hop
    refine runs_clock _ hx running _ ((State.lifecycle_mailbox _ idle calm asked served hop).trans
      (State.judgeRequest_mailbox ok powered)) (s.blowingFor_keeps none _) ?_
    rw [settle_vig, settle_life, life]
    refine ⟨rfl, rfl, fun retires => settle_retiring ?_⟩
    rw [life]
    exact decide_eq_true retires
  · have hx : exec c.2 s = onClock s fun s => s.lifecycle c.1 (.queue q (some b)) .done := by
      simp only [List.mem_cons, List.not_mem_nil, or_false] at hc
      rcases hc with rfl | rfl | rfl | rfl | rfl <;> rfl
    have life : (s.queueBlows q h b).life
        = { s.life with blowing := some (some (s.newOp q h).ctx, c.1), retireWait := decide (c.1 = 5) } := by
      have begins := (s.takeIn q h).blowingFor_life (some (s.newOp q h).ctx)
        ((congrArg (·.retireWait) (s.takeIn_life q h)).trans calm) hop
      rw [State.takeIn_life] at begins
      exact begins
    have vig : (s.queueBlows q h b).vig = { s.vig with record := some (requestRecord b) } :=
      congrArg (fun v : Vigil => { v with record := some (requestRecord b) }) (s.takeIn_vig q h)
    have ops : (s.newOp q h).blowing ∈ (s.queueBlows q h b).sch.ops := by
      have last : State.LastOp s.sch.ops (s.newOp q h) ((s.takeIn q h).blowingFor (some (s.newOp q h).ctx) b) :=
        ⟨takes.runs.ops, takes.runs.others⟩
      rw [show (s.queueBlows q h b).sch.ops = s.sch.ops ++ [(s.newOp q h).blowing] from (last.setOp (Op.ctx_blowing _)).ops]
      exact List.mem_append_right _ (List.mem_singleton_self _)
    refine runs_clock _ hx running _ (State.lifecycle_queue _ takes engine idle calm powered hop ok)
      (s.queueBlows_keeps q h b) ?_
    rw [settle_vig, settle_life, settle_sch]
    rw [State.newOp_ctx] at life
    exact ⟨vig, life, ops⟩
  · have hx : exec c.2 s = onClock s fun s => s.lifecycle c.1 .mailbox .done := by
      simp only [List.mem_cons, List.not_mem_nil, or_false] at hc
      rcases hc with rfl | rfl | rfl | rfl | rfl <;> rfl
    refine runs_clock _ hx running _ (((State.lifecycle_mailbox _ idle calm asked served hop).trans
      (State.judgeRequest_refused no)).trans (State.mboxDone_ended one _ _)) (s.mboxEnded_keeps _ _) ?_
    rw [settle_msp]
    rfl
  · refine runs_clock State.blowDone rfl running _ (State.blowDone_mailbox one blows other record)
      ((s.recordBlown_keeps r none).within.also (State.mboxEnded_keeps _ _ _)) ?_
    rw [settle_otp, settle_vig, settle_life, settle_msp]
    exact ⟨rfl, rfl, rfl, rfl⟩
  · have keeps : KeepsBut [.otp, .vig, .life, .mod, .cnt, .ports, .prf, .ent, .glz, .ldr, .spc] s
        (s.recordBlown (.group 4) (some (ctx, 5))).zeroizeMarks.wipeCore :=
      ((s.recordBlown_keeps _ _).within.also (State.zeroizeMarks_keeps _)).also (State.wipeCore_keeps _)
    refine runs_clock State.blowDone rfl running _ (State.blowDone_retired blows record drain compaction round) keeps ?_
    have keys : (settle s (s.recordBlown (.group 4) (some (ctx, 5))).zeroizeMarks.wipeCore).hasKeys = false := by
      unfold State.hasKeys
      rw [settle_vig]
      rfl
    rw [settle_life, settle_vig, settle_ldr]
    exact ⟨Otp.blow_retired _, rfl, rfl, rfl, rfl, rfl, rfl, keys, rfl, rfl⟩

end Sys2Proof.Machine
end

section
/-! PROOF. The control of the queues (R359, R361–R363, R366): what completions, messages and events leave of a queue. -/

namespace Sys2Proof.Machine

/-! ## What a message leaves of the queues and the scheduler -/

theorem State.signal_que (s : State) (v : Nat) : (s.signal v).que = s.que := by
  unfold signal message
  simp only
  repeat' split
  all_goals rfl

theorem State.signal_sch (s : State) (v : Nat) : (s.signal v).sch = s.sch := by
  unfold signal message
  simp only
  repeat' split
  all_goals rfl

theorem State.signal_queue (s : State) (v q : Nat) : (s.signal v).queue q = s.queue q := by
  unfold queue
  rw [signal_que]

theorem State.queueVector_cases (s : State) (q : Nat) : s.queueVector q = s
    ∨ s.queueVector q = (s.setQueue q { s.queue q with unsent := 0, oldest := none }).signal q := by
  unfold queueVector
  extract_lets x old
  split
  · exact .inr rfl
  · exact .inl rfl

theorem State.settleQueue_cases (s : State) (q : Nat) : s.settleQueue q = s
    ∨ (s.queue q).state = 2 ∧ s.settleQueue q = s.setQueue q { s.queue q with state := 0, bq := 0 } := by
  unfold settleQueue
  simp only
  split
  · next due => exact .inr ⟨due.1, rfl⟩
  · exact .inl rfl

/-! ## What a completion leaves of its queue -/

/-- A queue without what a completion entry moves. -/
def Queue.unwritten (x : Queue) : Queue := { x with
  write := 0, phase := false, unread := 0, completions := 0, late := 0, unsent := 0, oldest := none }

theorem State.queue_setQueue_unwritten (s : State) (q j : Nat) {x : Queue} (h : x.unwritten = (s.queue q).unwritten) :
    ((s.setQueue q x).queue j).unwritten = (s.queue j).unwritten := by
  rw [queue_setQueue]
  split
  · next same => rw [same, h]
  · rfl

theorem State.queueVector_unwritten (s : State) (q j : Nat) :
    ((s.queueVector q).queue j).unwritten = (s.queue j).unwritten := by
  rcases s.queueVector_cases q with same | sent
  · rw [same]
  · rw [sent, signal_queue]
    exact queue_setQueue_unwritten s q j rfl

theorem State.queueVector_sch (s : State) (q : Nat) : (s.queueVector q).sch = s.sch := by
  rcases s.queueVector_cases q with same | sent
  · rw [same]
  · rw [sent, signal_sch]
    rfl

/-- A queue with one more entry. -/
def Queue.entered (x : Queue) (tick : BitVec 64) (st : Status) : Queue :=
  let wrap : Bool := x.write + 1 == x.size
  { x with
    write := if wrap then 0 else x.write + 1
    phase := xor x.phase wrap
    unread := x.unread + 1
    completions := satInc x.completions
    late := if st = .late then satInc x.late else x.late
    unsent := x.unsent + 1
    oldest := match x.oldest with | none => some tick | some t => some t }

/-- The entry of a completion is written and counted. -/
def State.entered (s : State) (q : Nat) (d : Desc) (st : Status) (r : Bytes) : State :=
  ((s.emit (s.entryOut q d st r)).setQueue q ((s.queue q).entered s.tick st)).countStatus st

theorem State.entered_unwritten (s : State) (q j : Nat) (d : Desc) (st : Status) (r : Bytes) :
    ((s.entered q d st r).queue j).unwritten = (s.queue j).unwritten :=
  s.queue_setQueue_unwritten q j (x := (s.queue q).entered s.tick st) rfl

/-- The buffer of a completion is written before its entry. -/
def State.bufferSent (s : State) (d : Desc) (b : Option Bytes) : State :=
  match b with
  | none => s
  | some b => s.emit (.dmaWrite d.bufAddr b)

theorem State.writeEntry_eq (s : State) (q : Nat) (d : Desc) (st : Status) (r : Bytes) (b : Option Bytes) :
    s.writeEntry q d st r b = ((((s.bufferSent d b).entered q d st r).queueVector q).settleQueue q) := by
  cases b <;> rfl

/-- A completion entry that may be written, before a DISABLING queue ends. -/
theorem State.complete_written {s : State} (master : s.canMaster = true) (q : Nat) (d : Desc) (st : Status) (r : Bytes)
    (b : Option Bytes) (h : Bool) : ∃ w : State, s.complete q d st r b h = w.settleQueue q ∧ w.sch = s.sch
      ∧ ∀ j, (w.queue j).unwritten = (s.queue j).unwritten := by
  have data : (s.bufferSent d b).que = s.que ∧ (s.bufferSent d b).sch = s.sch := by cases b <;> exact ⟨rfl, rfl⟩
  refine ⟨((s.bufferSent d b).entered q d st r).queueVector q, ?_, (queueVector_sch _ q).trans data.2, fun j => ?_⟩
  · unfold complete
    rw [if_pos master, writeEntry_eq]
  · rw [queueVector_unwritten, entered_unwritten]
    unfold queue
    rw [data.1]

theorem State.complete_sch {s : State} (master : s.canMaster = true) (q : Nat) (d : Desc) (st : Status) (r : Bytes)
    (b : Option Bytes) (h : Bool) : (s.complete q d st r b h).sch = s.sch := by
  obtain ⟨w, eq, sch, -⟩ := complete_written master q d st r b h
  rw [eq]
  rcases w.settleQueue_cases q with same | ⟨-, done⟩
  · rw [same, sch]
  · rw [done]
    exact sch

theorem State.complete_evBufs {s : State} (master : s.canMaster = true) (q j : Nat) (d : Desc) (st : Status) (r : Bytes)
    (b : Option Bytes) (h : Bool) : ((s.complete q d st r b h).queue j).evBufs = (s.queue j).evBufs := by
  obtain ⟨w, eq, -, queue⟩ := complete_written master q d st r b h
  have held : (w.queue j).evBufs = (s.queue j).evBufs := (congrArg Queue.evBufs (queue j) :)
  rw [eq]
  rcases w.settleQueue_cases q with same | ⟨-, done⟩
  · rw [same, held]
  · rw [done, queue_setQueue]
    split
    · next at_q => rw [← held, at_q]
    · exact held

/-! ## States that completions and events do not move -/

/-- Only a queue that is DISABLING changes its state. -/
def QueueStays (s t : State) : Prop := ∀ q, (s.queue q).state ≠ 2 → (t.queue q).state = (s.queue q).state

theorem QueueStays.of_que {s t : State} (h : t.que = s.que) : QueueStays s t := fun q _ => by
  unfold State.queue
  rw [h]

theorem QueueStays.trans {s t u : State} (h : QueueStays s t) (k : QueueStays t u) : QueueStays s u := fun q hq =>
  (k q ((h q hq).symm ▸ hq)).trans (h q hq)

theorem State.setQueue_stays {s : State} {q : Nat} {x : Queue} (h : x.state = (s.queue q).state) :
    QueueStays s (s.setQueue q x) := fun j _ => by
  rw [queue_setQueue]
  split
  · next same => rw [same, h]
  · rfl

theorem State.settleQueue_stays (s : State) (q : Nat) : QueueStays s (s.settleQueue q) := fun j hj => by
  rcases s.settleQueue_cases q with same | ⟨two, done⟩
  · rw [same]
  · rw [done, queue_setQueue]
    split
    · next at_q => exact absurd (at_q ▸ two) hj
    · rfl

theorem State.complete_stays (s : State) (q : Nat) (d : Desc) (st : Status) (r : Bytes) (b : Option Bytes) (h : Bool) :
    QueueStays s (s.complete q d st r b h) := by
  by_cases master : s.canMaster = true
  · obtain ⟨w, eq, -, queue⟩ := complete_written master q d st r b h
    rw [eq]
    exact QueueStays.trans (t := w) (fun j _ => (congrArg Queue.state (queue j) :)) (w.settleQueue_stays q)
  · refine .of_que ?_
    unfold complete
    rw [if_neg master]
    simp only
    split <;> rfl

theorem State.eventLost_que (s : State) : s.eventLost.que = s.que := raise_que _ _

theorem State.fillBuffer_stays (s : State) (q : Nat) (r : Bytes) : QueueStays s (s.fillBuffer q r) := by
  unfold fillBuffer
  simp only
  split
  · exact .of_que rfl
  · rename_i d bs _
    have taken : QueueStays s (s.setQueue q { s.queue q with evBufs := bs }) := setQueue_stays rfl
    exact taken.trans (complete_stays _ _ _ _ _ _ _)

theorem State.route_stays (s : State) (k : Nat) (b : Bytes) : QueueStays s (s.route k b).1 := by
  have numbered : QueueStays s { s with sch := { s.sch with evSeq := s.sch.evSeq + 1 } } := .of_que rfl
  unfold route
  simp only
  split
  · exact numbered
  · split
    · exact numbered.trans (fillBuffer_stays _ _ _)
    · split
      · exact .of_que rfl
      · exact numbered.trans (.of_que (eventLost_que _))

theorem State.report_stays (s : State) (k : Nat) (b : Bytes) : QueueStays s (s.report k b) := by
  unfold report
  simp only
  split
  · exact s.route_stays k b
  · exact (s.route_stays k b).trans (.of_que (eventLost_que _))

theorem State.dropStore_que (s : State) (q : Nat) : (s.dropStore q).que = s.que := by
  have lost : ∀ (l : List (Nat × Bytes)) (u : State), (l.foldl (fun s _ => s.eventLost) u).que = u.que := by
    intro l
    induction l with
    | nil => exact fun _ => rfl
    | cons e l ih => exact fun u => (ih _).trans (eventLost_que u)
  exact lost _ _

/-! ## ERROR (R362) -/

/-- A queue that an error stops. -/
def Queue.errored (x : Queue) (cause : Nat) : Queue := { x with state := 3, err := cause, reading := 0 }

theorem State.queueError_chats (s : State) (q cause : Nat) :
    Chats (s.setQueue q ((s.queue q).errored cause)) (s.queueError q cause) :=
  ((State.dropStore_chats _ q).trans (State.raise_chats _ _)).trans (State.report_chats _ _ _)

theorem State.queueError_state (s : State) (q cause : Nat) : ((s.queueError q cause).queue q).state = 3 := by
  have stays : QueueStays (s.setQueue q ((s.queue q).errored cause)) (s.queueError q cause) :=
    ((QueueStays.of_que (dropStore_que _ q)).trans (.of_que (raise_que _ _))).trans (report_stays _ _ _)
  have three : ((s.setQueue q ((s.queue q).errored cause)).queue q).state = 3 := by
    rw [queue_setQueue_same]
    rfl
  rw [stays q (by rw [three]; decide), three]

theorem State.queueError_keeps (s : State) (q cause : Nat) : KeepsBut talkParts s (s.queueError q cause) :=
  (s.setQueue_keeps q _).within.also (s.queueError_chats q cause).keeps

/-- Of its queue an error leaves what is not in `quietly`. -/
theorem State.queueError_field {α : Type} (f : Queue → α) (blind : ∀ x : Queue, f x.quietly = f x) (s : State) (q cause : Nat) :
    f ((s.queueError q cause).queue q) = f ((s.queue q).errored cause) := by
  rw [(s.queueError_chats q cause).queueField q f blind, queue_setQueue_same]

/-! ## DISABLED (R361) -/

/-- A queue that is disabled while it holds descriptors. -/
def Queue.stopping (x : Queue) : Queue :=
  { x with enable := false, state := 2, err := 0, buf := [], evBufs := [], reading := 0 }

theorem State.dropStore_none {s : State} {q : Nat} (h : ∀ e ∈ s.sch.store, e.1 ≠ q) : s.dropStore q = s := by
  have gone : s.sch.store.filter (·.1 == q) = [] := List.filter_eq_nil_iff.2 fun e he => by simpa using h e he
  have kept : s.sch.store.filter (·.1 != q) = s.sch.store := List.filter_eq_self.2 fun e he => by simpa using h e he
  unfold dropStore
  simp only [gone, kept, List.foldl_nil]

/-- A DISABLING queue with nothing in flight ends. -/
theorem State.settleQueue_done {s : State} {q : Nat} (two : (s.queue q).state = 2) (buf : (s.queue q).buf = [])
    (flight : s.inflight q = 0) (held : s.heldFor q = 0) : ((s.settleQueue q).queue q).state = 0 := by
  unfold settleQueue
  simp only
  rw [if_pos ⟨two, buf, flight, held⟩, queue_setQueue_same]

theorem State.complete_disables {s : State} {q : Nat} (master : s.canMaster = true) (two : (s.queue q).state = 2)
    (buf : (s.queue q).buf = []) (flight : s.inflight q = 0) (held : s.heldFor q = 0) (d : Desc) (st : Status) (r : Bytes)
    (b : Option Bytes) (h : Bool) : ((s.complete q d st r b h).queue q).state = 0 := by
  obtain ⟨w, eq, sch, queue⟩ := complete_written master q d st r b h
  have evBufs : (w.queue q).evBufs = (s.queue q).evBufs := (congrArg Queue.evBufs (queue q) :)
  rw [eq]
  refine settleQueue_done ((congrArg Queue.state (queue q) :).trans two) ((congrArg Queue.buf (queue q) :).trans buf) ?_ ?_
  · unfold inflight at flight ⊢
    rw [sch, evBufs]
    exact flight
  · unfold heldFor at held ⊢
    rw [sch]
    exact held

/-- The state in which the descriptor of a queue being disabled completes. -/
def State.disabling (s : State) (q : Nat) : State := s.setQueue q (s.queue q).stopping

theorem State.enableWrite_off {s : State} {q : Nat} {f : Fetched} (hq : q < 1024) (six : s.stepDone 6 = true)
    (one : (s.queue q).state = 1) (buf : (s.queue q).buf = [f]) (evBufs : (s.queue q).evBufs = [])
    (unstored : ∀ e ∈ s.sch.store, e.1 ≠ q) :
    s.enableWrite q false = ((s.disabling q).complete q f.desc .cancelled [] none false).settleQueue q := by
  have off : s.enableWrite q false = s.queueDisable q := by
    unfold enableWrite
    rw [if_neg (by simp [six, hq]), if_neg (by decide)]
  rw [off]
  unfold queueDisable
  simp only
  rw [if_pos (Or.inl one), buf, evBufs, dropStore_none (s := s.setQueue q _) unstored]
  rfl

/-! ## Doorbells (R363) -/

theorem State.doorbell_rings {s : State} {q width : Nat} (hq : q < 1024) (one : (s.queue q).state = 1)
    (wide : width = 4 ∨ width = 8) (f : Queue → State → State) : s.doorbell q width f = f (s.queue q) s := by
  unfold doorbell
  exact if_neg (by omega)

/-- The queue whose message a coalescing timeout sends. -/
def State.unsentSent (s : State) (q : Nat) : State :=
  (s.setQueue q { s.queue q with unsent := 0, oldest := none }).messageSent q

theorem State.irqTimeout_sends {s : State} {q : Nat} (hq : q < 1024) (on : (s.queue q).irqEn = true)
    (due : (s.queue q).unsent ≠ 0) (unmasked : s.vectorMasked q = false) (master : s.canMaster = true) :
    s.irqTimeout q = s.unsentSent q := by
  unfold irqTimeout
  simp only
  rw [if_pos (by simp [on, due]), signal_sends (by exact unmasked) (by exact master)]
  exact message_queue _ (by omega)

/-- Settles O33: each command ends in a state that is named above; a DISABLED queue needs its last completion written, and
an ERROR stands because completions and events end DISABLING queues only. -/
theorem queueControl : Obligations.QueueControl := by
  unfold Obligations.QueueControl
  refine ⟨?_, ?_, ?_, ?_, ?_, ?_⟩
  · intro s q running quiet hq six may
    refine runs_react (fun s => s.enableWrite q true) rfl running (s.setQueue q (s.queue q).started) ?_
      (quiet_congr quiet) (s.setQueue_keeps q _) ?_
    · unfold State.enableWrite State.queueEnable
      rw [if_neg (by simp [six, hq]), if_pos rfl, if_pos may]
    · rw [(settle_settled _ _).que q, State.queue_setQueue_same]
      rfl
  · intro s q f running quiet master hq six one buf evBufs flight held unstored
    let u := s.disabling q
    have queue : u.queue q = (s.queue q).stopping := State.queue_setQueue_same ..
    have last : Chats u ((u.complete q f.desc .cancelled [] none false).settleQueue q) :=
      (State.complete_chats ..).trans (State.settleQueue_chats ..)
    refine runs_react (fun s => s.enableWrite q false) rfl running _ (State.enableWrite_off hq six one buf evBufs unstored)
      (last.quiet (quiet_congr quiet)) ((s.setQueue_keeps q _).within.also last.keeps) ⟨mem_settle_out ?_, ?_, ?_, ?_⟩
    · have sent := (State.complete_sent (s := u) master q f.desc .cancelled [] none false).1
      have same : u.entryOut q f.desc .cancelled [] = s.entryOut q f.desc .cancelled [] := by
        unfold State.entryOut
        rw [queue]
        rfl
      exact (State.settleQueue_chats _ q).out (same ▸ sent)
    · have flight' : u.inflight q = 0 := by
        unfold State.inflight at flight ⊢
        rw [queue]
        rw [evBufs] at flight
        exact flight
      have ended := State.complete_disables (s := u) master (by rw [queue]; rfl) (by rw [queue]; rfl) flight' held f.desc
        .cancelled [] none false
      rw [settle_queue Queue.state _ _ _ fun _ _ => rfl]
      exact ((State.settleQueue_stays _ q) q (by rw [ended]; decide)).trans ended
    · rw [settle_queue Queue.enable _ _ _ fun _ _ => rfl, last.queueField q Queue.enable fun _ => rfl, queue]
      rfl
    · rw [settle_queue Queue.buf _ _ _ fun _ _ => rfl, last.queueField q Queue.buf fun _ => rfl, queue]
      rfl
  · intro s q v running hq one inRange
    refine runs_clock (fun s => s.sqTail q v.toNat 4) rfl running
      (s.setQueue q { s.queue q with tail := v.toNat % 4096 }) ?_ (s.setQueue_keeps q _) ?_
    · unfold State.sqTail
      rw [State.doorbell_rings hq one (.inl rfl)]
      exact if_neg (by omega)
    · rw [(settle_settled _ _).que q, State.queue_setQueue_same]
  · intro s q v running hq one outside
    refine runs_clock (fun s => s.sqTail q v.toNat 8) rfl running (s.queueError q 1) ?_ (s.queueError_keeps q 1)
      ⟨?_, ?_, ?_⟩
    · unfold State.sqTail
      rw [State.doorbell_rings hq one (.inr rfl)]
      exact if_pos outside
    · rw [settle_queue Queue.state _ _ _ fun _ _ => rfl, State.queueError_state]
    · rw [settle_queue Queue.err _ _ _ fun _ _ => rfl, State.queueError_field Queue.err fun _ => rfl]
      rfl
    · rw [settle_queue Queue.tail _ _ _ fun _ _ => rfl, State.queueError_field Queue.tail fun _ => rfl]
      rfl
  · intro s q v running hq one inRange released
    refine runs_clock (fun s => s.cqHead q v.toNat 4) rfl running
      (s.setQueue q { s.queue q with
        head := v.toNat % 4096
        unread := (s.queue q).unread - (v.toNat % 4096 + (s.queue q).size - (s.queue q).head) % (s.queue q).size })
      ?_ (s.setQueue_keeps q _) ?_
    · unfold State.cqHead
      rw [State.doorbell_rings hq one (.inl rfl)]
      exact if_neg (by omega)
    · rw [(settle_settled _ _).que q, State.queue_setQueue_same]
  · intro s q running hq on due unmasked master
    refine runs_clock (fun s => s.irqTimeout q) rfl running (s.unsentSent q) (State.irqTimeout_sends hq on due unmasked master)
      ((s.setQueue_keeps q _).within.also (State.messageSent_keeps _ q)) ⟨mem_settle_out ?_, ?_⟩
    · exact List.mem_append_right _ (List.mem_singleton_self _)
    · rw [(settle_settled _ _).que q]
      have queue : (s.unsentSent q).queue q = { s.queue q with unsent := 0, oldest := none } := State.queue_setQueue_same ..
      rw [queue]

end Sys2Proof.Machine
end

section
/-! PROOF. Descriptors on their way to a queue, and the buffers of the event queues (R361, R362, R375, R376, R378). -/

namespace Sys2Proof.Machine

/-! ## Fetched descriptors -/

/-- The descriptors of a read that are accepted join the buffer in ring order. -/
theorem State.fetched_all {q : Nat} (ds : List Bytes) : ∀ {s : State}, (s.mode ≠ .quarantine ∨ s.queueClass q = 5) →
    (∀ b ∈ ds, s.isLate (parseDesc b) = false) →
    KeepsBut [.queues] s (ds.foldl (fun s b => s.fetched q (parseDesc b)) s)
      ∧ (ds.foldl (fun s b => s.fetched q (parseDesc b)) s).queue q
        = { s.queue q with buf := (s.queue q).buf ++ ds.map fun b => ⟨parseDesc b, s.tick⟩ } := by
  induction ds with
  | nil => exact fun {s} _ _ => ⟨.refl _ s, by simp⟩
  | cons b ds ih =>
    intro s serves inTime
    have one : s.fetched q (parseDesc b)
        = s.setQueue q { s.queue q with buf := (s.queue q).buf ++ [⟨parseDesc b, s.tick⟩] } := by
      have now := inTime b (List.mem_cons_self ..)
      unfold fetched
      rw [if_neg fun no => serves.elim (· no.1) no.2, now]
      rfl
    obtain ⟨keeps, queue⟩ := ih (s := s.fetched q (parseDesc b)) (by rw [one]; exact serves)
      (by rw [one]; exact fun c hc => inTime c (List.mem_cons_of_mem _ hc))
    rw [List.foldl_cons]
    refine ⟨KeepsBut.trans (t := s.fetched q (parseDesc b)) (by rw [one]; exact s.setQueue_keeps q _) keeps, ?_⟩
    rw [queue, one, queue_setQueue_same]
    simp only [List.append_assoc, List.map_cons, List.singleton_append]
    rfl

/-- The queue once the answer to its read has come. -/
def Queue.answered (x : Queue) (n rtt : Nat) : Queue :=
  { x with reading := 0, fetch := (x.fetch + n) % x.size, rttNs := min 65535 (rttNext x.rttNs rtt) }

theorem State.readDone_descriptors {s : State} {q : Nat} {ds : List Bytes} (rtt : Nat) (asked : 0 < (s.queue q).reading)
    (few : ds.length ≤ (s.queue q).reading) : s.readDone q (.descriptors ds) rtt
      = (ds.foldl (fun s b => s.fetched q (parseDesc b)) (s.setQueue q ((s.queue q).answered ds.length rtt))).rejectUnknown q := by
  unfold readDone
  simp only
  rw [if_neg (by omega), List.take_of_length_le few]
  rfl

theorem State.readDone_error {s : State} {q : Nat} (rtt : Nat) (asked : 0 < (s.queue q).reading) :
    s.readDone q .error rtt = s.queueError q 2 := by
  unfold readDone
  exact if_neg (by omega)

/-- A descriptor that a queue not served in QUARANTINE receives completes. -/
theorem State.fetched_quarantined {s : State} {q : Nat} (mode : s.mode = .quarantine) (other : s.queueClass q ≠ 5) (d : Desc) :
    s.fetched q d = s.complete q d .quarantined [] none false := by
  unfold fetched
  exact if_pos ⟨mode, other⟩

/-! ## Event buffers -/

/-- A queue with one more event buffer. -/
def State.eventBuffer (s : State) (q : Nat) (d : Desc) : State :=
  (s.popHead q).setQueue q
    { (s.popHead q).queue q with
      evBufs := ((s.popHead q).queue q).evBufs ++ [d], moved := ((s.popHead q).queue q).moved + 1 }

theorem State.eventBuffer_keeps (s : State) (q : Nat) (d : Desc) : KeepsBut [.queues] s (s.eventBuffer q d) :=
  KeepsBut.trans (t := s.popHead q) (s.setQueue_keeps q _) ((s.popHead q).setQueue_keeps q _)

theorem State.eventBuffer_queue (s : State) (q : Nat) (d : Desc) :
    ((s.eventBuffer q d).queue q).evBufs = (s.queue q).evBufs ++ [d]
      ∧ ((s.eventBuffer q d).queue q).buf = (s.queue q).buf.drop 1
      ∧ ∀ e st r, (s.eventBuffer q d).entryOut q e st r = s.entryOut q e st r := by
  have tick : (s.eventBuffer q d).tick = s.tick := rfl
  unfold entryOut
  rw [tick]
  unfold eventBuffer popHead
  simp only [queue_setQueue_same]
  exact ⟨trivial, trivial, fun _ _ _ => trivial⟩

theorem State.eventBuf_gives {s : State} {q : Nat} {h : Fetched} (head : (s.queue q).buf.head? = some h)
    (opcode : h.desc.opcode = 0x50) (ok : s.formRefusal q h.desc = none) :
    s.eventBuf q = ((s.eventBuffer q h.desc).drainStore q).rejectUnknown q := by
  have popped : (s.popHead q).formRefusal q h.desc = none := by
    have window : ((s.popHead q).queue q).inWindow h.desc = (s.queue q).inWindow h.desc := by
      unfold popHead
      rw [queue_setQueue_same]
      rfl
    have mode : (s.popHead q).mode = s.mode := rfl
    have cls : (s.popHead q).queueClass q = s.queueClass q := rfl
    unfold formRefusal at ok ⊢
    rw [window, mode, cls]
    exact ok
  unfold eventBuf
  cases buf : (s.queue q).buf with
  | nil => rw [buf] at head; cases head
  | cons x l =>
    obtain rfl : x = h := by rw [buf] at head; exact Option.some.inj head
    simp only
    rw [if_neg (fun no => no opcode), popped]
    rfl

theorem State.drainStore_none {s : State} {q : Nat} (h : ∀ e ∈ s.sch.store, e.1 ≠ q) : s.drainStore q = s := by
  unfold drainStore
  exact foldl_stays fun e he => if_neg fun no => h e he no.1

/-- The one event of the store goes to the queue's one buffer. -/
theorem State.drainStore_one {s : State} {q : Nat} {r : Bytes} {d : Desc} (store : s.sch.store = [(q, r)])
    (evBufs : (s.queue q).evBufs = [d]) : s.drainStore q
      = State.complete (({ s with sch := { s.sch with store := [] } } : State).setQueue q { s.queue q with evBufs := [] }) q d .ok
        (leBytes 1 (leAt r 0 1) ++ leBytes 1 r.length) (some r) false := by
  have held : (({ s with sch := { s.sch with store := [] } } : State).queue q).evBufs = [d] := evBufs
  unfold drainStore
  rw [store, List.foldl_cons, List.foldl_nil, if_pos ⟨rfl, by rw [evBufs]; exact List.cons_ne_nil _ _⟩]
  simp only [store, List.erase_cons_head]
  unfold fillBuffer
  simp only [held]
  rfl

/-- Settles O34: the buffer holds no unknown opcode, so nothing follows what each command names. -/
theorem descriptorFetch : Obligations.DescriptorFetch := by
  unfold Obligations.DescriptorFetch
  refine ⟨?_, ?_, ?_, ?_, ?_⟩
  · intro s q rtt ds running serves few asked good known
    let u := s.setQueue q ((s.queue q).answered ds.length rtt)
    have uq : u.queue q = (s.queue q).answered ds.length rtt := State.queue_setQueue_same ..
    obtain ⟨keeps, queue⟩ := State.fetched_all (s := u) (q := q) ds serves fun b hb => (good b hb).1
    rw [uq] at queue
    have rest := (State.readDone_descriptors rtt asked few).trans (State.rejectUnknown_known (q := q) (by
      rw [queue]
      intro f hf
      rcases List.mem_append.1 hf with old | new
      · exact known f old
      · obtain ⟨b, hb, rfl⟩ := List.mem_map.1 new
        exact (good b hb).2))
    refine runs_clock (fun s => s.readDone q (.descriptors ds) rtt) rfl running _ rest
      (KeepsBut.trans (t := u) (s.setQueue_keeps q _) keeps) ?_
    rw [(settle_settled _ _).que q, queue]
    rfl
  · intro s q rtt b running master mode other asked known
    let u := s.setQueue q ((s.queue q).answered 1 rtt)
    have uq : u.queue q = (s.queue q).answered 1 rtt := State.queue_setQueue_same ..
    have one : s.readDone q (.descriptors [b]) rtt = u.complete q (parseDesc b) .quarantined [] none false := by
      rw [State.readDone_descriptors (ds := [b]) rtt asked asked, List.foldl_cons, List.foldl_nil,
        State.fetched_quarantined (s := s.setQueue q _) mode other]
      refine State.rejectUnknown_known fun f hf => known f ?_
      rw [State.complete_buf, State.queue_setQueue_same] at hf
      exact hf
    refine runs_clock (fun s => s.readDone q (.descriptors [b]) rtt) rfl running _ one
      ((s.setQueue_keeps q _).within.also (State.complete_chats ..).keeps) ⟨mem_settle_out ?_, ?_⟩
    · have sent := (State.complete_sent (s := u) master q (parseDesc b) .quarantined [] none false).1
      unfold State.entryOut at sent
      rw [uq] at sent
      exact sent
    · rw [settle_queue Queue.buf _ _ _ fun _ _ => rfl, State.complete_buf, uq]
      rfl
  · intro s q rtt running asked
    refine runs_clock (fun s => s.readDone q .error rtt) rfl running _ (State.readDone_error rtt asked)
      (s.queueError_keeps q 2) ⟨?_, ?_, ?_⟩
    · rw [settle_queue Queue.state _ _ _ fun _ _ => rfl, State.queueError_state]
    · rw [settle_queue Queue.err _ _ _ fun _ _ => rfl, State.queueError_field Queue.err fun _ => rfl]
      rfl
    · rw [settle_queue Queue.buf _ _ _ fun _ _ => rfl, State.queueError_field Queue.buf fun _ => rfl]
      rfl
  · intro s q h running head opcode ok known unstored
    obtain ⟨evBufs, buf, -⟩ := s.eventBuffer_queue q h.desc
    have gives : s.eventBuf q = s.eventBuffer q h.desc := by
      rw [State.eventBuf_gives head opcode ok, State.drainStore_none (s := s.eventBuffer q h.desc) unstored]
      exact State.rejectUnknown_known fun f hf => known f (List.mem_of_mem_drop (buf ▸ hf))
    refine runs_clock (fun s => s.eventBuf q) rfl running _ gives (s.eventBuffer_keeps q h.desc) ⟨?_, ?_⟩
    · rw [settle_queue Queue.evBufs _ _ _ fun _ _ => rfl, evBufs]
    · rw [settle_queue Queue.buf _ _ _ fun _ _ => rfl, buf]
  · intro s q h r running master only opcode ok none store
    obtain ⟨evBufs, buf, entry⟩ := s.eventBuffer_queue q h.desc
    generalize hu : s.eventBuffer q h.desc = u at evBufs buf entry
    have keeps : KeepsBut [.queues] s u := hu ▸ s.eventBuffer_keeps q h.desc
    rw [none] at evBufs
    let v := ({ u with sch := { u.sch with store := [] } } : State).setQueue q { u.queue q with evBufs := [] }
    have vq : v.queue q = { u.queue q with evBufs := [] } := State.queue_setQueue_same ..
    have uMaster : u.canMaster = true := by rw [← hu]; exact master
    have gives : s.eventBuf q
        = v.complete q h.desc .ok (leBytes 1 (leAt r 0 1) ++ leBytes 1 r.length) (some r) false := by
      rw [State.eventBuf_gives (by rw [only]; rfl) opcode ok, hu,
        State.drainStore_one (by rw [← hu]; exact store) evBufs]
      refine State.rejectUnknown_known fun f hf => ?_
      rw [State.complete_buf, State.queue_setQueue_same, buf, only] at hf
      cases hf
    obtain ⟨sent, data⟩ := State.complete_sent (s := v) uMaster q h.desc .ok
      (leBytes 1 (leAt r 0 1) ++ leBytes 1 r.length) (some r) false
    refine runs_clock (fun s => s.eventBuf q) rfl running _ gives ?_
      ⟨mem_settle_out (data r rfl), mem_settle_out ?_, ?_, ?_⟩
    · have emptied : KeepsBut [.sch] u { u with sch := { u.sch with store := [] } } := keepsBut_of_restore (by cases u; rfl)
      exact ((keeps.within.also emptied).also (State.setQueue_keeps _ q _)).also (State.complete_chats ..).keeps
    · rw [← entry]
      unfold State.entryOut at sent ⊢
      rw [vq] at sent
      exact sent
    · rw [settle_queue Queue.evBufs _ _ _ fun _ _ => rfl, State.complete_evBufs (s := v) uMaster, vq]
    · rw [settle_sch, State.complete_sch (s := v) uMaster]
      rfl

end Sys2Proof.Machine
end

section
/-! PROOF. Pages, write-back rounds and commit locks of the Larder (R344, R346–R348, R350–R352). -/

namespace Sys2Proof.Machine

/-! ## What a page's new version leaves of the Larder -/

/-- The Larder without its tables of pages. -/
def Larder.pageless (x : Larder) : Larder :=
  { x with dirty := [], frames := [], versions := [], tree := [], ddr := [], ddrNodes := [] }

/-- `t` is `s` with other tables of pages. -/
structure Paged (s t : State) : Prop where
  rest : { t with ldr := s.ldr } = s
  pageless : t.ldr.pageless = s.ldr.pageless

theorem Paged.refl (s : State) : Paged s s := ⟨rfl, rfl⟩

theorem Paged.trans {s t u : State} (h : Paged s t) (k : Paged t u) : Paged s u :=
  ⟨((congrArg (fun v : State => { v with ldr := s.ldr }) k.rest :).trans h.rest), k.pageless.trans h.pageless⟩

theorem Paged.foldl {α : Type} (f : State → α → State) (hf : ∀ s a, Paged s (f s a)) (l : List α) (s : State) :
    Paged s (l.foldl f s) := by
  induction l generalizing s with
  | nil => exact .refl s
  | cons a l ih => exact (hf s a).trans (ih _)

theorem Paged.eq {s t : State} (h : Paged s t) : t = { s with ldr := t.ldr } :=
  (congrArg (fun v : State => { v with ldr := t.ldr }) h.rest :)

theorem Paged.keeps {s t : State} (h : Paged s t) : KeepsBut [.ldr] s t := by
  rw [h.eq]
  exact s.withLdr_keeps _

theorem State.storeDdr_paged (s : State) (page : Nat) : Paged s (s.storeDdr page) := ⟨rfl, rfl⟩

theorem State.touchPage_paged (s : State) (page : Nat) : Paged s (s.touchPage page) := by
  unfold touchPage
  split
  · exact .refl s
  · have stamped : Paged s (if s.ldr.dirty.any (·.1 == page) then s
        else { s with ldr := { s.ldr with dirty := s.ldr.dirty ++ [(page, s.tick)] } }) := by
      split
      · exact .refl s
      · exact ⟨rfl, rfl⟩
    refine stamped.trans ?_
    generalize (if s.ldr.dirty.any (·.1 == page) then s
        else { s with ldr := { s.ldr with dirty := s.ldr.dirty ++ [(page, s.tick)] } }) = u
    dsimp only
    split
    · exact ⟨rfl, rfl⟩
    · exact u.storeDdr_paged page

/-- A record's change leaves the rest of the Larder but its tables of pages. -/
theorem State.putRecord_paged (s : State) (n : Nat) (r : Record) :
    Paged { s with ldr := { s.ldr with records := tabSet recordFree s.ldr.records n r } } (s.putRecord n r) :=
  touchPage_paged _ _

/-! ## Pages arrive (R344, R350) -/

/-- The fetch of a page has ended, and is counted. -/
def State.pageCame (s : State) : State :=
  { s with ldr := { s.ldr with faults := [], cFaultsDdr := satInc s.ldr.cFaultsDdr } }

theorem State.pageCame_keeps (s : State) : KeepsBut [.ldr] s s.pageCame := s.withLdr_keeps _

/-- Nothing waits for the page but the fetch itself. -/
theorem State.pageArrived_calm {s : State} {page : Nat} (ops : ∀ o ∈ s.sch.ops, o.phase ≠ .page page)
    (auths : ∀ e ∈ s.auths, e.2.2.stage ≠ .bind ∧ e.2.2.stage ≠ .issuer) : s.pageArrived page = s := by
  have noOps : (s.sch.ops.filter fun o => o.phase == .page page) = [] :=
    List.filter_eq_nil_iff.2 fun o ho => by simpa using ops o ho
  have noAuths : (s.auths.filter fun e => e.2.2.stage == .bind || e.2.2.stage == .issuer) = [] :=
    List.filter_eq_nil_iff.2 fun e he => by simpa using auths e he
  unfold pageArrived
  rw [noOps]
  simp only [List.foldl_nil]
  rw [noAuths]
  rfl

/-- The fetch, the only one, of a page in DDR4 that is not POISONED comes back with its nodes good. -/
structure State.Fetches (s : State) (page : Nat) (chk : PageCheck) : Prop where
  only : s.ldr.faults = [page]
  room : s.ldr.frames.length < 512
  well : s.poisoned page = false
  written : tabGet 0 s.ldr.versions page ≠ 0
  there : s.inDdr page = true
  node : chk.badNode = none
  ce : chk.ddrCe = false
  ue : chk.ddrUe = false
  ops : ∀ o ∈ s.sch.ops, o.phase ≠ .page page
  auths : ∀ e ∈ s.auths, e.2.2.stage ≠ .bind ∧ e.2.2.stage ≠ .issuer

/-- Its fetch ends, and what the check of its copy in DDR4 says follows. -/
theorem State.Fetches.done {s : State} {page : Nat} {chk : PageCheck} (h : s.Fetches page chk) {t : State} {ok : Bool}
    (fetched : (if chk.ddrOk then (s.pageCame, true)
      else if !s.pageNewer page && chk.flashOk then
        ({ s.pageCame with ldr := { s.pageCame.ldr with cRecovered := satInc s.ldr.cRecovered } }, true)
      else (s.pageCame.poison page, false)) = (t, ok)) :
    s.pageDone page chk = (if ok then t.install page else t).pageArrived page := by
  let u : State := { s with ldr := { s.ldr with faults := [] } }
  have gone : s.ldr.faults.filter (· != page) = [] := by rw [h.only]; simp
  have free : s.frameFree = true := by simp [frameFree, h.room]
  have wanted : s.ldr.faults.contains page = true := by rw [h.only]; simp
  have comes : u.fetchPage page chk true = (t, ok) := by
    rw [← fetched]
    unfold fetchPage
    rw [if_neg (show ¬ u.poisoned page = true by rw [show u.poisoned page = s.poisoned page from rfl, h.well]; decide),
      if_neg (show ¬ tabGet 0 u.ldr.versions page = 0 from h.written), if_pos (show u.inDdr page = true from h.there),
      h.node, h.ce, h.ue]
    cases chk.ddrOk <;> rfl
  unfold pageDone
  rw [free, wanted, gone]
  show State.pageArrived (if (u.fetchPage page chk true).2 then (u.fetchPage page chk true).1.install page
    else (u.fetchPage page chk true).1) page = _
  rw [comes]

/-- A page takes a frame that was not used. -/
def State.appended (s : State) (page : Nat) : State := { s with ldr := { s.ldr with
  frames := s.ldr.frames ++ [{ page := page, ref := true, pins := [], dirty := false }] } }

/-- A checked page is in the cache. -/
def State.framed (s : State) (page : Nat) : State := if s.cached page then s.referenced page else s.appended page

theorem State.framed_cached (s : State) (page : Nat) : (s.framed page).cached page = true := by
  unfold framed
  split
  · next cached => rw [referenced_cached, cached]
  · simp [appended, State.cached]

/-- It shows in the frames only. -/
theorem State.framed_ldr (s : State) (page : Nat) : ∃ fs, s.framed page = { s with ldr := { s.ldr with frames := fs } } := by
  unfold framed
  split
  · exact ⟨_, rfl⟩
  · exact ⟨_, rfl⟩

theorem State.install_framed {s : State} {page : Nat} (room : s.ldr.frames.length < 512)
    (clear : page < 16384 → ∀ k < 16, s.counterClear (16 * page + k) = true) : s.install page = s.framed page := by
  by_cases cached : s.cached page = true
  · unfold install framed
    simp only [if_pos cached]
    split
    · next record =>
      exact foldl_stays (s := s.referenced page) fun k hk => orphan_clear fun _ => clear record k (List.mem_range.1 hk)
    · rfl
  · unfold install framed
    simp only [if_neg cached, if_pos room]
    split
    · next record =>
      exact foldl_stays (s := s.appended page) fun k hk => orphan_clear fun _ => clear record k (List.mem_range.1 hk)
    · rfl

theorem State.Fetches.sound {s : State} {page : Nat} {chk : PageCheck} (h : s.Fetches page chk) (ok : chk.ddrOk = true)
    (clear : page < 16384 → ∀ k < 16, s.counterClear (16 * page + k) = true) :
    s.pageDone page chk = s.pageCame.framed page := by
  rw [h.done (t := s.pageCame) (ok := true) (by rw [ok]; rfl), if_pos rfl,
    install_framed (s := s.pageCame) h.room clear]
  obtain ⟨fs, eq⟩ := s.pageCame.framed_ldr page
  rw [eq]
  exact pageArrived_calm h.ops h.auths

/-- No tier gives the page again. -/
def State.withPoison (s : State) (page : Nat) : State := { s with ldr := { s.ldr with
  poisoned := insertNew s.ldr.poisoned page, poisonPage := page, cIntegrity := satInc s.ldr.cIntegrity
  integritySeen := true, dirty := s.ldr.dirty.filter (·.1 != page)
  frames := s.ldr.frames.filter (·.page != page), ddr := tabDel s.ldr.ddr page } }

theorem State.Fetches.lost {s : State} {page : Nat} {chk : PageCheck} (h : s.Fetches page chk) (bad : chk.ddrOk = false)
    (older : s.pageNewer page = true ∨ chk.flashOk = false) :
    s.pageDone page chk = (s.pageCame.withPoison page).raise .integrity := by
  have no : (!s.pageNewer page && chk.flashOk) = false := by rcases older with h | h <;> rw [h] <;> simp
  rw [h.done (t := s.pageCame.poison page) (ok := false) (by rw [bad, no]; rfl), if_neg Bool.false_ne_true]
  have chats : Chats (s.pageCame.withPoison page) (s.pageCame.poison page) := raise_chats _ _
  refine pageArrived_calm (fun o ho => h.ops o (chats.ops ▸ ho)) fun e he => h.auths e ?_
  have ports : (s.pageCame.poison page).ports = s.ports := chats.ports
  unfold State.auths at he ⊢
  rw [← ports]
  exact he

/-! ## Rounds (R346–R348) -/

/-- The round that begins with the pages as they stand. -/
def State.newRound (s : State) (needs : List Need) : Round :=
  { pages := s.ldr.dirty, records := s.ldr.records, index := s.ldr.index, issuers := s.ldr.issuers,
    versions := s.ldr.versions, tree := s.ldr.tree, gen := s.ldr.issuerGen, needs := needs }

/-- It runs. -/
def State.withRound (s : State) (needs : List Need) : State := { s with ldr := { s.ldr with
  running := some (s.newRound needs), frames := s.ldr.frames.map fun f => { f with dirty := false }
  dirty := [], needs := [], flushNext := false } }

/-- What a round gives its dirty pages before it begins. -/
def State.allStored (s : State) : State := s.ldr.dirty.foldl (fun s e => s.storeDdr e.1) s

theorem State.allStored_paged (s : State) : Paged s s.allStored := Paged.foldl _ (fun (u : State) (e : Nat × BitVec 64) => u.storeDdr_paged e.1) _ _

theorem State.allStored_dirty (s : State) : s.allStored.ldr.dirty = s.ldr.dirty := by
  have keeps : ∀ (l : List (Nat × BitVec 64)) (u : State),
      (l.foldl (fun s e => s.storeDdr e.1) u).ldr.dirty = u.ldr.dirty := by
    intro l
    induction l with
    | nil => exact fun _ => rfl
    | cons e l ih => exact fun u => ih _
  exact keeps _ _

theorem State.roundStart_begins {s : State} (may : s.roundMay = true) (due : s.roundDue = true)
    (sound : s.ldr.poisoned = []) : ∃ needs, s.roundStart = s.allStored.withRound needs := by
  unfold roundStart
  rw [if_pos (by rw [may, due]; rfl), sound]
  exact ⟨_, rfl⟩

/-- The header that a round writes stands in the header block not in force. -/
def State.withHeader (s : State) (i : Nat) (h : Header) (copies : List (Nat × Bool)) : State := { s with flash :=
  { if i = 0 then { s.flash with hdr0 := some h } else { s.flash with hdr1 := some h } with copies := copies } }

/-- A round is whole. -/
def State.roundWhole (s : State) : State := { s with ldr := { s.ldr with
  running := none, header := 1 - s.ldr.header, round := s.ldr.round + 1, roundFail := false
  cRounds := satInc s.ldr.cRounds, flushNext := false } }

theorem State.roundEnd_commits {s : State} {r : Round} (runs : s.ldr.running = some r) (needs : r.needs = [])
    (reads : s.recordSuspended = false) :
    s.roundEnd true = (s.roundWhole).withHeader (1 - s.ldr.header) (s.roundHeader r) (s.copiesKept r) := by
  unfold roundEnd
  rw [runs]
  simp only
  rw [reads, if_neg Bool.false_ne_true, if_pos True.intro, needs, List.foldl_nil]
  unfold roundCommit setHeader withHeader roundWhole
  rw [needs]
  dsimp only
  split <;> simp

/-- A round is given up. -/
def State.roundLost (s : State) (r : Round) : State := { s with ldr := { s.ldr with
  running := none, dirty := r.pages.filter fun e => !s.poisoned e.1, holdoff := some (s.tick + 100000)
  roundFail := true, cRoundFails := satInc s.ldr.cRoundFails, flushNext := false } }

/-- The header block being written may tear. -/
theorem State.tearHeader_eq (s : State) (r : Round) : ∃ f n, s.tearHeader r = { s with flash := f, free := n } := by
  unfold tearHeader setHeader
  simp only
  split
  · exact ⟨_, _, rfl⟩
  · exact ⟨_, _, rfl⟩

theorem State.roundEnd_abandons {s : State} {r : Round} (runs : s.ldr.running = some r) (needs : r.needs = [])
    (clean : s.ldr.dirty = []) (reads : s.recordSuspended = false) :
    ∃ f n, s.roundEnd false = ({ s.roundLost r with flash := f, free := n } : State).raise .integrity := by
  obtain ⟨f, n, torn⟩ := s.tearHeader_eq r
  refine ⟨f, n, ?_⟩
  unfold roundEnd
  rw [runs]
  simp only
  rw [reads, if_neg Bool.false_ne_true, if_neg Bool.false_ne_true, needs, List.reverse_nil, List.foldl_nil]
  unfold roundAbandon
  rw [torn, needs]
  simp only [clean]
  unfold roundLost
  simp
  rfl

/-! ## The lock's end (R351) -/

/-- A label withdrawn from a round that runs. -/
def State.withdrawn (s : State) (n : Nat) (label : BitVec 256) : State := { s with ldr := { s.ldr with
  running := s.ldr.running.map fun (x : Round) => { x with records := relabel x.records n label } } }

/-- The lock is gone. -/
def State.unlocked (s : State) : State := { s with ldr := { s.ldr with
  locked := [], lockOld := [], parked := [], lockWait := [], needs := s.ldr.needs.filter (· != Need.glaze)
  running := s.ldr.running.map fun (r : Round) => { r with needs := r.needs.filter (· != Need.glaze) } } }

/-- The lock of one record ends, its label as it was. -/
def State.lockGone (s : State) (n : Nat) (label : BitVec 256) : State :=
  ((s.putRecord n { s.record n with label := label }).withdrawn n label).unlocked

theorem State.lockEnd_one {s : State} {n : Nat} {old : Record} (locked : s.ldr.locked = [n])
    (olds : s.ldr.lockOld = [(n, old)]) (waits : s.ldr.lockWait = []) (parked : s.ldr.parked = [])
    (idle : s.glz.commit = none) (other : (s.record n).label ≠ old.label) : s.lockEnd false = s.lockGone n old.label := by
  have unstaged : s.unstage = (s.putRecord n { s.record n with label := old.label }).withdrawn n old.label := by
    unfold unstage
    rw [olds, List.foldl_cons, List.foldl_nil]
    exact if_neg other
  have paged := s.putRecord_paged n { s.record n with label := old.label }
  generalize hu : (s.putRecord n { s.record n with label := old.label }).withdrawn n old.label = u at unstaged
  have parked' : u.ldr.parked = [] := by
    rw [← hu]
    exact (congrArg Larder.parked paged.pageless :).trans parked
  have commit : u.unlocked.glz.commit = none := by
    rw [← hu]
    exact (congrArg (fun t : State => t.glz.commit) paged.rest :).trans idle
  unfold lockEnd
  rw [if_neg (by rw [locked]; simp), waits, if_neg Bool.false_ne_true, unstaged]
  unfold unlock
  dsimp only
  rw [parked']
  show u.unlocked.glzLockEnded false = _
  unfold glzLockEnded
  rw [commit]
  unfold lockGone
  rw [hu]

/-- Settles O35: the fetch, the round and the lock each end in a state that is named above, in which nothing more waits. -/
theorem pagesAndRounds : Obligations.PagesAndRounds := by
  unfold Obligations.PagesAndRounds
  refine ⟨?_, ?_, ?_, ?_, ?_, ?_, ?_⟩
  · intro s page chk running quiet faults well room written there node ok ce ue clear ops auths
    have fetches : s.Fetches page chk := ⟨faults, room, well, written, there, node, ce, ue, ops, auths⟩
    obtain ⟨fs, eq⟩ := s.pageCame.framed_ldr page
    have cached := s.pageCame.framed_cached page
    have sound := fetches.sound ok clear
    rw [eq] at cached sound
    refine runs_react (fun s => s.pageDone page chk) rfl running _ sound (quiet_congr quiet) (s.withLdr_keeps _) ?_
    unfold State.cached at cached ⊢
    rw [settle_ldr]
    exact ⟨cached, rfl, rfl, rfl⟩
  · intro s page chk running quiet faults well room written there node bad older ce ue ops auths
    have fetches : s.Fetches page chk := ⟨faults, room, well, written, there, node, ce, ue, ops, auths⟩
    let u := s.pageCame.withPoison page
    have chats : Chats u (u.raise .integrity) := State.raise_chats _ _
    have keeps : KeepsBut [.ldr, .irq] s (u.raise .integrity) :=
      KeepsBut.within (s.withLdr_keeps _) |>.also (u.raise_keeps .integrity)
    refine runs_react (fun s => s.pageDone page chk) rfl running _ (fetches.lost bad older)
      (chats.quiet (quiet_congr quiet)) keeps ?_
    have poisoned : u.poisoned page = true := by
      show (insertNew s.ldr.poisoned page).contains page = true
      unfold insertNew
      split
      · simpa
      · simp
    unfold State.poisoned at poisoned ⊢
    rw [settle_ldr, settle_irqStat, chats.ldr]
    exact ⟨poisoned, rfl, rfl, rfl, rfl, fun one => State.raise_bit (s := u) .integrity one⟩
  · intro s running may due sound
    obtain ⟨needs, begins⟩ := State.roundStart_begins may due sound
    have paged := s.allStored_paged
    have same {α : Type} (f : Larder → α) (blind : ∀ x, f x.pageless = f x) : f s.allStored.ldr = f s.ldr := by
      rw [← blind, paged.pageless, blind]
    refine runs_clock State.roundStart rfl running _ begins
      (paged.keeps.trans (s.allStored.withLdr_keeps _)) ?_
    rw [settle_ldr]
    exact ⟨⟨_, rfl, s.allStored_dirty, same Larder.records fun _ => rfl, same Larder.index fun _ => rfl,
      same Larder.issuers fun _ => rfl⟩, rfl, rfl, same Larder.records fun _ => rfl⟩
  · intro s r running quiet runs needs reads
    have keeps : KeepsBut [.ldr, .flash] s
        (s.roundWhole.withHeader (1 - s.ldr.header) (s.roundHeader r) (s.copiesKept r)) :=
      keepsBut_of_restore (by cases s; rfl)
    refine runs_react (fun s => s.roundEnd true) rfl running _ (State.roundEnd_commits runs needs reads)
      (quiet_congr quiet) keeps ?_
    rw [settle_flash, settle_ldr]
    refine ⟨?_, rfl⟩
    unfold State.withHeader
    dsimp only
    split <;> rfl
  · intro s r running quiet runs needs clean reads
    obtain ⟨f, n, ends⟩ := State.roundEnd_abandons runs needs clean reads
    let u : State := { s.roundLost r with flash := f, free := n }
    have keeps : KeepsBut [.ldr, .flash, .free, .irq] s u := keepsBut_of_restore (by cases s; rfl)
    have chats : Chats u (u.raise .integrity) := State.raise_chats _ _
    refine runs_react (fun s => s.roundEnd false) rfl running _ ends (chats.quiet (quiet_congr quiet))
      (keeps.trans (u.raise_keeps .integrity).within) ?_
    rw [settle_ldr, chats.ldr]
    rfl
  · intro s running
    refine runs_clock (fun s => { s with ldr := { s.ldr with holdoff := none } }) rfl running _ rfl
      (s.withLdr_keeps _) ?_
    rw [settle_ldr]
  · intro s n old running quiet locked olds waits parked idle other
    have paged := s.putRecord_paged n { s.record n with label := old.label }
    have stalled : (s.lockGone n old.label).ldr.stalled = s.ldr.stalled := (congrArg Larder.stalled paged.pageless :)
    have rest : ∃ x, s.lockGone n old.label = { s with ldr := x } := by
      unfold State.lockGone
      rw [paged.eq]
      exact ⟨_, rfl⟩
    obtain ⟨x, eq⟩ := rest
    have record (m : Nat) : (s.lockGone n old.label).record m
        = if m = n then { s.record n with label := old.label } else s.record m := s.record_putRecord n m _
    have gone : ((s.lockGone n old.label).ldr.locked) = [] := rfl
    rw [eq] at stalled record gone
    refine runs_react (fun s => if s.ldr.locked = [] then s else s.lockEnd false) rfl running { s with ldr := x } ?_
      (quiet_congr quiet (window := stalled)) (s.withLdr_keeps _) ⟨?_, ?_, fun m hm => ?_⟩
    · rw [if_neg (by rw [locked]; simp), State.lockEnd_one locked olds waits parked idle other, eq]
    · rw [settle_ldr]
      exact gone
    · rw [record_settle, record, if_pos rfl]
    · rw [record_settle, record, if_neg hm]

end Sys2Proof.Machine
end

section
/-! PROOF. Host operations that begin and wait, their pages there, and those the counter unit takes at once (R294, R295,
R343, R382). -/

namespace Sys2Proof.Machine

/-! ## One more operation that waits -/

theorem State.opQuiet_congr {s t : State} (ports : t.ports = s.ports) (rcp : t.rcp = s.rcp) (life : t.life = s.life)
    (o : Op) : t.opQuiet o = s.opQuiet o := by
  simp only [opQuiet, port, onWire, engineActive, unitIs, unit, affinity, queueEntry, eccMay, idleEcc, auths, ports, rcp,
    life]

/-- A quiet block in which one more operation waits for what is still to come is quiet. -/
theorem State.quiet_joined {s t : State} {o : Op} (quiet : s.quiet) (ops : t.sch.ops = s.sch.ops ++ [o])
    (calm : s.opQuiet o = true) (ports : t.ports = s.ports) (rcp : t.rcp = s.rcp) (life : t.life = s.life)
    (arrivals : t.cnt.arrivals = []) (commits : t.cnt.queue = [] ∨ t.cnt.busy.isSome = true) (glz : t.glz = s.glz)
    (window : t.ldr.stalled = s.ldr.stalled) : t.quiet := by
  obtain ⟨waits, -, quietPorts, hand, commit, stalled, held⟩ := quiet
  unfold quiet
  rw [ops, ports, glz, window]
  refine ⟨fun x hx => ?_, ⟨arrivals, commits⟩, quietPorts, hand, commit, stalled, held⟩
  rw [opQuiet_congr ports rcp life]
  rcases List.mem_append.1 hx with old | new
  · exact waits x old
  · rw [List.mem_singleton.1 new]
    exact calm

/-! ## Pages that are there (R343) -/

theorem State.needPage_there {s : State} {page : Nat} (there : s.pageThere page) (ctx : Nat) :
    s.needPage page ctx = (s.pin page ctx, .ready) := by
  obtain ⟨cached, well⟩ := there
  unfold needPage
  rw [well, cached]
  rfl

theorem State.opPage_there {s : State} {o : Op} {page : Nat} (there : s.pageThere page) (k : State → State) :
    s.opPage o page k = k (s.pin page o.ctx) := by
  unfold opPage
  rw [needPage_there there]

theorem State.pageThere_pin {s : State} {page : Nat} (there : s.pageThere page) (p ctx : Nat) :
    (s.pin p ctx).pageThere page := by
  obtain ⟨cached, well⟩ := there
  refine ⟨?_, well⟩
  unfold State.cached pin
  rw [List.any_map]
  unfold State.cached at cached
  rw [← cached]
  congr 1
  funext f
  simp only [Function.comp_apply]
  split <;> rfl

theorem State.opPages_there {o : Op} {k : State → State} (pages : List Nat) : ∀ {s : State},
    (∀ p ∈ pages, s.pageThere p) → State.opPages o k pages s = k (pages.foldl (fun s p => s.pin p o.ctx) s) := by
  induction pages with
  | nil => exact fun _ => rfl
  | cons p ps ih =>
    intro s there
    unfold opPages
    rw [opPage_there (there p (List.mem_cons_self ..)),
      ih fun g hg => pageThere_pin (there g (List.mem_cons_of_mem _ hg)) p o.ctx]
    rfl

/-- Pins show in the frames of the cache only. -/
theorem State.pins_ldr (pages : List Nat) (ctx : Nat) (s : State) :
    ∃ fs, pages.foldl (fun s p => s.pin p ctx) s = { s with ldr := { s.ldr with frames := fs } } := by
  induction pages generalizing s with
  | nil => exact ⟨s.ldr.frames, rfl⟩
  | cons p ps ih =>
    obtain ⟨fs, eq⟩ := ih (s.pin p ctx)
    exact ⟨fs, eq⟩

/-! ## What a descriptor's check says holds while it takes its context -/

theorem State.takeIn_pageThere {s : State} {page : Nat} (there : s.pageThere page) (q : Nat) (h : Fetched) :
    (s.takeIn q h).pageThere page := by
  unfold pageThere cached poisoned
  rw [takeIn_ldr]
  exact there

theorem State.Takes.late {s : State} {q code : Nat} {h : Fetched} (k : s.Takes q code h) :
    (s.takeIn q h).isLate h.desc = false := by
  unfold isLate
  rw [takeIn_tick]
  exact k.inTime

/-- With its descriptor in time an operation goes on. -/
theorem State.opInTime_goes {s : State} {o : Op} (inTime : s.isLate o.desc = false) (k : State → State) :
    s.opInTime o k = k s := by
  unfold opInTime
  rw [inTime, Bool.and_false]
  rfl

theorem State.posGate_takeIn (s : State) (q : Nat) (h : Fetched) (d : Desc) (u : Option Status) :
    (s.takeIn q h).posGate d u = s.posGate d u := by
  unfold posGate port
  rw [takeIn_ports]

/-! ## The counter unit takes a request at once (R294, R295) -/

/-- What follows the first pass of the counter unit. -/
def State.afterCommits (s : State) : State :=
  let s := s.glzAdvance.commitPass.commitPass
  let s := s.serveStalled.glzResume
  State.giveCtx s.ctxWaiters.length s

theorem State.react_afterCommits (s : State) :
    s.react = (s.engineKick.sweepOps.prepareAll.glzAnswer).commitPass.afterCommits := rfl

theorem State.glzAnswer_quiet {s : State} (hand : ∀ h, s.glz.hand = some h → h.reply.isSome = true) : s.glzAnswer = s := by
  unfold glzAnswer
  cases held : s.glz.hand with
  | none => rfl
  | some h => exact if_pos (hand h held)

/-- Only the counter unit has something to do, and is done with it in one pass. -/
theorem State.react_pass {s t : State} (ops : ∀ o ∈ s.sch.ops, s.opQuiet o = true)
    (ports : ∀ e ∈ s.ports, e.2.quiet = true) (hand : ∀ h, s.glz.hand = some h → h.reply.isSome = true)
    (pass : s.commitPass = t) (quiet : t.quiet) : s.react = t := by
  have rest : t.afterCommits = t := by
    have still := react_quiet quiet
    obtain ⟨waits, ⟨arrivals, commits⟩, quietPorts, heard, -⟩ := quiet
    rw [react_afterCommits, engineKick_quiet quietPorts waits, sweepOps_quiet waits, prepareAll_quiet quietPorts,
      glzAnswer_quiet heard, commitPass_quiet arrivals commits] at still
    exact still
  rw [react_afterCommits, engineKick_quiet ports ops, sweepOps_quiet ops, prepareAll_quiet ports, glzAnswer_quiet hand,
    pass, rest]

theorem runs_pass {c : Instr} {s u : State} {ch : List Part} {post : State → Prop} (f : State → State)
    (exec_eq : exec c s = reacting s f) (running : s.running = true) (t : State) (does : f s = u)
    (ops : ∀ o ∈ u.sch.ops, u.opQuiet o = true) (ports : ∀ e ∈ u.ports, e.2.quiet = true)
    (hand : ∀ h, u.glz.hand = some h → h.reply.isSome = true) (pass : u.commitPass = t) (quiet : t.quiet)
    (keeps : KeepsBut ch s t) (holds : post (settle s t)) : Runs c s ch post := by
  refine ⟨_, exec_eq.trans (onClock_next _ running), ?_, ?_⟩
  · rw [does, State.react_pass ops ports hand pass quiet]
    exact keepsBut_settle keeps
  · rw [does, State.react_pass ops ports hand pass quiet]
    exact holds

/-- The counter unit with one request, the first. -/
def State.asked (s : State) (c : Commit) : State := { s with cnt := { s.cnt with arrivals := [], queue := [c] } }

/-- It writes the request's entry. -/
def State.entering (s : State) (c : Commit) (e : Entry) : State :=
  { s with cnt := { s.cnt with arrivals := [], queue := [c], busy := some e } }

/-- It has turned the request down. -/
def State.turned (s : State) : State := { s with cnt := { s.cnt with arrivals := [], queue := [] } }

section
variable {s : State} {c : Commit} (arrived : s.cnt.arrivals = [c]) (empty : s.cnt.queue = []) (idle : s.cnt.busy = none)
include arrived empty

theorem State.orderArrivals_one : s.orderArrivals = s.asked c := by
  unfold orderArrivals asked
  rw [if_neg (by rw [arrived]; exact List.cons_ne_nil _ _), arrived, empty]
  rfl

include idle

theorem State.commitPass_begins {e : Entry} (judged : s.judge c = .begin_ e) :
    s.commitPass = (s.entering c e).commitPoint c := by
  have same : (s.asked c).judge c = s.judge c := rfl
  have free : (s.asked c).cnt.busy = none := idle
  have one : (s.asked c).kickCommits = ((s.entering c e).commitPoint c, []) := by
    show State.serveCommits 1 (s.asked c) = _
    unfold serveCommits
    rw [free, show (s.asked c).cnt.queue = [c] from rfl]
    simp only
    rw [same, judged]
    rfl
  unfold commitPass
  rw [orderArrivals_one arrived empty, one]
  rfl

theorem State.commitPass_refuses {st : Status} {v : Nat} (judged : s.judge c = .refuse st v) (held : st ≠ .supplyHold) :
    s.commitPass = s.turned.deliver ⟨c.owner, some st, false, v⟩ := by
  have same : (s.asked c).judge c = s.judge c := rfl
  have free : (s.asked c).cnt.busy = none := idle
  have one : (s.asked c).kickCommits = (s.turned, [⟨c.owner, some st, false, v⟩]) := by
    show State.serveCommits 1 (s.asked c) = _
    unfold serveCommits
    rw [free, show (s.asked c).cnt.queue = [c] from rfl]
    simp only
    rw [same, judged]
    simp only
    unfold countHold
    rw [if_neg held]
    rfl
  unfold commitPass
  rw [orderArrivals_one arrived empty, one]
  rfl

end

end Sys2Proof.Machine
end

section
/-! PROOF. Operations on a position wait in their port's queue (R36, R370): what a port's change leaves at rest. -/

namespace Sys2Proof.Machine

/-! ## A port that changes -/

/-- A port has an operation in its queue or on its wire. -/
def Port.holds (x : Port) (ctx : Nat) : Bool :=
  x.hostq.contains ctx || (match x.txn with | none => false | some t => t.owner == .host ctx)

theorem State.held_eq (s : State) (p ctx : Nat) : ((s.port p).hostq.contains ctx || s.onWire p ctx) = (s.port p).holds ctx := rfl

/-- An authentication at a port has an ECC engine. -/
def Port.engages (x : Port) (u : Nat) : Prop := ∃ y ∈ x.pos, ∃ a, y.2.auth = some a ∧ a.unit = some u

theorem mem_tabPut_old {α : Type} (d : α) {t : Tab α} {k : Nat} {v : α} {e : Nat × α} (h : e ∈ t) :
    e ∈ tabPut t k v ∨ e = (k, tabGet d t k) := by
  induction t with
  | nil => cases h
  | cons a t ih =>
    obtain ⟨i, w⟩ := a
    simp only [tabPut, tabGet]
    rcases List.mem_cons.1 h with rfl | older
    · by_cases above : k < i
      · exact .inl (by simp [above])
      · by_cases here : k = i
        · exact .inr (by simp [here])
        · exact .inl (by simp [above, here])
    · by_cases above : k < i
      · exact .inl (by simp [above, older])
      · by_cases here : k = i
        · exact .inl (by simp [here, older])
        · rw [if_neg above, if_neg here, if_neg (Ne.symm here)]
          exact (ih older).imp_left (List.mem_cons_of_mem _)

theorem State.engaged_iff {s : State} {u : Nat} :
    (s.auths.any fun e => e.2.2.unit == some u) = true ↔ ∃ e ∈ s.ports, e.2.engages u := by
  rw [List.any_eq_true]
  constructor
  · rintro ⟨e, he, unit⟩
    obtain ⟨p, hp, x, hx, auth⟩ := mem_auths he
    exact ⟨p, hp, x, hx, e.2.2, auth, by simpa using unit⟩
  · rintro ⟨p, hp, x, hx, a, auth, unit⟩
    refine ⟨(p.1, x.1, a), ?_, by simpa using unit⟩
    unfold auths
    refine List.mem_flatMap.2 ⟨p, hp, List.mem_filterMap.2 ⟨x, hx, ?_⟩⟩
    rw [auth]

section
variable {s : State} {p : Nat} {x : Port} (on : x ≠ portOff) (engages : ∀ u, (s.port p).engages u → x.engages u)
include on engages

theorem State.engaged_setPort {u : Nat} (h : ∃ e ∈ s.ports, e.2.engages u) : ∃ e ∈ (s.setPort p x).ports, e.2.engages u := by
  have listed : (s.setPort p x).ports = tabPut s.ports p x := by
    unfold setPort tabSet
    rw [if_neg on]
  have new : (p, x) ∈ tabPut s.ports p x := by
    have found : ∀ t : Tab Port, (p, x) ∈ tabPut t p x := by
      intro t
      induction t with
      | nil => exact List.mem_singleton_self _
      | cons a t ih =>
        obtain ⟨i, w⟩ := a
        simp only [tabPut]
        split
        · exact List.mem_cons_self ..
        · split
          · exact List.mem_cons_self ..
          · exact List.mem_cons_of_mem _ ih
    exact found _
  obtain ⟨e, he, busy⟩ := h
  rw [listed]
  rcases mem_tabPut_old portOff (k := p) (v := x) he with stays | rfl
  · exact ⟨e, stays, busy⟩
  · exact ⟨(p, x), new, engages u busy⟩

/-- No more engines are idle. -/
theorem State.idleEcc_setPort {a : BitVec 16} (idle : ((s.setPort p x).idleEcc a).isSome = true) :
    (s.idleEcc a).isSome = true := by
  unfold idleEcc at idle ⊢
  rw [List.find?_isSome] at idle ⊢
  obtain ⟨u, hu, good⟩ := idle
  refine ⟨u, hu, ?_⟩
  simp only [Bool.and_eq_true, Bool.not_eq_true', Bool.eq_false_iff] at good ⊢
  obtain ⟨fit, free⟩ := good
  exact ⟨fit, fun busy => free (engaged_iff.2 (engaged_setPort on engages (engaged_iff.1 busy)))⟩

theorem State.opQuiet_setPort (holds : ∀ c, (s.port p).holds c = true → x.holds c = true) {o : Op}
    (calm : s.opQuiet o = true) : (s.setPort p x).opQuiet o = true := by
  have held (r c : Nat) (h : (s.port r).holds c = true) : ((s.setPort p x).port r).holds c = true := by
    rw [port_setPort]
    split
    · next same => exact holds c (same ▸ h)
    · exact h
  unfold opQuiet at calm ⊢
  cases phase : o.phase with
  | port => rw [phase] at calm; exact held _ _ calm
  | auth => rw [phase] at calm; exact held _ _ calm
  | ecc =>
    simp only [phase, Bool.and_eq_true, Bool.not_eq_true', Bool.eq_false_iff] at calm ⊢
    refine ⟨calm.1, fun may => calm.2 ?_⟩
    unfold eccMay at may ⊢
    rw [Bool.and_eq_true] at may ⊢
    exact ⟨may.1, idleEcc_setPort on engages may.2⟩
  | engine => rw [phase] at calm; exact calm
  | _ => rfl

/-- A quiet port in place of another that holds and engages no more than it leaves the block quiet. -/
theorem State.quiet_port (quiet : s.quiet) (calm : x.quiet = true)
    (holds : ∀ c, (s.port p).holds c = true → x.holds c = true) : (s.setPort p x).quiet := by
  obtain ⟨waits, cnt, ports, hand, commit, stalled, held⟩ := quiet
  exact ⟨fun o ho => opQuiet_setPort on engages holds (waits o ho), cnt, quiet_setPort ports calm, hand, commit, stalled, held⟩

end

/-! ## The queue of a port (R36) -/

/-- An operation joins its port's queue. -/
def Port.queued (x : Port) (ctx : Nat) : Port := { x with hostq := insertNew x.hostq ctx }

theorem Port.queued_holds (x : Port) (ctx c : Nat) : (x.queued ctx).holds c = true ↔ x.holds c = true ∨ c = ctx := by
  have listed : (insertNew x.hostq ctx).contains c = true ↔ x.hostq.contains c = true ∨ c = ctx := by
    unfold insertNew
    split
    · next there =>
      exact ⟨.inl, fun h => h.elim id fun same => same ▸ (by simpa using there)⟩
    · simp
  unfold holds queued
  simp only [Bool.or_eq_true]
  rw [listed]
  exact or_right_comm

theorem Port.queued_mem (x : Port) (ctx : Nat) : ctx ∈ (x.queued ctx).hostq := by
  unfold queued insertNew
  split
  · next there => simpa using there
  · simp

theorem State.queueHost_port (s : State) (p ctx : Nat) : s.queueHost p (.host ctx) = s.setPort p ((s.port p).queued ctx) := rfl

theorem State.port_congr {s t : State} (h : t.ports = s.ports) (p : Nat) : t.port p = s.port p := by
  unfold port
  rw [h]

theorem State.setPort_congr {s t : State} (h : t.ports = s.ports) (p : Nat) (x : Port) :
    (t.setPort p x).ports = (s.setPort p x).ports := by
  unfold setPort
  rw [h]

/-- A port that is on is not the port of a block that is off. -/
theorem Port.on_ne {x : Port} (on : x.state = .running) : x ≠ portOff := fun same => by
  rw [same] at on
  cases on

/-- What the checks of an operation on a position find of its port and its tag (R36, R370). -/
theorem State.posGate_none {s : State} {d : Desc} {u : Option Status} (pass : s.posGate d u = none) :
    (s.port d.port).state = .running ∧ (s.pos d.port d.position).verdict ≠ 0 := by
  unfold posGate at pass
  dsimp only at pass
  split at pass
  · cases pass
  · split at pass
    · cases pass
    · next on =>
      refine ⟨by simpa using on, ?_⟩
      split at pass
      · cases pass
      · next present => exact present

/-! ## An operation waits for its port -/

/-- An operation stands in its port's queue. -/
def State.waitsAtPort (s : State) (o : Op) : State := (s.setOp o).queueHost o.desc.port (.host o.ctx)

theorem State.waitsAtPort_keeps (s : State) (o : Op) : KeepsBut [.sch, .ports] s (s.waitsAtPort o) :=
  (s.setOp_keeps o).within.also ((s.setOp o).setPort_keeps _ _)

theorem State.waitsAtPort_port (s : State) (o : Op) :
    (s.waitsAtPort o).port o.desc.port = (s.port o.desc.port).queued o.ctx := port_setPort_same ..

/-- Nothing else moves once it stands there. -/
theorem State.waitsAtPort_quiet {s u : State} {o w : Op} (quiet : s.quiet) (last : State.LastOp s.sch.ops o u)
    (ctx : w.ctx = o.ctx) (phase : w.phase = .port ∨ w.phase = .auth) (on : (s.port w.desc.port).state = .running)
    (ports : u.ports = s.ports) (rcp : u.rcp = s.rcp) (life : u.life = s.life) (cnt : u.cnt = s.cnt) (glz : u.glz = s.glz)
    (window : u.ldr.stalled = s.ldr.stalled) : (u.waitsAtPort w).quiet := by
  have calm := port_quiet quiet.2.2.1 w.desc.port
  have joined : (s.setPort w.desc.port ((s.port w.desc.port).queued w.ctx)).quiet :=
    quiet_port (Port.on_ne on) (fun _ h => h) quiet calm fun c h => (Port.queued_holds _ _ c).2 (.inl h)
  have waits : (s.setPort w.desc.port ((s.port w.desc.port).queued w.ctx)).opQuiet w = true := by
    have held : ((s.setPort w.desc.port ((s.port w.desc.port).queued w.ctx)).port w.desc.port).holds w.ctx = true := by
      rw [port_setPort_same]
      exact (Port.queued_holds _ _ _).2 (.inr rfl)
    unfold opQuiet
    rcases phase with phase | phase <;> rw [phase] <;> exact held
  have here : (u.waitsAtPort w).ports = (s.setPort w.desc.port ((s.port w.desc.port).queued w.ctx)).ports := by
    have same : (u.setOp w).port w.desc.port = s.port w.desc.port := port_congr (t := u.setOp w) ports _
    unfold waitsAtPort
    rw [queueHost_port, same]
    exact setPort_congr (t := u.setOp w) ports _ _
  obtain ⟨-, ⟨arrivals, commits⟩, -⟩ := quiet
  exact quiet_joined joined (last.setOp ctx).ops waits here rcp life ((congrArg Counters.arrivals cnt).trans arrivals)
    (by rw [show (u.waitsAtPort w).cnt = s.cnt from cnt]; exact commits) glz window

theorem State.takeIn_setOp_buf (s : State) (q : Nat) (h : Fetched) (t : State) (que : t.que = (s.takeIn q h).que) :
    (t.queue q).buf = (s.queue q).buf.drop 1 := by
  rw [← s.takeIn_buf q h]
  unfold queue
  rw [que]

theorem State.tagRun_waits {s : State} {o : Op} (pass : s.posGate o.desc o.desc.unverified = none) :
    s.tagRun o = s.waitsAtPort { o with phase := .port } := by
  unfold tagRun
  rw [pass]
  rfl

theorem State.tagRun_refused {s : State} {o : Op} {st : Status} (fails : s.posGate o.desc o.desc.unverified = some st) :
    s.tagRun o = s.endPortOp o.ctx st := by
  unfold tagRun
  rw [fails]

theorem State.verifyRun_refused {s : State} {o : Op} {st : Status} (fails : s.posGate o.desc o.desc.unverified = some st) :
    s.verifyRun o = s.endPortOp o.ctx st := by
  unfold verifyRun
  rw [fails]

/-- VERIFY MODE 1, a beat, needs the position's session. -/
theorem State.verifyRun_beat {s : State} {o : Op} (pass : s.posGate o.desc o.desc.unverified = none)
    (beat : o.desc.param0 = 1) (session : (s.pos o.desc.port o.desc.position).session.isSome = true) :
    s.verifyRun o = s.waitsAtPort { o with phase := .port } := by
  have full : o.fullVerify = false := by simp [Op.fullVerify, beat]
  have held : (s.pos o.desc.port o.desc.position).session.isNone = false := by
    rw [Option.isNone_eq_false_iff]
    exact session
  unfold verifyRun
  rw [pass]
  simp only
  rw [full, held]
  rfl

/-- The port at which an authentication is no longer due. -/
def Port.undue (x : Port) (i : Nat) : Port := x.setPos i { x.at i with authAt := none }

/-- A port less some of its jobs. -/
def Port.dropped (x : Port) (f : Job → Bool) : Port := { x with jobs := x.jobs.filter fun j => !f j }

theorem State.dropJobs_eq (s : State) (p : Nat) (f : Job → Bool) : s.dropJobs p f = s.setPort p ((s.port p).dropped f) := rfl

/-- The authentication that was due at a position is no longer, nor is its job. -/
def State.authTaken (s : State) (p i : Nat) : State :=
  (s.setPort p ((s.port p).undue i)).dropJobs p fun j => j.kind == jobAuth && j.pos == i

theorem State.authTaken_keeps (s : State) (p i : Nat) : KeepsBut [.ports] s (s.authTaken p i) :=
  (State.setPort_keeps _ _ _).trans (State.setPort_keeps _ _ _)

/-- VERIFY MODE 0 where no authentication runs. -/
theorem State.verifyRun_full {s : State} {o : Op} (pass : s.posGate o.desc o.desc.unverified = none)
    (opcode : o.desc.opcode = 0x01) (full : o.desc.param0 = 0) (free : s.auth o.desc.port o.desc.position = none) :
    s.verifyRun o = (s.authTaken o.desc.port o.desc.position).waitsAtPort { o with phase := .auth } := by
  have mode : o.fullVerify = true := by simp [Op.fullVerify, full, opcode]
  unfold verifyRun
  rw [pass]
  simp only
  rw [mode, if_pos rfl]
  unfold verifyTake
  simp only
  rw [free]
  rfl

theorem Port.undue_quiet {x : Port} {i : Nat} (calm : x.quiet = true) (free : (x.at i).auth = none) :
    (x.undue i).quiet = true := by
  unfold quiet at calm ⊢
  rw [Bool.and_eq_true, List.all_eq_true, List.all_eq_true] at calm ⊢
  refine ⟨calm.1, fun e he => ?_⟩
  rcases mem_tabSet he with rfl | old
  · simp only
    rw [free]
  · exact calm.2 e old

/-- A position where a tag is shown keeps its place, and the others theirs. -/
theorem Port.undue_engages {x : Port} {i : Nat} (free : (x.at i).auth = none) (shown : (x.at i).verdict ≠ 0) (u : Nat)
    (h : x.engages u) : (x.undue i).engages u := by
  obtain ⟨y, hy, a, auth, unit⟩ := h
  have put : (x.undue i).pos = tabPut x.pos i { x.at i with authAt := none } := by
    have other : ({ x.at i with authAt := none } : Pos) ≠ posEmpty := fun same => shown (congrArg Pos.verdict same :)
    unfold undue setPos tabSet
    simp only [if_neg other]
  refine ⟨y, ?_, a, auth, unit⟩
  rw [put]
  refine (mem_tabPut_old posEmpty hy).resolve_right fun same => ?_
  have here : y.2 = x.at i := congrArg Prod.snd same
  rw [here, free] at auth
  cases auth

/-- With jobs gone a port is as quiet. -/
theorem Port.dropped_quiet {x : Port} (calm : x.quiet = true) (f : Job → Bool) : (x.dropped f).quiet = true := by
  unfold quiet at calm ⊢
  rw [Bool.and_eq_true, List.all_eq_true] at calm ⊢
  exact ⟨fun j hj => calm.1 j ((List.mem_filter.1 hj).1), calm.2⟩

theorem State.authTaken_port (s : State) (p i : Nat) :
    (s.authTaken p i).port p = ((s.port p).undue i).dropped fun j => j.kind == jobAuth && j.pos == i := by
  unfold authTaken
  rw [dropJobs_eq, port_setPort_same, port_setPort_same]

theorem State.authTaken_quiet {s : State} {p i : Nat} (quiet : s.quiet) (on : (s.port p).state = .running)
    (free : s.auth p i = none) (shown : (s.pos p i).verdict ≠ 0) : (s.authTaken p i).quiet := by
  have calm := Port.undue_quiet (port_quiet quiet.2.2.1 p) free
  have first : (s.setPort p ((s.port p).undue i)).quiet :=
    quiet_port (Port.on_ne on) (Port.undue_engages free shown) quiet calm fun _ h => h
  unfold authTaken
  rw [dropJobs_eq, port_setPort_same]
  refine quiet_port (Port.on_ne on) ?_ first (Port.dropped_quiet calm _) ?_
  · rw [port_setPort_same]
    exact fun _ h => h
  · rw [port_setPort_same]
    exact fun _ h => h

theorem State.authTaken_congr {s t : State} (h : t.ports = s.ports) (p i : Nat) :
    (t.authTaken p i).ports = (s.authTaken p i).ports := by
  have first : (t.setPort p ((t.port p).undue i)).ports = (s.setPort p ((s.port p).undue i)).ports := by
    rw [port_congr h]
    exact setPort_congr h p _
  unfold authTaken
  rw [dropJobs_eq, dropJobs_eq, port_congr first]
  exact setPort_congr first p _

/-! ## O27 -/

section
variable {s : State} {q code : Nat} {h : Fetched} (begins : s.Begins q code h)
include begins

theorem State.Begins.last : State.LastOp s.sch.ops (s.newOp q h) (s.takeIn q h) := begins.takes.runs

/-- An operation that waits for its port at once, `u` the state in which it joins the queue, `v` that state without it. -/
theorem State.Begins.waits {u v : State} {ph : Phase} (phase : ph = .port ∨ ph = .auth)
    (last : State.LastOp s.sch.ops (s.newOp q h) u) (que : u.que = (s.takeIn q h).que)
    (keeps : KeepsBut [.queues, .sch, .ports] s u) (quiet : v.quiet) (ops : v.sch.ops = s.sch.ops)
    (on : (v.port h.desc.port).state = .running) (ports : u.ports = v.ports) (rcp : u.rcp = v.rcp) (life : u.life = v.life)
    (cnt : u.cnt = v.cnt) (glz : u.glz = v.glz) (window : u.ldr.stalled = v.ldr.stalled) {c : Instr}
    {f : Op → State → State} (eq : exec c s = reacting s fun s => s.dispatch q code f)
    (runs : f (s.newOp q h) (s.takeIn q h) = u.waitsAtPort ((s.newOp q h).inPhase ph)) :
    Runs c s [.queues, .sch, .ports] fun t =>
      (s.newOp q h).inPhase ph ∈ t.sch.ops ∧ s.freeCtx ∈ (t.port h.desc.port).hostq
        ∧ (t.port h.desc.port).pos = (v.port h.desc.port).pos ∧ (t.queue q).buf = (s.queue q).buf.drop 1 := by
  have desc (o : Op) : (o.inPhase ph).desc = o.desc := rfl
  have ctx (o : Op) : (o.inPhase ph).ctx = o.ctx := rfl
  have hdesc : (s.newOp q h).desc = h.desc := by simp only [newOp]
  have at_ : ((s.newOp q h).inPhase ph).desc.port = h.desc.port := by rw [desc, hdesc]
  have buf : ((u.waitsAtPort ((s.newOp q h).inPhase ph)).queue q).buf = (s.queue q).buf.drop 1 :=
    s.takeIn_setOp_buf q h _ que
  have calm : (u.waitsAtPort ((s.newOp q h).inPhase ph)).quiet :=
    waitsAtPort_quiet quiet (ops ▸ last) (ctx _) phase (at_ ▸ on) ports rcp life cnt glz window
  have port : (u.waitsAtPort ((s.newOp q h).inPhase ph)).port h.desc.port = (v.port h.desc.port).queued s.freeCtx := by
    rw [← at_, waitsAtPort_port, ctx, newOp_ctx, port_congr ports]
  refine runs_react (fun s => s.dispatch q code f) eq begins.running _ (begins.takes.dispatch runs buf) calm
    (keeps.trans (waitsAtPort_keeps u _).within) ⟨?_, ?_, ?_, ?_⟩
  · rw [settle_sch, show (u.waitsAtPort ((s.newOp q h).inPhase ph)).sch.ops = _ from (last.setOp (ctx _)).ops]
    exact List.mem_append_right _ (List.mem_singleton_self _)
  · rw [port_settle, port]
    exact Port.queued_mem _ _
  · rw [port_settle, port]
    rfl
  · rw [settle_queue Queue.buf _ _ _ fun _ _ => rfl, buf]

/-- The same with nothing else at the port. -/
theorem State.Begins.waitsOnly (on : (s.port h.desc.port).state = .running) {c : Instr} {f : Op → State → State}
    (eq : exec c s = reacting s fun s => s.dispatch q code f)
    (runs : f (s.newOp q h) (s.takeIn q h) = (s.takeIn q h).waitsAtPort ((s.newOp q h).inPhase .port)) :
    Runs c s [.queues, .sch, .ports] fun t =>
      (s.newOp q h).inPhase .port ∈ t.sch.ops ∧ s.freeCtx ∈ (t.port h.desc.port).hostq
        ∧ (t.queue q).buf = (s.queue q).buf.drop 1 := by
  obtain ⟨t, ran, keeps, op, hostq, -, buf⟩ := begins.waits (.inl rfl) begins.last rfl (s.takeIn_keeps q h).within
    begins.quiet rfl on (s.takeIn_ports q h) (s.takeIn_rcp q h) (s.takeIn_life q h) (s.takeIn_cnt q h) (s.takeIn_glz q h)
    (congrArg _ (s.takeIn_ldr q h)) eq runs
  exact ⟨t, ran, keeps, op, hostq, buf⟩

/-- An operation on a position that its check ends at once. -/
theorem State.Begins.refused {st : Status} {c : Instr} {f : Op → State → State}
    (eq : exec c s = reacting s fun s => s.dispatch q code f)
    (runs : f (s.newOp q h) (s.takeIn q h) = (s.takeIn q h).endPortOp (s.newOp q h).ctx st) :
    Runs c s opParts fun t => s.entryOut q h.desc st ((s.takeIn q h).portResult (s.newOp q h)) ∈ t.out
      ∧ t.sch.ops = s.sch.ops ∧ t.ldr.records = s.ldr.records := by
  have done := begins.last.completed rfl rfl rfl (s.takeIn_tick q h) (s.takeIn_links q h) st
    ((s.takeIn q h).portResult (s.newOp q h)) none
  have ends : f (s.newOp q h) (s.takeIn q h) = ((s.takeIn q h).dropOp (s.newOp q h).ctx).complete (s.newOp q h).q
      (s.newOp q h).desc st ((s.takeIn q h).portResult (s.newOp q h)) none true := by
    rw [runs]
    unfold endPortOp
    rw [begins.last.op]
    exact begins.last.endOp rfl _ _ _
  refine runs_react (fun s => s.dispatch q code f) eq begins.running _ (begins.takes.dispatch ends (done.buffer rfl))
    (done.quiet begins.quiet (s.takeIn_ports q h) (s.takeIn_rcp q h) (s.takeIn_life q h) (s.takeIn_cnt q h)
      (s.takeIn_glz q h) (congrArg _ (s.takeIn_ldr q h)))
    ((s.takeIn_keeps q h).within.also done.keeps) ⟨mem_settle_out (done.entry begins.master), ?_, ?_⟩
  · rw [settle_sch, done.ops]
  · rw [settle_ldr, done.records, takeIn_ldr]

end

theorem State.portResult_takeIn {s : State} {q code : Nat} {h : Fetched} (opcode : h.desc.opcode = code)
    (known : code = 0x01 ∨ code = 0x30 ∨ code = 0x31) :
    (s.takeIn q h).portResult (s.newOp q h) = if code = 0x01 then s.verifyResult (s.newOp q h) else [] := by
  have pos : (s.takeIn q h).pos = s.pos := by
    funext p i
    unfold pos port
    rw [takeIn_ports]
  have desc : (s.newOp q h).desc = h.desc := rfl
  unfold portResult verifyResult
  rw [desc, opcode, pos]
  rcases known with rfl | rfl | rfl <;> rfl

/-- Settles O27: an operation that passes waits in its port's queue, one that does not has completed, and either way
nothing more moves. -/
theorem positionDescriptors : Obligations.PositionDescriptors := by
  unfold Obligations.PositionDescriptors
  have pass {s : State} {q : Nat} {h : Fetched} (gate : s.posGate h.desc h.desc.unverified = none) :
      (s.takeIn q h).posGate (s.newOp q h).desc (s.newOp q h).desc.unverified = none :=
    (s.posGate_takeIn q h _ _).trans gate
  refine ⟨?_, ?_, ?_, ?_, ?_⟩
  · intro s q h begins gate full free
    obtain ⟨on, shown⟩ := State.posGate_none gate
    let u := (s.takeIn q h).authTaken h.desc.port h.desc.position
    have pos : (s.takeIn q h).pos h.desc.port h.desc.position = s.pos h.desc.port h.desc.position := by
      unfold State.pos State.port
      rw [State.takeIn_ports]
    have ports : u.ports = (s.authTaken h.desc.port h.desc.position).ports :=
      State.authTaken_congr (s.takeIn_ports q h) _ _
    have runs : (s.takeIn q h).verifyRun (s.newOp q h) = u.waitsAtPort ((s.newOp q h).inPhase .auth) := by
      refine State.verifyRun_full (pass gate) begins.takes.opcode full ?_
      unfold State.auth
      exact (congrArg Pos.auth pos).trans free
    obtain ⟨t, ran, keeps, op, hostq, tpos, buf⟩ := begins.waits (u := u) (v := s.authTaken h.desc.port h.desc.position)
      (.inr rfl) ⟨begins.last.ops, begins.last.others⟩ rfl ((s.takeIn_keeps q h).within.also (State.authTaken_keeps _ _ _))
      (State.authTaken_quiet begins.quiet on free shown) rfl (by rw [State.authTaken_port]; exact on) ports
      (s.takeIn_rcp q h) (s.takeIn_life q h) (s.takeIn_cnt q h) (s.takeIn_glz q h) (congrArg _ (s.takeIn_ldr q h))
      (c := .verify q) (f := fun o s => s.verifyRun o) rfl runs
    refine ⟨t, ran, keeps, op, hostq, ?_, buf⟩
    unfold State.pos Port.at
    rw [tpos, State.authTaken_port]
    exact congrArg Pos.authAt (tabGet_tabSet_same ..)
  · intro s q h begins gate beat session
    refine begins.waitsOnly (State.posGate_none gate).1 (f := fun o s => s.verifyRun o) rfl ?_
    refine State.verifyRun_beat (pass gate) beat ?_
    unfold State.pos State.port
    rw [State.takeIn_ports]
    exact session
  · intro s q h begins gate
    exact begins.waitsOnly (State.posGate_none gate).1 (f := fun o s => s.tagRun o) rfl (State.tagRun_waits (pass gate))
  · intro s q h begins gate
    exact begins.waitsOnly (State.posGate_none gate).1 (f := fun o s => s.tagRun o) rfl (State.tagRun_waits (pass gate))
  · intro s q h st c hc begins gate
    have fails : (s.takeIn q h).posGate (s.newOp q h).desc (s.newOp q h).desc.unverified = some st :=
      (s.posGate_takeIn q h _ _).trans gate
    simp only [List.mem_cons, List.not_mem_nil, or_false] at hc
    rcases hc with rfl | rfl | rfl
    · rw [← State.portResult_takeIn begins.takes.opcode (.inl rfl)]
      exact begins.refused (f := fun o s => s.verifyRun o) rfl (State.verifyRun_refused fails)
    · rw [← State.portResult_takeIn begins.takes.opcode (.inr (.inl rfl))]
      exact begins.refused (f := fun o s => s.tagRun o) rfl (State.tagRun_refused fails)
    · rw [← State.portResult_takeIn begins.takes.opcode (.inr (.inr rfl))]
      exact begins.refused (f := fun o s => s.tagRun o) rfl (State.tagRun_refused fails)

end Sys2Proof.Machine
end

section
/-! PROOF. Operations on records (R338, R353, R355): their pages there, they end at once. -/

namespace Sys2Proof.Machine

/-! ## What a descriptor that takes its context leaves of the scheduler -/

theorem State.takeIn_eq (s : State) (q : Nat) (h : Fetched) : ∃ que ops last host beat, s.takeIn q h
    = { s with
        que := que
        sch := { s.sch with ops := ops, lastServed := last, hostPeak := host, beatPeak := beat } } := by
  unfold takeIn peaks withOp
  generalize s.newOp q h = o
  unfold countMoved servedLast popHead setQueue
  exact ⟨_, _, _, _, _, rfl⟩

/-- What does not see the queues, the operations and their peaks is the same once a descriptor has its context. -/
theorem State.takeIn_blind {α : Type} (f : State → α) (s : State) (q : Nat) (h : Fetched)
    (blind : ∀ que ops last host beat, f { s with
      que := que
      sch := { s.sch with ops := ops, lastServed := last, hostPeak := host, beatPeak := beat } } = f s) :
    f (s.takeIn q h) = f s := by
  obtain ⟨que, ops, last, host, beat, eq⟩ := s.takeIn_eq q h
  rw [eq, blind]

/-! ## Operations that end in the Larder -/

/-- The state of an operation that has changed the Larder. -/
def State.takenLdr (s : State) (q : Nat) (h : Fetched) (x : Larder) : State := { s.takeIn q h with ldr := x }

/-- An operation that ends after it has changed the Larder. -/
theorem State.Begins.ends {s : State} {q code : Nat} {h : Fetched} (begins : s.Begins q code h) {x : Larder}
    (stalled : x.stalled = s.ldr.stalled) {c : Instr} {f : Op → State → State} {st : Status} {r : Bytes} {dma : Option Bytes}
    (eq : exec c s = reacting s fun s => s.dispatch q code f)
    (runs : f (s.newOp q h) (s.takeIn q h) = (s.takenLdr q h x).endOp (s.newOp q h).ctx st r dma) :
    Runs c s opParts fun t => (∀ b, dma = some b → .dmaWrite h.desc.bufAddr b ∈ t.out) ∧ s.entryOut q h.desc st r ∈ t.out
      ∧ t.ldr.records = x.records ∧ t.ldr.index = x.index := by
  have last : State.LastOp s.sch.ops (s.newOp q h) (s.takenLdr q h x) := ⟨begins.last.ops, begins.last.others⟩
  have done := last.completed rfl rfl rfl (s.takeIn_tick q h) (s.takeIn_links q h) st r dma
  have keeps : KeepsBut opParts s (s.takenLdr q h x) := (s.takeIn_keeps q h).within.also (State.withLdr_keeps _ x)
  refine runs_react (fun s => s.dispatch q code f) eq begins.running _
    (begins.takes.dispatch (runs.trans (last.endOp rfl st r dma)) (done.buffer rfl))
    (done.quiet begins.quiet (s.takeIn_ports q h) (s.takeIn_rcp q h) (s.takeIn_life q h) (s.takeIn_cnt q h)
      (s.takeIn_glz q h) stalled)
    (keeps.trans done.keeps)
    ⟨fun b hb => mem_settle_out (done.data begins.master b hb), mem_settle_out (done.entry begins.master), ?_, ?_⟩
  · rw [settle_ldr, done.records]
    rfl
  · rw [settle_ldr, done.chats.ldr]
    rfl

/-! ## RECORD_READ (R353) -/

/-- A range that does not leave its page lies in that page. -/
theorem windowPages_one {off len : Nat} (within : off % 4096 + len ≤ 4096) (some_ : 0 < len) (below : off + len ≤ 0x04000000) :
    windowPages off len = [off / 4096] := by
  have whole := Nat.div_add_mod off 4096
  have first : (if 4096 * (off / 4096 + 0) < off + len then
      (if off / 4096 + 0 < 16384 then some (off / 4096 + 0)
        else if off / 4096 + 0 < 16388 then some (16896 + (off / 4096 + 0 - 16384)) else none)
      else none) = some (off / 4096) := by
    rw [if_pos (by omega), if_pos (by omega)]
    rfl
  have others : ∀ k, ¬ 4096 * (off / 4096 + (k + 1)) < off + len := fun k => by omega
  unfold windowPages
  rw [show len / 4096 + 2 = (len / 4096 + 1) + 1 from rfl, List.range_succ_eq_map, List.map_cons, List.filterMap_cons,
    first, List.map_map]
  refine congrArg (off / 4096 :: ·) (List.filterMap_eq_nil_iff.2 fun p hp => ?_)
  obtain ⟨k, -, rfl⟩ := List.mem_map.1 hp
  exact if_neg (others k)

section
variable {s : State} {o : Op}

theorem State.recordReadRun_there (isOpen : s.ldr.isOpen = true)
    (room : o.desc.param1.toNat + o.desc.bufLen ≤ 256 * s.ldr.capacity) (within : o.desc.param1.toNat % 4096 + o.desc.bufLen ≤ 4096)
    (below : o.desc.param1.toNat + o.desc.bufLen ≤ 0x04000000) (some_ : 0 < o.desc.bufLen)
    (there : s.pageThere (o.desc.param1.toNat / 4096)) (inTime : s.isLate o.desc = false) :
    s.recordReadRun o = (s.pin (o.desc.param1.toNat / 4096) o.ctx).endOp o.ctx .ok (leBytes 4 o.desc.bufLen)
      (some ((List.range o.desc.bufLen).map fun i =>
        (s.pin (o.desc.param1.toNat / 4096) o.ctx).windowByte (o.desc.param1.toNat + i))) := by
  have readable : ∀ i < o.desc.bufLen, s.readable (o.desc.param1.toNat + i) = true := fun i hi => by
    unfold State.readable
    rw [decide_eq_true (by omega), Bool.true_or]
  have first : s.readable o.desc.param1.toNat = true := readable 0 some_
  have all : ((List.range o.desc.bufLen).any fun i => !s.readable (o.desc.param1.toNat + i)) = false :=
    List.any_eq_false.2 fun i hi => by simp [readable i (List.mem_range.1 hi)]
  unfold recordReadRun
  dsimp only
  rw [isOpen, first, all, windowPages_one within some_ below]
  simp only [Bool.not_true, Bool.or_self, Bool.false_eq_true, if_false]
  rw [opPages_there _ (by simpa using there), List.foldl_cons, List.foldl_nil,
    opInTime_goes (s := s.pin _ o.ctx) inTime]

end

/-- Pins do not show in the window. -/
theorem State.windowByte_pin (s : State) (page ctx a : Nat) : (s.pin page ctx).windowByte a = s.windowByte a := rfl

theorem State.windowByte_takeIn (s : State) (q : Nat) (h : Fetched) (a : Nat) :
    (s.takeIn q h).windowByte a = s.windowByte a :=
  takeIn_blind (fun s => s.windowByte a) s q h fun _ _ _ _ _ => rfl

/-! ## RECORD_WRITE (R355) -/

theorem State.recordWriteRun_there {s : State} {o : Op} {b : Bytes} (exists_ : o.desc.target.toNat < s.ldr.capacity)
    (above : 0x80 ≤ o.desc.param0.toNat) (below : o.desc.param0.toNat + o.desc.bufLen ≤ 0x100)
    (bound : (s.record o.desc.target.toNat).state = 1) (free : s.ldr.locked.contains o.desc.target.toNat = false)
    (there : s.pageThere (recordPage o.desc.target.toNat)) (inTime : s.isLate o.desc = false) :
    s.recordWriteRun (o.reading b) = ((s.pin (recordPage o.desc.target.toNat) o.ctx).writeRecord o.desc.target.toNat
      o.desc.param0.toNat b).endOp o.ctx .ok [] none := by
  have stays : (s.pin (recordPage o.desc.target.toNat) o.ctx).record o.desc.target.toNat = s.record o.desc.target.toNat := rfl
  unfold recordWriteRun opUnlocked Op.reading
  dsimp only
  rw [if_neg (by omega), free, if_neg Bool.false_ne_true, opPage_there there]
  dsimp only
  rw [stays, if_neg (not_not_intro bound),
    if_neg (by omega), opInTime_goes (s := s.pin _ o.ctx) (o := { o with data := b }) inTime]

/-- What a record's change leaves of the Larder. -/
theorem State.putRecord_pageless {α : Type} (f : Larder → α) (blind : ∀ x : Larder, f x.pageless = f x) (s : State) (n : Nat)
    (r : Record) : f (s.putRecord n r).ldr = f { s.ldr with records := tabSet recordFree s.ldr.records n r } := by
  rw [← blind, (s.putRecord_paged n r).pageless, blind]

theorem State.record_congr {s t : State} (h : t.ldr.records = s.ldr.records) (n : Nat) : t.record n = s.record n := by
  unfold record
  rw [h]

/-! ## RECORD_FREE (R338) -/

/-- The record is FREE, and its tag has no index entry. -/
def State.freed (s : State) (n : Nat) (tagId : BitVec 128) : State := (s.dropIndex tagId).freeRecord n

theorem State.dropIndex_paged (s : State) (tagId : BitVec 128) :
    Paged { s with ldr := { s.ldr with index := s.ldr.index.filter (·.1 != tagId) } } (s.dropIndex tagId) :=
  touchPage_paged _ _

theorem State.dropIndex_pageless {α : Type} (f : Larder → α) (blind : ∀ x : Larder, f x.pageless = f x) (s : State)
    (tagId : BitVec 128) : f (s.dropIndex tagId).ldr = f { s.ldr with index := s.ldr.index.filter (·.1 != tagId) } := by
  rw [← blind, (s.dropIndex_paged tagId).pageless, blind]

theorem State.freed_eq (s : State) (n : Nat) (tagId : BitVec 128) : ∃ x, s.freed n tagId = { s with ldr := x }
    ∧ x.stalled = s.ldr.stalled ∧ x.records = tabSet recordFree s.ldr.records n recordFree
    ∧ x.index = s.ldr.index.filter (·.1 != tagId) := by
  have dropped := s.dropIndex_paged tagId
  have stalled := dropIndex_pageless Larder.stalled (fun _ => rfl) s tagId
  have records := dropIndex_pageless Larder.records (fun _ => rfl) s tagId
  have index := dropIndex_pageless Larder.index (fun _ => rfl) s tagId
  unfold freed freeRecord
  generalize s.dropIndex tagId = u at dropped stalled records index
  refine ⟨(u.putRecord n recordFree).ldr, ?_, ?_, ?_, ?_⟩
  · calc u.putRecord n recordFree = { u with ldr := (u.putRecord n recordFree).ldr } := (u.putRecord_paged n _).eq
      _ = { s with ldr := (u.putRecord n recordFree).ldr } :=
        congrArg (fun v : State => { v with ldr := (u.putRecord n recordFree).ldr }) dropped.eq
  · exact (putRecord_pageless Larder.stalled (fun _ => rfl) u n _).trans stalled
  · rw [putRecord_pageless Larder.records (fun _ => rfl)]
    dsimp only
    rw [records]
  · exact (putRecord_pageless Larder.index (fun _ => rfl) u n _).trans index

theorem State.recordFreeRun_there {s : State} {o : Op} (exists_ : o.desc.target.toNat < s.ldr.capacity)
    (bound : (s.record o.desc.target.toNat).state = 1) (clear : s.counterClear o.desc.target.toNat = true)
    (unmapped : s.mappedAt o.desc.target.toNat = none) (free : s.ldr.locked.contains o.desc.target.toNat = false)
    (there : s.pageThere (recordPage o.desc.target.toNat))
    (listed : s.pageThere (indexPageOf (s.record o.desc.target.toNat).tagId)) (inTime : s.isLate o.desc = false) :
    s.recordFreeRun o = (((s.pin (recordPage o.desc.target.toNat) o.ctx).pin
      (indexPageOf (s.record o.desc.target.toNat).tagId) o.ctx).freed o.desc.target.toNat
        (s.record o.desc.target.toNat).tagId).endOp o.ctx .ok [] none := by
  let u := s.pin (recordPage o.desc.target.toNat) o.ctx
  have goes : ¬ ((u.record o.desc.target.toNat).state ≠ 1
      ∨ (u.counterExists o.desc.target.toNat = true ∧ u.counterClear o.desc.target.toNat = false)
      ∨ (u.mappedAt o.desc.target.toNat).isSome = true) := by
    rintro (no | ⟨-, no⟩ | no)
    · exact no bound
    · exact Bool.false_ne_true (no.symm.trans clear)
    · rw [show u.mappedAt o.desc.target.toNat = none from unmapped] at no
      cases no
  unfold recordFreeRun opUnlocked
  dsimp only
  rw [if_neg (by omega), free, if_neg Bool.false_ne_true, opPage_there there, if_neg goes,
    show (s.pin (recordPage o.desc.target.toNat) o.ctx).record o.desc.target.toNat = s.record o.desc.target.toNat from rfl,
    opPage_there (s := s.pin _ o.ctx) (pageThere_pin listed _ _), opInTime_goes (s := (s.pin _ o.ctx).pin _ o.ctx) inTime]
  rfl

/-- Settles O30: with its pages there each operation changes the Larder as named, and ends. -/
theorem recordDescriptors : Obligations.RecordDescriptors := by
  unfold Obligations.RecordDescriptors
  have desc {s : State} {q : Nat} {h : Fetched} : (s.newOp q h).desc = h.desc := by simp only [State.newOp]
  refine ⟨?_, ?_, ?_⟩
  · intro s q h begins isOpen room below within some_ there
    have ends := begins.ends (x := ((s.takeIn q h).pin (h.desc.param1.toNat / 4096) (s.newOp q h).ctx).ldr)
      (c := .recordRead q) (f := fun o s => s.recordReadRun o) (st := .ok) (r := leBytes 4 h.desc.bufLen)
      (dma := some ((List.range h.desc.bufLen).map fun i => s.windowByte (h.desc.param1.toNat + i)))
      (congrArg Larder.stalled (s.takeIn_ldr q h) :) rfl (by
        have runs := State.recordReadRun_there (s := s.takeIn q h) (o := s.newOp q h) (by simpa) (by simpa) within below some_
          (State.takeIn_pageThere there q h) begins.takes.late
        rw [desc] at runs
        simp only [State.windowByte_pin, State.windowByte_takeIn] at runs
        exact runs)
    obtain ⟨t, ran, keeps, data, entry, records, -⟩ := ends
    exact ⟨t, ran, keeps, data _ rfl, entry, records.trans (congrArg Larder.records (s.takeIn_ldr q h) :)⟩
  · intro s q h b begins exists_ above below bound free there
    let r := (s.record h.desc.target.toNat).withTail
      (overlay (s.record h.desc.target.toNat).tail (h.desc.param0.toNat - 0x80) (padTo h.desc.bufLen b))
    let u := (s.takeIn q h).pin (recordPage h.desc.target.toNat) (s.newOp q h).ctx
    have record (m : Nat) : (s.takeIn q h).record m = s.record m :=
      State.record_congr (congrArg Larder.records (s.takeIn_ldr q h)) m
    have urecord (m : Nat) : u.record m = s.record m := record m
    have paged := u.putRecord_paged h.desc.target.toNat r
    have stalled : (u.putRecord h.desc.target.toNat r).ldr.stalled = s.ldr.stalled :=
      (State.putRecord_pageless Larder.stalled (fun _ => rfl) u _ r).trans (congrArg Larder.stalled (s.takeIn_ldr q h) :)
    obtain ⟨t, ran, keeps, -, entry, records, -⟩ := begins.ends (c := .recordWrite q (some b)) (st := .ok) (r := [])
      (dma := none) (f := fun o s => s.recordWriteRun { o with data := padTo o.desc.bufLen b }) stalled rfl (by
        have runs := State.recordWriteRun_there (s := s.takeIn q h) (o := s.newOp q h) (b := padTo h.desc.bufLen b)
          (by rw [State.takeIn_ldr]; exact exists_) above below ((record _).symm ▸ bound)
          (by rw [State.takeIn_ldr]; exact free) (State.takeIn_pageThere there q h) begins.takes.late
        refine runs.trans (congrArg (fun v : State => v.endOp (s.newOp q h).ctx .ok [] none) ?_)
        have written : ((s.takeIn q h).pin (recordPage h.desc.target.toNat) (s.newOp q h).ctx).writeRecord
            h.desc.target.toNat h.desc.param0.toNat (padTo h.desc.bufLen b) = u.putRecord h.desc.target.toNat r := by
          unfold State.writeRecord
          exact congrArg (fun x : Record => u.putRecord h.desc.target.toNat
            (x.withTail (overlay x.tail (h.desc.param0.toNat - 0x80) (padTo h.desc.bufLen b)))) (urecord _)
        refine written.trans (paged.eq.trans ?_)
        rfl)
    have post (m : Nat) : t.record m = (u.putRecord h.desc.target.toNat r).record m := State.record_congr records m
    refine ⟨t, ran, keeps, ?_, fun m hm => ?_, entry⟩
    · rw [post, State.record_putRecord, if_pos rfl]
    · rw [post, State.record_putRecord, if_neg hm, urecord]
  · intro s q h begins exists_ bound clear unmapped free there listed
    let n := h.desc.target.toNat
    let u := ((s.takeIn q h).pin (recordPage n) (s.newOp q h).ctx).pin (indexPageOf (s.record n).tagId) (s.newOp q h).ctx
    have record (m : Nat) : (s.takeIn q h).record m = s.record m :=
      State.record_congr (congrArg Larder.records (s.takeIn_ldr q h)) m
    obtain ⟨x, eq, stalled, records, index⟩ := u.freed_eq n (s.record n).tagId
    have count : (s.takeIn q h).counterClear n = true :=
      (State.takeIn_blind (fun s => s.counterClear n) s q h fun _ _ _ _ _ => rfl).trans clear
    have mapped : (s.takeIn q h).mappedAt n = none :=
      (State.takeIn_blind (fun s => s.mappedAt n) s q h fun _ _ _ _ _ => rfl).trans unmapped
    obtain ⟨t, ran, keeps, -, entry, trecords, tindex⟩ := begins.ends (c := .recordFree q) (st := .ok) (r := []) (x := x)
      (dma := none) (f := fun o s => s.recordFreeRun o) (stalled.trans (congrArg Larder.stalled (s.takeIn_ldr q h) :)) rfl (by
        have runs := State.recordFreeRun_there (s := s.takeIn q h) (o := s.newOp q h) (by rw [State.takeIn_ldr]; exact exists_)
          (by rw [desc, record]; exact bound) count mapped (by rw [State.takeIn_ldr]; exact free)
          (State.takeIn_pageThere there q h) (by rw [desc, record]; exact State.takeIn_pageThere listed q h)
          begins.takes.late
        refine runs.trans (congrArg (fun v : State => v.endOp (s.newOp q h).ctx .ok [] none) ?_)
        rw [desc, record]
        exact eq)
    have base : u.ldr.records = s.ldr.records := (congrArg Larder.records (s.takeIn_ldr q h) :)
    have post (m : Nat) : t.record m = if m = n then recordFree else s.record m := by
      unfold State.record
      rw [trecords, records, base]
      exact tabGet_tabSet ..
    refine ⟨t, ran, keeps, ?_, fun m hm => ?_, ?_, entry⟩
    · rw [post, if_pos rfl]
    · rw [post, if_neg hm]
    · unfold State.indexFind
      have gone : (u.ldr.index.filter (·.1 != (s.record n).tagId)).find? (·.1 == (s.record n).tagId) = none :=
        List.find?_eq_none.2 fun e he same => by
          have other := (List.mem_filter.1 he).2
          rw [bne, same] at other
          cases other
      rw [tindex, index, gone]

end Sys2Proof.Machine
end

section
/-! PROOF. CONSUME, INCREMENT and LIMIT_SET at an idle counter unit (R29, R286, R294, R306). -/

namespace Sys2Proof.Machine

/-! ## A host operation's request -/

/-- The request of a host operation. -/
def hostAsk (ctx typ cause id value : Nat) (plusOne accepted : Bool) : Commit :=
  { owner := .host ctx, typ := typ, cause := cause, id := id, value := value, plusOne := plusOne, base := 0, serial := 0
    accepted := accepted, tag := none }

/-- An operation whose request waits for the counter unit. -/
def Op.committing (o : Op) (id : Nat) : Op := { o with phase := .commit, record := id }

/-- It is past its point of no return. -/
def Op.past (o : Op) : Op := { o with pastPoint := true }

/-- An operation whose entry is being written. -/
def Op.entering (o : Op) (id : Nat) : Op := { o with phase := .commit, record := id, pastPoint := true }

theorem Op.committing_past (o : Op) (id : Nat) : (o.committing id).past = o.entering id := rfl

theorem State.opCommit_eq (s : State) (o : Op) (typ cause id value : Nat) (plusOne : Bool) :
    s.opCommit o typ cause id value plusOne
      = (s.setOp (o.committing id)).arrive (hostAsk o.ctx typ cause id value plusOne false) := rfl

theorem State.commitPoint_last {l : List Op} {o : Op} {s : State} (last : State.LastOp l o s) {c : Commit}
    (owner : c.owner = .host o.ctx) : s.commitPoint c = s.setOp o.past := by
  unfold commitPoint
  rw [owner]
  simp only [last.op]
  rfl

theorem State.commitLate_last {l : List Op} {o : Op} {s : State} (last : State.LastOp l o s) {c : Commit}
    (owner : c.owner = .host o.ctx) (inTime : s.isLate o.desc = false) : s.commitLate c = false := by
  unfold commitLate
  rw [owner]
  simp only [last.op, inTime, Bool.and_false]

/-- The entry that a request of a host operation makes does not depend on its context. -/
theorem State.makeEntry_host (s : State) (ctx ctx' typ cause id value value' : Nat) (plusOne plusOne' accepted accepted' : Bool)
    (v : Nat) : s.makeEntry (hostAsk ctx typ cause id value plusOne accepted) v
      = s.makeEntry (hostAsk ctx' typ cause id value' plusOne' accepted') v := rfl

/-- The operation `o`, the last, has sent its request `c` to an idle counter unit in a block that is otherwise at rest. -/
structure State.Asks (s u : State) (o : Op) (c : Commit) : Prop where
  quiet : s.quiet
  last : State.LastOp s.sch.ops o u
  phase : o.phase = .commit
  owner : c.owner = .host o.ctx
  ports : u.ports = s.ports
  rcp : u.rcp = s.rcp
  life : u.life = s.life
  glz : u.glz = s.glz
  window : u.ldr.stalled = s.ldr.stalled
  arrived : u.cnt.arrivals = [c]
  empty : u.cnt.queue = []
  idle : u.cnt.busy = none

section
variable {s u : State} {o : Op} {c : Commit} (asks : s.Asks u o c)
include asks

theorem State.Asks.waits : ∀ x ∈ u.sch.ops, u.opQuiet x = true := by
  intro x hx
  rw [asks.last.ops] at hx
  rw [opQuiet_congr asks.ports asks.rcp asks.life]
  rcases List.mem_append.1 hx with old | new
  · exact asks.quiet.1 x old
  · rw [List.mem_singleton.1 new]
    unfold opQuiet
    rw [asks.phase]

theorem State.Asks.hand : ∀ h, u.glz.hand = some h → h.reply.isSome = true := by
  rw [asks.glz]
  exact asks.quiet.2.2.2.1

theorem State.Asks.portsQuiet : ∀ e ∈ u.ports, e.2.quiet = true := by
  rw [asks.ports]
  exact asks.quiet.2.2.1

/-- The state in which its entry is being written. -/
def State.written (u : State) (c : Commit) (e : Entry) (o : Op) : State := (u.entering c e).setOp o.past

theorem State.Asks.begins_ {e : Entry} (judged : u.judge c = .begin_ e) :
    u.commitPass = u.written c e o ∧ (u.written c e o).quiet ∧ (u.written c e o).sch.ops = s.sch.ops ++ [o.past] := by
  have last : State.LastOp s.sch.ops o (u.entering c e) := ⟨asks.last.ops, asks.last.others⟩
  have past : o.past.ctx = o.ctx := rfl
  have ops := (last.setOp past).ops
  have calm : s.opQuiet o.past = true := by
    have phase : o.past.phase = .commit := asks.phase
    unfold opQuiet
    rw [phase]
  refine ⟨?_, ?_, ops⟩
  · rw [commitPass_begins asks.arrived asks.empty asks.idle judged, commitPoint_last last asks.owner]
    rfl
  · exact quiet_joined asks.quiet ops calm asks.ports asks.rcp asks.life rfl (.inr rfl) asks.glz asks.window

end

theorem State.written_keeps (u : State) (c : Commit) (e : Entry) (o : Op) : KeepsBut [.cnt, .sch] u (u.written c e o) := by
  have entering : KeepsBut [.cnt] u (u.entering c e) := keepsBut_of_restore (by cases u; rfl)
  exact entering.within.also (setOp_keeps _ _)

theorem State.arrive_keeps (u : State) (c : Commit) : KeepsBut [.cnt] u (u.arrive c) :=
  keepsBut_of_restore (by cases u; rfl)

/-- An operation whose request the counter unit takes at once. -/
theorem State.Begins.commits {s u : State} {q code : Nat} {h : Fetched} (begins : s.Begins q code h) {o : Op} {c : Commit}
    {e : Entry} (asks : s.Asks u o c) (judged : u.judge c = .begin_ e) {i : Instr} {f : Op → State → State} {ch : List Part}
    (eq : exec i s = reacting s fun s => s.dispatch q code f) (runs : f (s.newOp q h) (s.takeIn q h) = u)
    (que : u.que = (s.takeIn q h).que) (keeps : KeepsBut ch s u) (hc : ∀ p ∈ [Part.cnt, Part.sch], p ∈ ch := by decide) :
    Runs i s ch fun t => t.cnt = { u.cnt with arrivals := [], queue := [c], busy := some e } ∧ t.ldr = u.ldr
      ∧ o.past ∈ t.sch.ops := by
  obtain ⟨pass, quiet, ops⟩ := asks.begins_ judged
  have buf : (u.queue q).buf = (s.queue q).buf.drop 1 := s.takeIn_setOp_buf q h u que
  refine runs_pass (fun s => s.dispatch q code f) eq begins.running _ (begins.takes.dispatch runs buf) asks.waits
    asks.portsQuiet asks.hand pass quiet (keeps.trans ((written_keeps u c e o).mono hc)) ⟨?_, ?_, ?_⟩
  · rw [settle_cnt]
    rfl
  · rw [settle_ldr]
    rfl
  · rw [settle_sch, ops]
    exact List.mem_append_right _ (List.mem_singleton_self _)

/-! ## What the counter unit makes of a request (R294) -/

section
variable {u : State} {c : Commit} (inTime : u.commitLate c = false) (may : u.mayCommit c = true)
  (room : c.accepted = true ∨ (u.commitOpen = true ∧ u.vig.buffer.length < 64))
include room

theorem State.room_eq : (!c.accepted && (!u.commitOpen || u.bufferRoom == 0)) = false := by
  rcases room with accepted | ⟨window, free⟩
  · rw [accepted]
    rfl
  · have left : (u.bufferRoom == 0) = false := by
      unfold bufferRoom
      rw [beq_eq_false_iff_ne]
      omega
    rw [window, left, Bool.not_true, Bool.or_self, Bool.and_false]

include inTime may

theorem State.judge_plusOne (typ : c.typ = 1) (plusOne : c.plusOne = true) (below : u.count c.id < u.limit c.id)
    (fits : u.count c.id < max48) : u.judge c = .begin_ (u.makeEntry c (u.count c.id + 1)) := by
  have free : (decide (u.limit c.id < u.count c.id + 1) || decide (max48 < u.count c.id + 1)) = false := by
    rw [decide_eq_false (by omega), decide_eq_false (by omega), Bool.or_self]
  unfold judge
  simp only [inTime, may, plusOne, typ, if_true, free, room_eq room]
  rfl

theorem State.judge_limit (typ : c.typ = 2) (cause : c.cause = 1) (plusOne : c.plusOne = false)
    (exists_ : u.counterExists c.id = true) (above : u.count c.id ≤ c.value) (fits : c.value ≤ u.maxLimit c.id) :
    u.judge c = .begin_ (u.makeEntry c c.value) := by
  have fine : (!u.counterExists c.id || decide (c.value < u.count c.id) || decide (u.maxLimit c.id < c.value)) = false := by
    rw [exists_, decide_eq_false (by omega), decide_eq_false (by omega)]
    rfl
  unfold judge
  simp only [inTime, may, plusOne, typ, cause, fine, room_eq room]
  rfl

theorem State.judge_floor (typ : c.typ = 1) (plusOne : c.plusOne = false) (above : u.count c.id < c.value) :
    u.judge c = .begin_ (u.makeEntry c c.value) := by
  have rises : decide (c.value ≤ u.count c.id) = false := decide_eq_false (by omega)
  unfold judge
  simp only [inTime, may, plusOne, typ, rises, room_eq room]
  rfl

omit room in
theorem State.judge_reached (plusOne : c.plusOne = true) (full : u.limit c.id ≤ u.count c.id) :
    u.judge c = .refuse .limitReached (u.count c.id) := by
  have over_ : decide (u.limit c.id < u.count c.id + 1) = true := decide_eq_true (by omega)
  unfold judge
  simp only [inTime, may, plusOne, if_true, over_, Bool.true_or]
  rfl

end

/-! ## An operation asks the counter unit -/

section
variable {s v : State} {o : Op} (quiet : s.quiet) (last : State.LastOp s.sch.ops o v) (ports : v.ports = s.ports)
  (rcp : v.rcp = s.rcp) (life : v.life = s.life) (glz : v.glz = s.glz) (window : v.ldr.stalled = s.ldr.stalled)
  (cnt : v.cnt = s.cnt) (empty : s.cnt.queue = []) (idle : s.cnt.busy = none)
include quiet last ports rcp life glz window cnt empty idle

theorem State.opCommit_asks (typ cause id value : Nat) (plusOne : Bool) :
    s.Asks (v.opCommit o typ cause id value plusOne) (o.committing id) (hostAsk o.ctx typ cause id value plusOne false) := by
  have ctx : (o.committing id).ctx = o.ctx := rfl
  have arrived : v.cnt.arrivals ++ [hostAsk o.ctx typ cause id value plusOne false]
      = [hostAsk o.ctx typ cause id value plusOne false] := by
    rw [cnt, quiet.2.1.1]
    rfl
  exact ⟨quiet, ⟨(last.setOp ctx).ops, (last.setOp ctx).others⟩, rfl, rfl, ports, rcp, life, glz, window, arrived,
    (congrArg Counters.queue cnt :).trans empty, (congrArg Counters.busy cnt :).trans idle⟩

end

/-- With its descriptor in time a request is not late. -/
theorem State.Asks.inTime {s u : State} {o : Op} {c : Commit} (asks : s.Asks u o c) (inTime : u.isLate o.desc = false) :
    u.commitLate c = false := commitLate_last asks.last asks.owner inTime

theorem State.opCommit_isLate (v : State) (o : Op) (typ cause id value : Nat) (plusOne : Bool) (d : Desc) :
    (v.opCommit o typ cause id value plusOne).isLate d = v.isLate d := rfl

/-- What the counter unit reads is as it was before the descriptor took its context. -/
theorem State.makeEntry_takeIn (s : State) (q : Nat) (h : Fetched) (c : Commit) (v : Nat) :
    (s.takeIn q h).makeEntry c v = s.makeEntry c v :=
  takeIn_blind (fun s => s.makeEntry c v) s q h fun _ _ _ _ _ => rfl

theorem State.count_congr {s t : State} (h : t.cnt = s.cnt) (id : Nat) : t.count id = s.count id ∧ t.limit id = s.limit id := by
  unfold count limit
  rw [h]
  exact ⟨rfl, rfl⟩

theorem State.opCommit_count (v : State) (o : Op) (typ cause id value : Nat) (plusOne : Bool) (n : Nat) :
    (v.opCommit o typ cause id value plusOne).count n = v.count n
      ∧ (v.opCommit o typ cause id value plusOne).limit n = v.limit n := ⟨rfl, rfl⟩

/-- CONSUME up to its request. -/
theorem State.consumeRun_there {s : State} {o : Op} {n : Nat} (pass : s.posGate o.desc (some .retryLater) = none)
    (record : (s.pos o.desc.port o.desc.position).record = some n) (there : s.pageThere (recordPage n))
    (exists_ : s.counterExists n = true) : s.consumeRun o = (s.pin (recordPage n) o.ctx).opCommit o 1 1 n 0 true := by
  have stays : (s.pin (recordPage n) o.ctx).counterExists n = s.counterExists n := rfl
  unfold consumeRun
  rw [pass]
  simp only
  rw [record]
  simp only
  rw [opPage_there there, stays, exists_, if_pos rfl]

/-- LIMIT_SET of a global counter. -/
theorem State.limitRun_global {s : State} {o : Op} (global : globalBase ≤ o.desc.target.toNat) :
    s.limitRun o = s.opCommit o 2 1 o.desc.target.toNat o.desc.param1.toNat false := by
  unfold limitRun
  exact if_pos global

/-- The ranges that R369 requires of a LIMIT_SET. -/
theorem Desc.limitSet_ranges {d : Desc} (ok : d.wellFormed = true) (opcode : d.opcode = 0x43) :
    d.target.toNat ≤ 263167 ∧ d.param1.toNat < 2 ^ 48 := by
  have fields : d.fieldsOk = true := by
    unfold wellFormed at ok
    simp only [Bool.and_eq_true] at ok
    exact ok.1.2
  unfold fieldsOk at fields
  rw [opcode] at fields
  simp only [Bool.and_eq_true, decide_eq_true_eq] at fields
  obtain ⟨⟨⟨target, -⟩, -⟩, param⟩ := fields
  exact ⟨target, param⟩

theorem State.turned_keeps (u : State) : KeepsBut [.cnt] u u.turned := keepsBut_of_restore (by cases u; rfl)

/-- Counters that are as they were have not changed. -/
theorem KeepsBut.sameCnt {ch : List Part} {s t : State} (h : KeepsBut (.cnt :: ch) s t) (cnt : t.cnt = s.cnt) :
    KeepsBut ch s t := fun p hp => by
  by_cases here : p = .cnt
  · rw [here]
    exact cnt
  · exact h p fun no => (List.mem_cons.1 no).elim here hp

/-- A request refused at a counter's limit ends its operation. -/
theorem State.Begins.limited {s : State} {q code : Nat} {h : Fetched} (begins : s.Begins q code h) {typ cause id value : Nat}
    {plusOne : Bool} (empty : s.cnt.queue = []) (idle : s.cnt.busy = none) {v : Nat}
    (judged : ((s.takeIn q h).opCommit (s.newOp q h) typ cause id value plusOne).judge
      (hostAsk (s.newOp q h).ctx typ cause id value plusOne false) = .refuse .limitReached v) {i : Instr}
    {f : Op → State → State} (eq : exec i s = reacting s fun s => s.dispatch q code f)
    (runs : f (s.newOp q h) (s.takeIn q h) = (s.takeIn q h).opCommit (s.newOp q h) typ cause id value plusOne) :
    Runs i s opParts fun t => s.entryOut q h.desc .limitReached (countResult id v) ∈ t.out ∧ t.sch.ops = s.sch.ops := by
  have asks := opCommit_asks begins.quiet begins.last (s.takeIn_ports q h) (s.takeIn_rcp q h) (s.takeIn_life q h)
    (s.takeIn_glz q h) (congrArg Larder.stalled (s.takeIn_ldr q h)) (s.takeIn_cnt q h) empty idle typ cause id value plusOne
  generalize hu : (s.takeIn q h).opCommit (s.newOp q h) typ cause id value plusOne = u at asks judged runs
  have que : u.que = (s.takeIn q h).que := by rw [← hu]; rfl
  have tick : u.tick = (s.takeIn q h).tick := by rw [← hu]; rfl
  have links : u.links = (s.takeIn q h).links := by rw [← hu]; rfl
  have cnt : u.turned.cnt = s.cnt := by
    have same : u.turned.cnt = { (s.takeIn q h).cnt with arrivals := [], queue := [] } := by rw [← hu]; rfl
    rw [same, takeIn_cnt]
    obtain ⟨arrivals, -⟩ := begins.quiet.2.1
    generalize s.cnt = x at empty arrivals
    cases x
    simp only at empty arrivals
    rw [empty, arrivals]
  have keeps : KeepsBut [.queues, .sch] s u.turned := by
    have asked : KeepsBut [.cnt, .queues, .sch] s u := by
      rw [← hu, opCommit_eq]
      exact ((s.takeIn_keeps q h).within.also (setOp_keeps _ _)).also (arrive_keeps _ _)
    exact (asked.also (turned_keeps u)).sameCnt cnt
  have last : State.LastOp s.sch.ops ((s.newOp q h).committing id) u.turned := ⟨asks.last.ops, asks.last.others⟩
  have op (o : Op) : (o.committing id).q = o.q ∧ (o.committing id).desc = o.desc ∧ (o.committing id).ctx = o.ctx
      ∧ (o.committing id).committed = o.committed ∧ (o.committing id).record = id := ⟨rfl, rfl, rfl, rfl, rfl⟩
  obtain ⟨oq, odesc, octx, ocommitted, orecord⟩ := op (s.newOp q h)
  have done := last.completed (q := q) (h := h) (oq.trans (by simp only [newOp])) (odesc.trans (by simp only [newOp]))
    que (tick.trans (s.takeIn_tick q h)) (links.trans (s.takeIn_links q h)) .limitReached (countResult id v) none
  have pass : u.commitPass = (u.turned.dropOp ((s.newOp q h).committing id).ctx).complete ((s.newOp q h).committing id).q
      ((s.newOp q h).committing id).desc .limitReached (countResult id v) none true := by
    rw [commitPass_refuses asks.arrived asks.empty asks.idle judged (by decide)]
    unfold deliver hostAsk
    simp only
    rw [← octx, last.op]
    simp only
    unfold hostCommit
    simp only
    rw [if_pos trivial, orecord]
    exact last.endOp (ocommitted.trans (by simp only [newOp])) _ _ _
  refine runs_pass (fun s => s.dispatch q code f) eq begins.running _
    (begins.takes.dispatch runs (s.takeIn_setOp_buf q h u que)) asks.waits asks.portsQuiet asks.hand pass
    (done.quiet begins.quiet asks.ports asks.rcp asks.life cnt asks.glz asks.window)
    (keeps.within.also done.keeps) ⟨mem_settle_out (done.entry begins.master), ?_⟩
  rw [settle_sch, done.ops]

/-- `v` is `s` as far as a request and its judgement go. -/
structure State.Stands (s v : State) : Prop where
  ports : v.ports = s.ports
  rcp : v.rcp = s.rcp
  life : v.life = s.life
  glz : v.glz = s.glz
  window : v.ldr.stalled = s.ldr.stalled
  cnt : v.cnt = s.cnt
  tick : v.tick = s.tick
  mode : v.mode = s.mode
  spw : v.spw = s.spw
  vig : v.vig = s.vig
  entry : ∀ c w, v.makeEntry c w = s.makeEntry c w

/-- A descriptor that takes its context, and pins, change nothing of that. -/
theorem State.takenLdr_stands (s : State) (q : Nat) (h : Fetched) {x : Larder} (stalled : x.stalled = s.ldr.stalled) :
    s.Stands (s.takenLdr q h x) where
  ports := s.takeIn_ports q h
  rcp := s.takeIn_rcp q h
  life := s.takeIn_life q h
  glz := s.takeIn_glz q h
  window := stalled
  cnt := s.takeIn_cnt q h
  tick := s.takeIn_tick q h
  mode := s.takeIn_mode q h
  spw := s.takeIn_spw q h
  vig := s.takeIn_vig q h
  entry := fun c w => s.makeEntry_takeIn q h c w

section
variable {s v : State} {o : Op} (stands : s.Stands v) (quiet : s.quiet) (last : State.LastOp s.sch.ops o v)
include stands

theorem State.Stands.counts (id : Nat) : v.count id = s.count id ∧ v.limit id = s.limit id := count_congr stands.cnt id

theorem State.Stands.room (now : s.commitsNow) : v.commitOpen = true ∧ v.vig.buffer.length < 64 := by
  obtain ⟨-, -, -, -, window, room⟩ := now
  unfold commitOpen at window ⊢
  rw [stands.spw, stands.vig]
  exact ⟨window, room⟩

theorem State.Stands.may (ready : s.cnt.ready = true) (mode : s.mode = .service) (c : Commit) : v.mayCommit c = true := by
  unfold mayCommit
  rw [stands.cnt, stands.mode, ready, mode]
  rfl

include quiet last

theorem State.Stands.asks (empty : s.cnt.queue = []) (idle : s.cnt.busy = none) (typ cause id value : Nat) (plusOne : Bool) :
    s.Asks (v.opCommit o typ cause id value plusOne) (o.committing id) (hostAsk o.ctx typ cause id value plusOne false) :=
  opCommit_asks quiet last stands.ports stands.rcp stands.life stands.glz stands.window stands.cnt empty idle ..

theorem State.Stands.late (empty : s.cnt.queue = []) (idle : s.cnt.busy = none) (inTime : s.isLate o.desc = false)
    (typ cause id value : Nat) (plusOne : Bool) : (v.opCommit o typ cause id value plusOne).commitLate
      (hostAsk o.ctx typ cause id value plusOne false) = false := by
  refine (stands.asks quiet last empty idle typ cause id value plusOne).inTime ?_
  have tick : v.isLate o.desc = s.isLate o.desc := by unfold isLate; rw [stands.tick]
  exact tick.trans inTime

end

/-- The entry of a request is that of the operation about to begin. -/
theorem State.Stands.hostEntry {s v : State} {o : Op} (stands : s.Stands v) (typ cause id value w : Nat) (plusOne : Bool) :
    (v.opCommit o typ cause id value plusOne).makeEntry (hostAsk o.ctx typ cause id value plusOne false) w
      = s.hostEntry typ cause id w := (stands.entry _ w).trans (makeEntry_host s ..)

/-- An operation whose request the idle counter unit begins to write. -/
theorem State.Begins.enters {s : State} {q code : Nat} {h : Fetched} (begins : s.Begins q code h) (now : s.commitsNow)
    {v : State} (stands : s.Stands v) (last : State.LastOp s.sch.ops (s.newOp q h) v) (que : v.que = (s.takeIn q h).que)
    {typ cause id value w : Nat} {plusOne : Bool}
    (judged : (v.opCommit (s.newOp q h) typ cause id value plusOne).judge
      (hostAsk (s.newOp q h).ctx typ cause id value plusOne false) = .begin_ (s.hostEntry typ cause id w))
    {i : Instr} {f : Op → State → State} {ch : List Part} (eq : exec i s = reacting s fun s => s.dispatch q code f)
    (runs : f (s.newOp q h) (s.takeIn q h) = v.opCommit (s.newOp q h) typ cause id value plusOne)
    (keeps : KeepsBut ch s v) (hc : ∀ p ∈ [Part.cnt, Part.sch], p ∈ ch := by decide) :
    Runs i s ch fun t => t.cnt.busy = some (s.hostEntry typ cause id w) ∧ (∀ n, t.count n = s.count n)
      ∧ t.ldr = v.ldr ∧ (s.newOp q h).entering id ∈ t.sch.ops := by
  have asks := stands.asks begins.quiet last now.1 now.2.1 typ cause id value plusOne
  have asked : KeepsBut [.cnt, .sch] v (v.opCommit (s.newOp q h) typ cause id value plusOne) := by
    rw [opCommit_eq]
    exact (setOp_keeps _ _).within.also (arrive_keeps _ _)
  obtain ⟨t, ran, frame, tcnt, tldr, op⟩ := begins.commits asks judged eq runs que (keeps.trans (asked.mono hc)) hc
  refine ⟨t, ran, frame, by rw [tcnt], fun n => ?_, tldr, Op.committing_past _ _ ▸ op⟩
  have counts := (stands.counts n).1
  unfold count at counts ⊢
  rw [tcnt]
  exact counts

section
variable {s v : State} {o : Op} (stands : s.Stands v) (quiet : s.quiet) (last : State.LastOp s.sch.ops o v)
  (inTime : s.isLate o.desc = false)
include stands quiet last inTime

/-- A request to count one up, with room under its limit. -/
theorem State.Stands.plusOne (now : s.commitsNow) {cause id : Nat} (below : s.count id < s.limit id)
    (fits : s.count id < max48) : (v.opCommit o 1 cause id 0 true).judge (hostAsk o.ctx 1 cause id 0 true false)
      = .begin_ (s.hostEntry 1 cause id (s.count id + 1)) := by
  obtain ⟨counts, limits⟩ := stands.counts id
  rw [← stands.hostEntry (o := o) (value := 0) (plusOne := true), ← counts]
  exact judge_plusOne (stands.late quiet last now.1 now.2.1 inTime 1 cause id 0 true)
    (stands.may now.2.2.1 now.2.2.2.1 _) (.inr (stands.room now)) rfl rfl
    (Nat.lt_of_le_of_lt (Nat.le_of_eq counts) (limits.symm ▸ below)) (Nat.lt_of_le_of_lt (Nat.le_of_eq counts) fits)

/-- The same at its limit. -/
theorem State.Stands.reached (empty : s.cnt.queue = []) (idle : s.cnt.busy = none) (ready : s.cnt.ready = true)
    (mode : s.mode = .service) {cause id : Nat} (full : s.limit id ≤ s.count id) :
    (v.opCommit o 1 cause id 0 true).judge (hostAsk o.ctx 1 cause id 0 true false) = .refuse .limitReached (s.count id) := by
  obtain ⟨counts, limits⟩ := stands.counts id
  rw [← counts]
  exact judge_reached (stands.late quiet last empty idle inTime 1 cause id 0 true) (stands.may ready mode _) rfl
    (Nat.le_trans (Nat.le_of_eq limits) (counts.symm ▸ full))

/-- A request to set a global counter's limit. -/
theorem State.Stands.limit (now : s.commitsNow) {id value : Nat} (global : globalBase ≤ id) (exists_ : id ≤ 263167)
    (above : s.count id ≤ value) (fits : value < 2 ^ 48) :
    (v.opCommit o 2 1 id value false).judge (hostAsk o.ctx 2 1 id value false false)
      = .begin_ (s.hostEntry 2 1 id value) := by
  have base : globalBase = 262144 := rfl
  have counter : (v.opCommit o 2 1 id value false).counterExists id = true := by
    unfold counterExists
    rw [if_neg (by omega)]
    exact decide_eq_true (by omega)
  have ceiling : (v.opCommit o 2 1 id value false).maxLimit id = max48 := by
    unfold maxLimit
    exact if_neg (by omega)
  rw [← stands.hostEntry (o := o) (value := value) (plusOne := false)]
  refine judge_limit (stands.late quiet last now.1 now.2.1 inTime 2 1 id value false)
    (stands.may now.2.2.1 now.2.2.2.1 _) (.inr (stands.room now)) rfl rfl rfl counter
    (Nat.le_trans (Nat.le_of_eq (stands.counts id).1) above) ?_
  rw [show (hostAsk o.ctx 2 1 id value false false).id = id from rfl, ceiling]
  unfold max48
  exact Nat.le_pred_of_lt fits

end

/-- Settles O28: an idle counter unit judges the one request at once, and an entry that it begins is the only thing that
moves. -/
theorem counterDescriptors : Obligations.CounterDescriptors := by
  unfold Obligations.CounterDescriptors
  have stands {s : State} {q : Nat} {h : Fetched} : s.Stands (s.takeIn q h) :=
    s.takenLdr_stands q h (x := (s.takeIn q h).ldr) (congrArg Larder.stalled (s.takeIn_ldr q h))
  refine ⟨?_, ?_, ?_, ?_⟩
  · intro s q n h begins now gate record there exists_ below fits
    let x := ((s.takeIn q h).pin (recordPage n) (s.newOp q h).ctx).ldr
    have exists' : (s.takeIn q h).counterExists n = true :=
      (State.takeIn_blind (fun s => s.counterExists n) s q h fun _ _ _ _ _ => rfl).trans exists_
    have stands' : s.Stands (s.takenLdr q h x) := s.takenLdr_stands q h (congrArg Larder.stalled (s.takeIn_ldr q h) :)
    have last : State.LastOp s.sch.ops (s.newOp q h) (s.takenLdr q h x) := ⟨begins.last.ops, begins.last.others⟩
    have keeps : KeepsBut [.queues, .sch, .cnt, .ldr] s (s.takenLdr q h x) :=
      (s.takeIn_keeps q h).within.also (State.withLdr_keeps _ x)
    have held : ((s.takeIn q h).pos h.desc.port h.desc.position).record = some n := by
      unfold State.pos State.port
      rw [State.takeIn_ports]
      exact record
    obtain ⟨t, ran, frame, busy, count, ldr, op⟩ := begins.enters now stands' last rfl
      (stands'.plusOne begins.quiet last begins.takes.inTime now below fits) (i := .consume q)
      (f := fun o s => s.consumeRun o) rfl (State.consumeRun_there ((s.posGate_takeIn q h _ _).trans gate) held
        (State.takeIn_pageThere there q h) exists') keeps
    exact ⟨t, ran, frame, busy, count n,
      (congrArg Larder.records ldr).trans (congrArg Larder.records (s.takeIn_ldr q h) :), op⟩
  · intro s q h begins now below fits
    obtain ⟨t, ran, frame, busy, count, -, op⟩ := begins.enters now stands begins.last rfl
      (stands.plusOne begins.quiet begins.last begins.takes.inTime now below fits) (i := .increment q)
      (ch := [.queues, .sch, .cnt]) (f := fun o s => s.opCommit o 1 2 o.desc.target.toNat 0 true) rfl rfl (s.takeIn_keeps q h).within
    exact ⟨t, ran, frame, busy, count _, op⟩
  · intro s q h begins empty idle ready mode full
    exact begins.limited empty idle
      (stands.reached begins.quiet begins.last begins.takes.inTime empty idle ready mode full) (i := .increment q)
      (f := fun o s => s.opCommit o 1 2 o.desc.target.toNat 0 true) rfl rfl
  · intro s q h begins now global above
    obtain ⟨target, param⟩ := Desc.limitSet_ranges begins.takes.wellFormed begins.takes.opcode
    obtain ⟨t, ran, frame, busy, -, -, op⟩ := begins.enters now stands begins.last rfl
      (stands.limit begins.quiet begins.last begins.takes.inTime now global target above param) (i := .limitSet q)
      (ch := [.queues, .sch, .cnt]) (f := fun o s => s.limitRun o) rfl (State.limitRun_global global) (s.takeIn_keeps q h).within
    exact ⟨t, ran, frame, busy, op⟩

end Sys2Proof.Machine
end

section
/-! PROOF. ISSUER_SET and ANCHOR_ACK on an idle engine (R304, R305, R339, R340). -/

namespace Sys2Proof.Machine

/-! ## ISSUER_SET -/

/-- The operation while it waits for the round that makes its change durable. -/
def Op.issuing (o : Op) (b : Bytes) (gen : Nat) : Op :=
  { o with phase := .round, pastPoint := true, count := gen, data := b }

theorem Op.issuing_ctx (o : Op) (b : Bytes) (gen : Nat) : (o.issuing b gen).ctx = o.ctx := rfl

theorem Op.issuing_quiet (s : State) (o : Op) (b : Bytes) (gen : Nat) : s.opQuiet (o.issuing b gen) = true := rfl

/-- The entry that a block makes of a slot's old one. -/
def issuerMade (b : Bytes) (gen : Nat) (old : Issuer) : Issuer :=
  if leAt b 4 1 = 1 then { id := leAt b 0x18 2, state := 1, gen := gen, key := BitVec.ofNat 512 (beAt b 0x20 64) }
  else { old with state := 2 }

/-- The generation after an ISSUER_SET. -/
def Larder.nextGen (x : Larder) : Nat := (x.issuerGen + 1) % 2 ^ 32

/-- The issuer table changed in one slot, its round asked for. -/
def Larder.issued (x : Larder) (ctx k : Nat) (b : Bytes) : Larder :=
  { x with
    issuers := tabSet issuerEmpty x.issuers k (issuerMade b x.nextGen (tabGet issuerEmpty x.issuers k))
    issuerGen := x.nextGen
    needs := x.needs ++ [Need.issuer ctx x.issuers x.issuerGen] }

/-- The cache with other frames. -/
def State.withFrames (s : State) (fs : List Frame) : State := { s with ldr := { s.ldr with frames := fs } }

theorem State.issuerRun_there {s : State} {o : Op} {b : Bytes} {k : Nat} (there : ∀ p ∈ issuerPages, s.pageThere p)
    (judged : s.issuerJudge b = some k) (calm : s.spw.early = false) (free : s.ldr.holdoff = none)
    (inTime : s.isLate o.desc = false) : ∃ x, s.issuerRun (o.reading b) = { s.setOp (o.issuing b s.ldr.nextGen) with ldr := x }
      ∧ x.stalled = s.ldr.stalled ∧ x.records = s.ldr.records ∧ x.issuerGen = s.ldr.nextGen
      ∧ x.issuers = (s.ldr.issued o.ctx k b).issuers := by
  obtain ⟨fs, pins⟩ := s.pins_ldr issuerPages o.ctx
  have pins : issuerPages.foldl (fun s p => s.pin p o.ctx) s = s.withFrames fs := pins
  have judge : (s.withFrames fs).issuerJudge b = some k := judged
  have early : (s.withFrames fs).spw.early = false := calm
  have holdoff : (s.withFrames fs).ldr.holdoff.isSome = false := by
    rw [show (s.withFrames fs).ldr.holdoff = none from free]
    rfl
  have goes : s.issuerRun (o.reading b) = ({ s.setOp (o.issuing b s.ldr.nextGen) with
      ldr := ({ s.ldr with frames := fs } : Larder).issued o.ctx k b } : State).touchPage (issuerPage k) := by
    unfold issuerRun
    dsimp only
    rw [opPages_there _ there, show (o.reading b).ctx = o.ctx from rfl, show (o.reading b).data = b from rfl, pins, judge]
    dsimp only
    rw [early, holdoff, Bool.or_self, if_neg Bool.false_ne_true,
      opInTime_goes (s := s.withFrames fs) (o := o.reading b) inTime]
    rfl
  have paged := touchPage_paged ({ s.setOp (o.issuing b s.ldr.nextGen) with
      ldr := ({ s.ldr with frames := fs } : Larder).issued o.ctx k b } : State) (issuerPage k)
  rw [goes]
  exact ⟨_, paged.eq, (congrArg Larder.stalled paged.pageless :), (congrArg Larder.records paged.pageless :),
    (congrArg Larder.issuerGen paged.pageless :), (congrArg Larder.issuers paged.pageless :)⟩

theorem State.issuerJudge_takeIn (s : State) (q : Nat) (h : Fetched) (b : Bytes) :
    (s.takeIn q h).issuerJudge b = s.issuerJudge b :=
  takeIn_blind (fun s => s.issuerJudge b) s q h fun _ _ _ _ _ => rfl

/-! ## ANCHOR_ACK -/

/-- The operation once its token is accepted, `n` floors above their counts. -/
def Op.acking (o : Op) (b : Bytes) (n : Nat) : Op :=
  { o with phase := .commit, pastPoint := true, count := n, offset := n, data := b }

theorem Op.acking_past (o : Op) (b : Bytes) (n : Nat) : (o.acking b n).past = o.acking b n := rfl

theorem Op.acking_fields (o : Op) (b : Bytes) (n : Nat) : (o.acking b n).ctx = o.ctx ∧ (o.acking b n).q = o.q
    ∧ (o.acking b n).desc = o.desc ∧ (o.acking b n).committed = o.committed ∧ (o.acking b n).offset = n :=
  ⟨rfl, rfl, rfl, rfl, rfl⟩

theorem State.ackOk_takeIn (s : State) (q : Nat) (h : Fetched) (b : Bytes) : (s.takeIn q h).ackOk b = s.ackOk b :=
  takeIn_blind (fun s => s.ackOk b) s q h fun _ _ _ _ _ => rfl

theorem State.commitOpen_takeIn (s : State) (q : Nat) (h : Fetched) : (s.takeIn q h).commitOpen = s.commitOpen := by
  unfold commitOpen
  rw [takeIn_spw]

theorem State.ackRun_none {s : State} {o : Op} {b : Bytes} (ok : s.ackOk b = true) (window : s.commitOpen = true)
    (whole : s.cnt.reinitDue = false) (met : ∀ e ∈ ackFloors b, e.2 ≤ s.count e.1) (inTime : s.isLate o.desc = false) :
    s.ackRun (o.reading b) = (s.setOp (o.acking b 0)).ackEnd (o.acking b 0) := by
  have due : ((ackFloors b).filter fun e => decide (s.count e.1 < e.2)) = [] :=
    List.filter_eq_nil_iff.2 fun e he => by simpa using met e he
  unfold ackRun
  rw [show (o.reading b).data = b from rfl, ok, due, window]
  simp only [Bool.not_true, Bool.false_eq_true, if_false, List.length_nil, Nat.not_lt_zero, decide_false, Bool.or_self]
  rw [opInTime_goes (o := o.reading b) inTime, whole]
  rfl

theorem State.ackRun_one {s : State} {o : Op} {b : Bytes} {id v : Nat} (ok : s.ackOk b = true) (window : s.commitOpen = true)
    (whole : s.cnt.reinitDue = false) (floors : ackFloors b = [(id, v)]) (above : s.count id < v)
    (room : s.vig.buffer.length < 64) (inTime : s.isLate o.desc = false) :
    s.ackRun (o.reading b) = (s.setOp (o.acking b 1)).arrive (hostAsk o.ctx 1 4 id v false true) := by
  have due : ((ackFloors b).filter fun e => decide (s.count e.1 < e.2)) = [(id, v)] := by
    rw [floors, List.filter_cons, List.filter_nil]
    exact if_pos (decide_eq_true above)
  have fits : decide (s.bufferRoom < [(id, v)].length) = false := decide_eq_false (by
    unfold bufferRoom
    simp only [List.length_singleton]
    omega)
  unfold ackRun
  rw [show (o.reading b).data = b from rfl, ok, due, window]
  dsimp only
  rw [fits]
  simp only [Bool.not_true, Bool.false_eq_true, if_false, Bool.or_self]
  rw [opInTime_goes (o := o.reading b) inTime, whole]
  rfl

/-- ACK_DONE. -/
def State.acked (s : State) : State := { s with mod := { s.mod with ackDone := true } }

theorem State.ackEnd_eq (s : State) (o : Op) : s.ackEnd o = s.acked.endOp o.ctx .ok (leBytes 2 o.offset) none := rfl

theorem State.acked_keeps (s : State) : KeepsBut [.mod] s s.acked := keepsBut_of_restore (by cases s; rfl)

theorem State.ackOk_quarantine {s : State} {b : Bytes} (ok : s.ackOk b = true) : s.mode = .quarantine := by
  unfold ackOk at ok
  simp only [Bool.and_eq_true, beq_iff_eq] at ok
  exact ok.1.1.1.1.1.1.1.1.1.1.1

/-- A token's one floor above its count asks the counter unit at once. -/
theorem State.Stands.ackAsks {s v : State} {o : Op} (stands : s.Stands v) (quiet : s.quiet)
    (last : State.LastOp s.sch.ops o v) (empty : s.cnt.queue = []) (idle : s.cnt.busy = none) (b : Bytes) (id value : Nat) :
    s.Asks ((v.setOp (o.acking b 1)).arrive (hostAsk o.ctx 1 4 id value false true)) (o.acking b 1)
      (hostAsk o.ctx 1 4 id value false true) := by
  have ctx : (o.acking b 1).ctx = o.ctx := rfl
  have arrived : v.cnt.arrivals ++ [hostAsk o.ctx 1 4 id value false true] = [hostAsk o.ctx 1 4 id value false true] := by
    rw [stands.cnt, quiet.2.1.1]
    rfl
  exact ⟨quiet, ⟨(last.setOp ctx).ops, (last.setOp ctx).others⟩, rfl, rfl, stands.ports, stands.rcp, stands.life, stands.glz,
    stands.window, arrived, (congrArg Counters.queue stands.cnt :).trans empty, (congrArg Counters.busy stands.cnt :).trans idle⟩

theorem State.Stands.ackJudged {s v : State} {o : Op} (stands : s.Stands v) (quiet : s.quiet)
    (last : State.LastOp s.sch.ops o v) (empty : s.cnt.queue = []) (idle : s.cnt.busy = none) (ready : s.cnt.ready = true)
    (mode : s.mode = .quarantine) {b : Bytes} {id value : Nat} (above : s.count id < value) :
    ((v.setOp (o.acking b 1)).arrive (hostAsk o.ctx 1 4 id value false true)).judge (hostAsk o.ctx 1 4 id value false true)
      = .begin_ (s.hostEntry 1 4 id value) := by
  have asks := stands.ackAsks quiet last empty idle b id value
  have entry : ((v.setOp (o.acking b 1)).arrive (hostAsk o.ctx 1 4 id value false true)).makeEntry
      (hostAsk o.ctx 1 4 id value false true) value = s.hostEntry 1 4 id value :=
    (stands.entry _ value).trans (makeEntry_host s ..)
  have late : ((v.setOp (o.acking b 1)).arrive (hostAsk o.ctx 1 4 id value false true)).commitLate
      (hostAsk o.ctx 1 4 id value false true) = false := by
    unfold commitLate
    rw [asks.owner]
    simp only [asks.last.op]
    rfl
  have may : ((v.setOp (o.acking b 1)).arrive (hostAsk o.ctx 1 4 id value false true)).mayCommit
      (hostAsk o.ctx 1 4 id value false true) = true := by
    have here : v.mayCommit (hostAsk o.ctx 1 4 id value false true) = true := by
      unfold mayCommit
      rw [stands.cnt, stands.mode, ready, mode]
      rfl
    exact here
  rw [← entry]
  exact judge_floor late may (.inl rfl) rfl rfl (Nat.lt_of_le_of_lt (Nat.le_of_eq (stands.counts id).1) above)

/-- Settles O31: an engine is idle, so the block or the token is judged at once; then a round, the counter unit or nothing
is waited for. -/
theorem issuerAndToken : Obligations.IssuerAndToken := by
  unfold Obligations.IssuerAndToken
  have stands {s : State} {q : Nat} {h : Fetched} : s.Stands (s.takeIn q h) :=
    s.takenLdr_stands q h (x := (s.takeIn q h).ldr) (congrArg Larder.stalled (s.takeIn_ldr q h))
  have qeq (s : State) (q : Nat) (h : Fetched) (b : Bytes) : ((s.newOp q h).reading b).q = q := by
    simp only [Op.reading, State.newOp]
  refine ⟨?_, ?_, ?_⟩
  · intro s q k h b begins engine there judged calm free
    obtain ⟨x, eq, stalled, records, gen, issuers⟩ := State.issuerRun_there (s := s.takeIn q h) (o := s.newOp q h)
      (fun p hp => State.takeIn_pageThere (there p hp) q h) ((s.issuerJudge_takeIn q h b).trans judged)
      ((congrArg Supply.early (s.takeIn_spw q h)).trans calm) ((congrArg Larder.holdoff (s.takeIn_ldr q h)).trans free)
      begins.takes.late
    rw [State.takeIn_ldr] at eq stalled records gen issuers
    have runs : (s.takeIn q h).issuerOp (s.newOp q h) (some b)
        = { (s.takeIn q h).setOp ((s.newOp q h).issuing b s.ldr.nextGen) with ldr := x } :=
      (State.onEcc_takeIn engine (qeq s q h b) fun u => u.issuerRun ((s.newOp q h).reading b)).trans eq
    have held := begins.last.setOp (Op.issuing_ctx (s.newOp q h) b s.ldr.nextGen)
    have quiet : ({ (s.takeIn q h).setOp ((s.newOp q h).issuing b s.ldr.nextGen) with ldr := x } : State).quiet :=
      State.quiet_joined begins.quiet held.ops (Op.issuing_quiet s _ b _) (s.takeIn_ports q h) (s.takeIn_rcp q h)
        (s.takeIn_life q h) ((congrArg Counters.arrivals (s.takeIn_cnt q h) :).trans begins.quiet.2.1.1)
        ((congrArg (fun c => c.queue = [] ∨ c.busy.isSome = true) (s.takeIn_cnt q h)).mpr begins.quiet.2.1.2)
        (s.takeIn_glz q h) stalled
    have keeps : KeepsBut [.queues, .sch, .ldr] s
        { (s.takeIn q h).setOp ((s.newOp q h).issuing b s.ldr.nextGen) with ldr := x } :=
      ((s.takeIn_keeps q h).within.also (State.setOp_keeps _ _)).also (State.withLdr_keeps _ x)
    refine runs_react (fun s => s.dispatch q 0x47 fun o s => s.issuerOp o (some b)) rfl begins.running _
      (begins.takes.dispatch runs (s.takeIn_setOp_buf q h _ rfl)) quiet keeps ?_
    rw [settle_ldr, settle_sch]
    refine ⟨gen, ?_, fun j hj => ?_, ?_, records⟩
    · refine (congrArg (tabGet issuerEmpty · k) issuers).trans ?_
      exact tabGet_tabSet_same ..
    · refine (congrArg (tabGet issuerEmpty · j) issuers).trans ?_
      exact tabGet_tabSet_other _ _ _ hj
    · refine (held.ops : _ = _) ▸ List.mem_append_right _ (List.mem_singleton_self _)
  · intro s q h b begins engine ok window whole met
    have inTime := begins.takes.late
    have counts (id : Nat) : (s.takeIn q h).count id = s.count id := (stands.counts id).1
    have runs : (s.takeIn q h).ackOp (s.newOp q h) (some b)
        = ((s.takeIn q h).setOp ((s.newOp q h).acking b 0)).ackEnd ((s.newOp q h).acking b 0) :=
      (State.onEcc_takeIn engine (qeq s q h b) fun u => u.ackRun ((s.newOp q h).reading b)).trans
        (State.ackRun_none ((s.ackOk_takeIn q h b).trans ok) ((s.commitOpen_takeIn q h).trans window)
          ((congrArg Counters.reinitDue (s.takeIn_cnt q h)).trans whole) (fun e he => (counts e.1).symm ▸ met e he) inTime)
    let u := ((s.takeIn q h).setOp ((s.newOp q h).acking b 0)).acked
    obtain ⟨ctx, oq, odesc, plain, offset⟩ := Op.acking_fields (s.newOp q h) b 0
    have held := begins.last.setOp ctx
    have last : State.LastOp s.sch.ops ((s.newOp q h).acking b 0) u := ⟨held.ops, held.others⟩
    have done := last.completed (q := q) (h := h) (oq.trans (by simp only [State.newOp])) (odesc.trans (by simp only [State.newOp]))
      rfl (s.takeIn_tick q h) (s.takeIn_links q h) .ok (leBytes 2 0) none
    have ends := (runs.trans (State.ackEnd_eq _ _)).trans (last.endOp (plain.trans (by simp only [State.newOp])) .ok
      (leBytes 2 ((s.newOp q h).acking b 0).offset) none)
    rw [offset] at ends
    refine runs_react (fun s => s.dispatch q 0x42 fun o s => s.ackOp o (some b)) rfl begins.running _
      (begins.takes.dispatch ends (done.buffer rfl))
      (done.quiet begins.quiet (s.takeIn_ports q h) (s.takeIn_rcp q h) (s.takeIn_life q h) (s.takeIn_cnt q h)
        (s.takeIn_glz q h) (congrArg Larder.stalled (s.takeIn_ldr q h)))
      ((((s.takeIn_keeps q h).within.also (State.setOp_keeps _ _)).also (State.acked_keeps _)).also done.keeps)
      ⟨?_, mem_settle_out (done.entry begins.master), ?_⟩
    · rw [settle_mod, done.chats.mod]
      exact congrArg (fun m : Mod => { m with ackDone := true }) (s.takeIn_mod q h)
    · rw [settle_sch, done.ops]
  · intro s q id v h b begins engine ok window whole floors above room ready empty idle
    have inTime := begins.takes.late
    have runs : (s.takeIn q h).ackOp (s.newOp q h) (some b)
        = ((s.takeIn q h).setOp ((s.newOp q h).acking b 1)).arrive (hostAsk (s.newOp q h).ctx 1 4 id v false true) :=
      (State.onEcc_takeIn engine (qeq s q h b) fun u => u.ackRun ((s.newOp q h).reading b)).trans
        (State.ackRun_one ((s.ackOk_takeIn q h b).trans ok) ((s.commitOpen_takeIn q h).trans window)
          ((congrArg Counters.reinitDue (s.takeIn_cnt q h)).trans whole) floors
          (Nat.lt_of_le_of_lt (Nat.le_of_eq (stands.counts id).1) above)
          (Nat.lt_of_le_of_lt (Nat.le_of_eq (congrArg (·.buffer.length) (s.takeIn_vig q h))) room) inTime)
    obtain ⟨t, ran, frame, cnt, -, op⟩ := begins.commits
      (stands.ackAsks begins.quiet begins.last empty idle b id v)
      (stands.ackJudged begins.quiet begins.last empty idle ready (State.ackOk_quarantine ok) above) (i := .anchorAck q (some b) .done)
      (ch := [.queues, .sch, .cnt]) (f := fun o s => s.ackOp o (some b)) rfl runs rfl
      (((s.takeIn_keeps q h).within.also (State.setOp_keeps _ _)).also (State.arrive_keeps _ _))
    rw [Op.acking_past] at op
    exact ⟨t, ran, frame, by rw [cnt], op⟩

end Sys2Proof.Machine
end

section
/-! PROOF. The journal's drains and compactions: an anchor that advances, a padded slot, a broken chain, and the steps of a
compaction. -/

namespace Sys2Proof.Machine

/-! ## The states of a drain -/

/-- A state with other journal registers. -/
def State.withCnt (s : State) (x : Counters) : State := { s with cnt := x }

theorem State.withCnt_keeps (s : State) (x : Counters) : KeepsBut [.cnt] s (s.withCnt x) :=
  keepsBut_of_restore (by cases s; rfl)

/-- A state with another ring. -/
def State.withRing (s : State) (r : Tab RingSlot) : State := { s with flash := { s.flash with ring := r } }

theorem State.withRing_keeps (s : State) (r : Tab RingSlot) : KeepsBut [.flash] s (s.withRing r) :=
  keepsBut_of_restore (by cases s; rfl)

/-- The anchor at an entry, the entries up to it released. -/
def State.anchoredAt (s : State) (n : Nat) (e : Entry) : State := s.withVig { s.vig with
  headSeq := BitVec.ofNat 64 e.seq, chain := s.chainAfter s.vig.chain (s.vig.buffer.take n), anchorOk := true
  buffer := s.vig.buffer.drop n }

theorem State.advanceAnchor_at {s : State} {n : Nat} {e : Entry} (last : (s.vig.buffer.take n).getLast? = some e) :
    s.advanceAnchor n = s.anchoredAt n e := by
  unfold advanceAnchor
  dsimp only
  rw [last]
  rfl

/-- A program that reads back equal in every slot. -/
theorem State.drainEnd_equal {s : State} {n : Nat} {l : List Readback} {e : Entry} (equal : ∀ r ∈ l, r = .equal)
    (last : (s.vig.buffer.take n).getLast? = some e) :
    s.drainEnd n l = ((s.withRing (writeRing s.flash.ring s.cnt.ringNext (s.vig.buffer.take n))).anchoredAt n e).withCnt
      { s.cnt with drain := .idle, drainFails := 0, drainFail := false, ringNext := (s.cnt.ringNext + n) % ringSlots } := by
  have whole : (l.take n).takeWhile (· == .equal) = l.take n :=
    takeWhile_whole_iff.2 fun r hr => by rw [equal r (List.mem_of_mem_take hr)]; rfl
  have none : (l.take n)[(l.take n).length]? = none := List.getElem?_eq_none (Nat.le_refl _)
  unfold drainEnd
  dsimp only
  rw [whole, none]
  dsimp only
  rw [show ({ s with flash := _ } : State).advanceAnchor n
    = (s.withRing (writeRing s.flash.ring s.cnt.ringNext (s.vig.buffer.take n))).anchoredAt n e from advanceAnchor_at last]
  rfl

/-- The read-back of a drain program ends. -/
def State.readBack (l : List Readback) (s : State) : State :=
  match s.cnt.drain with
  | .programming n => s.drainEnd n l
  | _ => s

theorem exec_drainReadbackDone (l : List Readback) (s : State) :
    exec (.drainReadbackDone l) s = onClock s (State.readBack l) := by
  show execDrainReadbackDone l s = _
  unfold execDrainReadbackDone
  congr

theorem State.readBack_programming {s : State} {n : Nat} (programs : s.cnt.drain = .programming n) (l : List Readback) :
    s.readBack l = s.drainEnd n l := by
  unfold readBack
  rw [programs]

/-- The pause of a drain ends. -/
def State.pauseOver (s : State) : State :=
  match s.cnt.drain with
  | .paused _ => s.withCnt { s.cnt with drain := .idle }
  | _ => s

theorem exec_drainPauseEnd (s : State) : exec .drainPauseEnd s = onClock s State.pauseOver := by
  show execDrainPauseEnd s = _
  unfold execDrainPauseEnd
  congr

theorem State.pauseOver_paused {s : State} {u : BitVec 64} (paused : s.cnt.drain = .paused u) :
    s.pauseOver = s.withCnt { s.cnt with drain := .idle } := by
  unfold pauseOver
  rw [paused]

/-- One slot is programmed PAD. -/
def State.padded (s : State) : State := s.withRing (tabPut s.flash.ring s.cnt.ringNext .pad)

/-- The journal's registers after a slot that was programmed PAD. -/
def Counters.retried (x : Counters) : Counters :=
  { x with ringNext := (x.ringNext + 1) % ringSlots, drainRetries := satInc x.drainRetries }

/-- The third slot in a row that does not read back pauses the drain. -/
def Counters.pausedTo (x : Counters) (u : BitVec 64) : Counters :=
  { x with drainFails := 0, drainFail := true, drain := .paused u }

theorem State.drainEnd_bad (s : State) : s.drainEnd 1 [.badMac]
    = if 3 ≤ s.cnt.drainFails + 1 then (s.padded.withCnt (s.cnt.retried.pausedTo (s.tick + 100000))).raise .counter
      else s.padded.withCnt { s.cnt.retried with drainFails := s.cnt.drainFails + 1, drain := .idle } := rfl

/-- A slot that holds a different valid entry ends the drain with JOURNAL_CHAIN. -/
theorem State.drainEnd_other (s : State) : s.drainEnd 1 [.otherValid]
    = (s.withCnt { s.cnt with drain := .idle, ringNext := s.cnt.ringNext % ringSlots }).quarantine .journalChain := rfl

/-! ## A cause that zeroizes, in SERVICE -/

theorem TalksOnly.drain {s t : State} (h : TalksOnly s t) : t.cnt.drain = s.cnt.drain :=
  (congrArg (fun s : State => s.cnt.drain) h :)

theorem foldl_drain {α : Type} {f : State → α → State} (hf : ∀ s a, (f s a).cnt.drain = s.cnt.drain) (l : List α)
    (s : State) : (l.foldl f s).cnt.drain = s.cnt.drain := by
  induction l generalizing s with
  | nil => rfl
  | cons a l ih => exact (ih _).trans (hf s a)

theorem State.finishOp_drain (s : State) (c : Nat) (st : Status) (r : Bytes) (b : Option Bytes) :
    (s.finishOp c st r b).cnt.drain = s.cnt.drain := by
  unfold finishOp
  split
  · rfl
  · exact (State.complete_talks ..).drain

theorem State.quarantineOps_drain (s : State) : s.quarantineOps.cnt.drain = s.cnt.drain := by
  unfold quarantineOps
  refine foldl_drain (fun s o => ?_) _ s
  exact (TalksOnly.ite (State.holdCount_talks ..)).drain.trans (s.finishOp_drain ..)

theorem State.quieted_drain (s : State) : s.quieted.cnt.drain = s.cnt.drain := by
  have queues := TalksOnly.foldl _ (fun s (e : Nat × Queue) => s.quarantineQueue_talks e.1) s.quarantineOps.que s.quarantineOps
  exact queues.drain.trans s.quarantineOps_drain

theorem State.attend_drain (s : State) (i : Nat) : (s.attend i).cnt.drain = s.cnt.drain := by
  unfold attend
  split <;> rfl

/-- The entry into QUARANTINE moves no drain. -/
theorem State.enterQuarantine_drain {s : State} (h : s.mode = .service) : s.enterQuarantine.cnt.drain = s.cnt.drain := by
  rw [enterQuarantine_service h]
  have shown : s.quieted.showCause.cnt.drain = s.cnt.drain := s.quieted_drain
  have entered : ((s.quieted.showCause).setMode .quarantine).cnt.drain = s.cnt.drain := by
    unfold setMode
    rw [attend_drain]
    exact (State.raise_talks _ _).drain.trans shown
  rw [attend_drain]
  exact (State.raise_talks _ _).drain.trans entered

/-- What zeroization and the entry into QUARANTINE leave unchanged, none of them torn. -/
def zeroizedParts : List Part :=
  [.mode, .mod, .vig, .otp, .rcp, .guards, .ports, .ent, .prf, .cnt, .ldr, .spc, .glz, .msp] ++ talkParts

/-- `t` is `s` after a cause that zeroizes was met in SERVICE. -/
structure ZeroizedFrom (s t : State) (c : QuarCause) : Prop where
  keeps : KeepsBut zeroizedParts s t
  mode : t.mode = .quarantine
  cause : c ∈ t.vig.causes
  ops : t.sch.ops = []
  drain : t.cnt.drain = .idle

theorem State.zeroizeFor_idle {s : State} {c : QuarCause} (drain : s.cnt.drain = .idle)
    (compaction : s.cnt.compaction = .none) (round : s.ldr.running = none) :
    s.zeroizeFor c = s ∨ s.zeroizeFor c = s.zeroizeMarks.wipeCore := by
  unfold zeroizeFor
  split
  · exact .inr (zeroizeBegin_idle drain compaction round)
  · exact .inl rfl

theorem State.quarantine_zeroized {s : State} {c : QuarCause} (mode : s.mode = .service) (drain : s.cnt.drain = .idle)
    (compaction : s.cnt.compaction = .none) (round : s.ldr.running = none) : ZeroizedFrom s (s.quarantine c) c := by
  have enters : s.quarantine c = ((s.recordCause c).zeroizeFor c).enterQuarantine := by
    unfold quarantine
    rw [mode]
  have recorded := (s.recordCause_keeps c)
  have listed : c ∈ (s.recordCause c).vig.causes := State.mem_recordCause.2 (.inl rfl)
  have wiped : KeepsBut [.mod, .vig, .otp, .ports, .prf, .ent, .glz, .ldr, .cnt, .spc] s
      (s.recordCause c).zeroizeMarks.wipeCore :=
    ((recorded.mono (by decide)).trans ((State.zeroizeMarks_keeps _).mono (by decide))).trans
      ((State.wipeCore_keeps _).mono (by decide))
  have begun : ∃ u, (s.recordCause c).zeroizeFor c = u ∧ u.mode = .service ∧ c ∈ u.vig.causes ∧ u.cnt.drain = .idle
      ∧ KeepsBut [.mod, .vig, .otp, .ports, .prf, .ent, .glz, .ldr, .cnt, .spc] s u := by
    rcases (s.recordCause c).zeroizeFor_idle (c := c) drain compaction round with eq | eq
    · exact ⟨_, eq, mode, listed, drain, recorded.mono (by decide)⟩
    · exact ⟨_, eq, mode, listed, rfl, wiped⟩
  obtain ⟨u, eq, serves, causes, idle, keeps⟩ := begun
  have entered := State.enterQuarantine_entered serves
  rw [enters, eq]
  refine ⟨(keeps.mono (by decide)).trans (entered.keeps.mono (by decide)), entered.mode, ?_, entered.ops,
    (State.enterQuarantine_drain serves).trans idle⟩
  rw [(State.enterQuarantine_enters serves).vig]
  exact causes

/-! ## The states of a compaction -/

theorem State.setCkpt_keeps (s : State) (i : Nat) (k : Option Checkpoint) : KeepsBut [.flash] s (s.setCkpt i k) := by
  unfold setCkpt
  split <;> exact keepsBut_of_restore (by cases s; rfl)

/-- A checkpoint slot holds what was put into it. -/
theorem State.ckptAt_setCkpt (s : State) (i : Nat) (k : Option Checkpoint) : (s.setCkpt i k).ckptAt i = k := by
  unfold setCkpt ckptAt
  split <;> rfl

@[simp] theorem State.setCkpt_ring (s : State) (i : Nat) (k : Option Checkpoint) :
    (s.setCkpt i k).flash.ring = s.flash.ring := by
  unfold setCkpt
  split <;> rfl

@[simp] theorem State.setCkpt_cnt (s : State) (i : Nat) (k : Option Checkpoint) : (s.setCkpt i k).cnt = s.cnt := by
  unfold setCkpt
  split <;> rfl

theorem ckptAt_settle (old e : State) (i : Nat) : (settle old e).ckptAt i = e.ckptAt i := by
  unfold State.ckptAt
  rw [settle_flash]

/-- The checkpoint that a compaction due programs: the counters after the entry at the anchor. -/
def State.nextCkpt (s : State) : Checkpoint :=
  s.makeCkpt (s.otp.ratchet + 1) s.vig.headSeq.toNat s.vig.chain
    (s.walkFrom s.currentCkpt (some s.vig.headSeq.toNat)).counts

/-- A compaction in one of its steps. -/
def State.compacting (s : State) (x : Compaction) : State := s.withCnt { s.cnt with compaction := x }

theorem State.startCompaction_due {s : State} (due : s.compactionDue = true) :
    s.startCompaction = if s.spw.early then s.compacting (.program s.nextCkpt (!s.spw.early))
      else (s.compacting (.program s.nextCkpt (!s.spw.early))).setCkpt s.otherSlot none := by
  unfold startCompaction
  rw [if_pos due]
  rfl

/-- Settles O53: each command of the journal, in its case, writes the state that is named above. -/
theorem journalDrainsAndCompacts : Obligations.JournalDrainsAndCompacts := by
  unfold Obligations.JournalDrainsAndCompacts
  refine ⟨?_, ?_, ?_, ?_, ?_, ?_, ?_, ?_, ?_, ?_, ?_, ?_⟩
  · intro s running ready idle some
    refine runs_clock State.drainStart rfl running _ (if_pos ⟨ready, idle, some⟩) (s.withCnt_keeps _) ?_
    rw [settle_cnt]
  · intro s n l e running programs equal last
    refine runs_clock _ (exec_drainReadbackDone l s) running _
      ((State.readBack_programming programs l).trans (State.drainEnd_equal equal last)) ?_ ?_
    · exact keepsBut_of_restore (by cases s; rfl)
    · rw [settle_flash, settle_vig, settle_cnt]
      exact ⟨rfl, rfl, rfl⟩
  · intro s running programs few
    have ended := s.drainEnd_bad.trans (if_neg (by omega))
    refine runs_clock _ (exec_drainReadbackDone _ s) running _ ((State.readBack_programming programs _).trans ended) ?_ ?_
    · exact keepsBut_of_restore (by cases s; rfl)
    · rw [settle_flash, settle_cnt]
      exact ⟨rfl, rfl⟩
  · intro s running programs fails
    have ended := s.drainEnd_bad.trans (if_pos (by omega))
    have keeps : KeepsBut [.cnt, .flash] s (s.padded.withCnt (s.cnt.retried.pausedTo (s.tick + 100000))) :=
      keepsBut_of_restore (by cases s; rfl)
    refine runs_clock _ (exec_drainReadbackDone _ s) running _ ((State.readBack_programming programs _).trans ended) (keeps.within.also (State.raise_keeps _ .counter)) ?_
    rw [settle_cnt, settle_irqStat, (State.raise_chats _ .counter).cnt]
    exact ⟨rfl, rfl, rfl, fun one => State.raise_bit .counter one⟩
  · intro s running mode programs compaction round
    let u := s.withCnt { s.cnt with drain := .idle, ringNext := s.cnt.ringNext % ringSlots }
    have zeroized : ZeroizedFrom u (u.quarantine .journalChain) .journalChain :=
      State.quarantine_zeroized mode rfl compaction round
    refine runs_clock _ (exec_drainReadbackDone _ s) running _
      ((State.readBack_programming programs _).trans s.drainEnd_other)
      (((s.withCnt_keeps _).mono (by decide)).trans zeroized.keeps) ?_
    have off := settle_off (old := s) (e := u.quarantine .journalChain) (by rw [zeroized.mode]; decide)
    rw [settle_mode, settle_vig, settle_cnt, settle_sch]
    exact ⟨zeroized.mode, zeroized.cause, off, zeroized.drain, zeroized.ops⟩
  · intro s u running paused
    refine runs_clock _ (exec_drainPauseEnd s) running _ (State.pauseOver_paused paused) (s.withCnt_keeps _) ?_
    rw [settle_cnt]
    rfl
  · intro s running due late
    have begins := State.startCompaction_due due
    rw [late, if_neg Bool.false_ne_true] at begins
    refine runs_clock State.startCompaction rfl running _ begins
      (((s.withCnt_keeps _).mono (by decide)).trans ((State.setCkpt_keeps _ _ _).mono (by decide))) ?_
    rw [settle_cnt, settle_flash, ckptAt_settle, State.ckptAt_setCkpt, State.setCkpt_cnt, State.setCkpt_ring]
    exact ⟨⟨s.nextCkpt, rfl, rfl, rfl, rfl, rfl⟩, rfl, rfl⟩
  · intro s running due early
    have begins := State.startCompaction_due due
    rw [early, if_pos rfl] at begins
    refine runs_clock State.startCompaction rfl running _ begins (s.withCnt_keeps _) ?_
    rw [settle_cnt]
    exact ⟨s.nextCkpt, rfl⟩
  · intro s k running programs
    have done : s.checkpointDone true = (s.compacting (.blow k (!s.spw.early))).setCkpt s.otherSlot (some k) := by
      unfold State.checkpointDone
      rw [programs]
      rfl
    refine runs_clock (·.checkpointDone true) rfl running _ done
      (((s.withCnt_keeps _).mono (by decide)).trans ((State.setCkpt_keeps _ _ _).mono (by decide))) ?_
    rw [settle_cnt, ckptAt_settle, State.ckptAt_setCkpt, State.setCkpt_cnt]
    exact ⟨rfl, rfl⟩
  · intro s k running blows left
    let u : State := { s with
      otp := { s.otp with ratchet := s.otp.ratchet + 1 }
      cnt := { s.cnt with compaction := .erase, ckptSlot := s.otherSlot, ckptSeq := k.seq } }
    have done : s.fuseDone
        = if s.otp.ratchet + 1 = 65280 ∨ s.otp.ratchet + 1 = 65536 then u.raise .counter else u := by
      unfold State.fuseDone
      rw [blows]
      exact if_neg (show ¬ 65536 ≤ s.otp.ratchet by omega)
    have keeps : KeepsBut [.cnt, .otp] s u := keepsBut_of_restore (by cases s; rfl)
    by_cases few : s.otp.ratchet + 1 = 65280 ∨ s.otp.ratchet + 1 = 65536
    · refine runs_clock State.fuseDone rfl running _ (done.trans (if_pos few))
        (keeps.within.also (u.raise_keeps .counter)) ?_
      rw [settle_otp, settle_cnt, settle_irqStat, (u.raise_chats .counter).cnt, (u.raise_chats .counter).otp]
      exact ⟨rfl, rfl, fun _ one => State.raise_bit (s := u) .counter one⟩
    · refine runs_clock State.fuseDone rfl running _ (done.trans (if_neg few)) (keeps.mono (by decide)) ?_
      rw [settle_otp, settle_cnt]
      exact ⟨rfl, rfl, fun at' => absurd (.inl at') few⟩
  · intro s running erases suspended
    refine runs_clock State.compactionErase rfl running s (if_neg fun h => Bool.noConfusion (suspended.symm.trans h.2))
      (.refl _ s) ?_
    rw [settle_cnt, settle_flash]
    exact ⟨rfl, rfl⟩
  · intro s running erases runs
    let u := s.withRing (eraseOld s.flash.ring s.cnt.ckptSeq)
    have done : s.compactionErase = (u.setCkpt s.otherSlot none).withCnt
        { s.cnt with compaction := .none, compactions := satInc s.cnt.compactions } := by
      unfold State.compactionErase
      rw [if_pos ⟨erases, runs⟩]
      dsimp only
      rw [State.setCkpt_cnt]
      rfl
    refine runs_clock State.compactionErase rfl running _ done
      ((((s.withRing_keeps _).mono (by decide)).trans ((State.setCkpt_keeps _ _ _).mono (by decide))).trans
        ((State.withCnt_keeps _ _).mono (by decide))) ?_
    have empty : ((u.setCkpt s.otherSlot none).withCnt
        { s.cnt with compaction := .none, compactions := satInc s.cnt.compactions }).ckptAt s.otherSlot = none :=
      State.ckptAt_setCkpt u s.otherSlot none
    rw [settle_cnt, settle_flash, ckptAt_settle, empty]
    exact ⟨State.setCkpt_ring u s.otherSlot none, rfl, rfl⟩

end Sys2Proof.Machine
end

section
/-! PROOF. Work at the positions of one port: what it leaves of the block, of the other ports and of the port itself, and
what each of its operations makes of a position (R236, R335, R396, R412). -/

namespace Sys2Proof.Machine

/-! ## Reading a position after a write -/

@[simp] theorem Port.at_setPos (x : Port) (i j : Nat) (v : Pos) : (x.setPos i v).at j = if j = i then v else x.at j :=
  tabGet_tabSet _ _ _ _ _

theorem State.pos_setPos (s : State) (p i j : Nat) (v : Pos) :
    (s.setPos p i v).pos p j = if j = i then v else s.pos p j := by
  unfold pos setPos
  rw [port_setPort_same, Port.at_setPos]

@[simp] theorem State.port_setPos_same (s : State) (p i : Nat) (v : Pos) :
    (s.setPos p i v).port p = (s.port p).setPos i v := State.port_setPort_same ..

theorem State.port_setPort_other {s : State} {p r : Nat} (h : r ≠ p) (x : Port) : (s.setPort p x).port r = s.port r := by
  rw [port_setPort, if_neg h]

/-! ## What such work leaves alone -/

/-- A port without what work at its positions moves: their state, their jobs, the count of failures. -/
def Port.line (x : Port) : Port := { x with pos := [], jobs := [], authFails := 0 }

/-- The Larder without the pins and the speculation frames. -/
def Larder.unpinned (x : Larder) : Larder := { x with frames := [], specFrames := [] }

/-- `t` is `s` after work at the positions of port `p`. -/
structure Works (p : Nat) (s t : State) : Prop where
  chats : Chats s { t with ports := s.ports, ldr := s.ldr, spc := s.spc }
  ldr : t.ldr.unpinned = s.ldr.unpinned
  others : ∀ r, r ≠ p → t.port r = s.port r
  line : (t.port p).line = (s.port p).line

theorem Works.refl (p : Nat) (s : State) : Works p s s := ⟨.refl s, rfl, fun _ _ => rfl, rfl⟩

/-- What is said stands beside any ports, Larder and speculation. -/
theorem Chats.over {s t : State} (h : Chats s t) (x : Tab Port) (y : Larder) (z : Spec) :
    Chats { s with ports := x, ldr := y, spc := z } { t with ports := x, ldr := y, spc := z } := by
  obtain ⟨talks, out, sch, sts, links, irq, queue⟩ := h
  refine ⟨?_, out, sch, sts, links, irq, queue⟩
  unfold TalksOnly at *
  exact congrArg (fun u : State => { u with ports := x, ldr := y, spc := z }) talks

theorem Works.trans {p : Nat} {s t u : State} (h : Works p s t) (k : Works p t u) : Works p s u :=
  ⟨h.chats.trans (k.chats.over s.ports s.ldr s.spc), k.ldr.trans h.ldr, fun r hr => (k.others r hr).trans (h.others r hr),
    k.line.trans h.line⟩

theorem Works.foldl {p : Nat} {α : Type} (f : State → α → State) (hf : ∀ s a, Works p s (f s a)) (l : List α) (s : State) :
    Works p s (l.foldl f s) := by
  induction l generalizing s with
  | nil => exact .refl p s
  | cons a l ih => exact (hf s a).trans (ih _)

theorem Works.ite {p : Nat} {s t u : State} {c : Prop} [Decidable c] (h : Works p s t) (k : Works p s u) :
    Works p s (if c then t else u) := by
  split
  · exact h
  · exact k

theorem Works.of_chats {p : Nat} {s t : State} (h : Chats s t) : Works p s t := by
  refine ⟨?_, congrArg Larder.unpinned h.ldr, fun r _ => h.port r, congrArg Port.line (h.port p)⟩
  have same : { t with ports := s.ports, ldr := s.ldr, spc := s.spc } = t := by
    rw [← h.ports, ← h.ldr, ← h.spc]
  rw [same]
  exact h

theorem Works.of_setPort {p : Nat} {s : State} {x : Port} (h : x.line = (s.port p).line) : Works p s (s.setPort p x) :=
  ⟨.refl s, rfl, fun _ hr => State.port_setPort_other hr x, by rw [State.port_setPort_same, h]⟩

theorem Works.keeps {p : Nat} {s t : State} (h : Works p s t) : KeepsBut (.ports :: .spc :: opParts) s t := by
  have put : KeepsBut [.ports, .ldr, .spc] { t with ports := s.ports, ldr := s.ldr, spc := s.spc } t :=
    keepsBut_of_restore (by cases t; rfl)
  exact h.chats.keeps.within.also put

theorem Works.mode {p : Nat} {s t : State} (h : Works p s t) : t.mode = s.mode := h.chats.mode
theorem Works.tick {p : Nat} {s t : State} (h : Works p s t) : t.tick = s.tick := h.chats.tick
theorem Works.rcp {p : Nat} {s t : State} (h : Works p s t) : t.rcp = s.rcp := h.chats.rcp
theorem Works.mod {p : Nat} {s t : State} (h : Works p s t) : t.mod = s.mod := h.chats.mod
theorem Works.glz {p : Nat} {s t : State} (h : Works p s t) : t.glz = s.glz := h.chats.glz
theorem Works.cnt {p : Nat} {s t : State} (h : Works p s t) : t.cnt = s.cnt := h.chats.cnt
theorem Works.ops {p : Nat} {s t : State} (h : Works p s t) : t.sch.ops = s.sch.ops := h.chats.ops
theorem Works.unit {p : Nat} {s t : State} (h : Works p s t) (u : Nat) : t.unit u = s.unit u := by
  unfold State.unit; rw [h.rcp]

theorem Works.records {p : Nat} {s t : State} (h : Works p s t) : t.ldr.records = s.ldr.records :=
  (congrArg Larder.records h.ldr :)

theorem Works.stepDone {p : Nat} {s t : State} (h : Works p s t) (n : Nat) : t.stepDone n = s.stepDone n := by
  unfold State.stepDone; rw [h.mod]

/-- A field of the port that work at its positions leaves alone. -/
theorem Works.portField {α : Type} {p : Nat} {s t : State} (h : Works p s t) (f : Port → α) (hf : ∀ x, f x.line = f x) :
    f (t.port p) = f (s.port p) := by rw [← hf (t.port p), h.line, hf]

/-! ## The operations -/

theorem State.setPos_works (s : State) (p i : Nat) (v : Pos) : Works p s (s.setPos p i v) := .of_setPort rfl

theorem State.unpin_works (s : State) (p ctx : Nat) : Works p s (s.unpin ctx) :=
  ⟨.refl s, rfl, fun _ _ => rfl, rfl⟩

theorem State.dropJobs_works (s : State) (p : Nat) (f : Job → Bool) : Works p s (s.dropJobs p f) := .of_setPort rfl

theorem State.squashBeat_works (s : State) (p i : Nat) (c : SquashCause) : Works p s (s.squashBeat p i c) := by
  have spec : ∀ (t : State) (x : Spec), Works p t { t with spc := x } := fun t x => ⟨.refl t, rfl, fun _ _ => rfl, rfl⟩
  have frame : ∀ (t : State) (n : Nat), Works p t (t.dropSpecFrame n) := fun t n => ⟨.refl t, rfl, fun _ _ => rfl, rfl⟩
  unfold squashBeat
  simp only
  split
  · exact .refl p s
  · exact ((s.setPos_works p i _).trans (Works.ite (frame _ _) (.refl p _))).trans (spec _ _)

/-- What a new verdict of a position writes to it and ends of its port's jobs. -/
def State.verdictMoved (s : State) (p i v : Nat) (x : Pos) : State :=
  let s := s.setPos p i x
  let s := if v = 2 then s else s.dropJobs p fun j => j.pos == i && decide (j.kind ≤ jobCatchup)
  let s := if v = 0 ∨ v = 3 then s.dropJobs p fun j => j.pos == i && j.kind == jobAuth else s
  let s := if v = 0 then s.dropJobs p fun j => j.pos == i && j.kind == jobPrio else s
  if v = 3 then s.setPort p { s.port p with authFails := satInc (s.port p).authFails } else s

theorem State.verdictMoved_works (s : State) (p i v : Nat) (x : Pos) : Works p s (s.verdictMoved p i v x) := by
  have failed : ∀ t : State, Works p t (if v = 3 then t.setPort p { t.port p with authFails := satInc (t.port p).authFails } else t) :=
    fun t => Works.ite (.of_setPort rfl) (.refl p t)
  unfold verdictMoved
  refine Works.trans ?_ (failed _)
  refine Works.trans ?_ (Works.ite (State.dropJobs_works ..) (.refl p _))
  refine Works.trans ?_ (Works.ite (State.dropJobs_works ..) (.refl p _))
  exact (s.setPos_works p i x).trans (Works.ite (.refl p _) (State.dropJobs_works ..))

/-- A verdict is written to its position, with what goes with a change of it. -/
theorem State.setVerdict_cases (s : State) (p i v reason : Nat) :
    let t := if v ≠ 2 then s.squashBeat p i .identity else s
    (∃ x, s.setVerdict p i v reason = t.setPos p i x)
      ∨ ∃ x k b, s.setVerdict p i v reason = (t.verdictMoved p i v x).report k b := by
  unfold setVerdict
  extract_lets
  split
  · exact .inl ⟨_, rfl⟩
  · exact .inr ⟨_, _, _, rfl⟩

theorem State.setVerdict_works (s : State) (p i v reason : Nat) : Works p s (s.setVerdict p i v reason) := by
  have squashed : Works p s (if v ≠ 2 then s.squashBeat p i .identity else s) :=
    Works.ite (s.squashBeat_works p i _) (.refl p s)
  rcases s.setVerdict_cases p i v reason with ⟨x, eq⟩ | ⟨x, k, b, eq⟩ <;> rw [eq]
  · exact squashed.trans (State.setPos_works ..)
  · exact (squashed.trans (State.verdictMoved_works ..)).trans (.of_chats (State.report_chats ..))

theorem State.authDue_works (s : State) (p i at_ : Nat) : Works p s (s.authDue p i at_) := s.setPos_works p i _

theorem State.dropSession_works (s : State) (p i : Nat) : Works p s (s.dropSession p i) :=
  (s.squashBeat_works p i .epoch).trans (State.setPos_works ..)

theorem State.loseSession_works (s : State) (p i : Nat) : Works p s (s.loseSession p i) := by
  unfold loseSession
  exact (s.dropSession_works p i).trans
    (Works.ite ((State.setVerdict_works ..).trans (State.authDue_works ..)) (.refl p _))

theorem State.emptyPos_works (s : State) (p i : Nat) : Works p s (s.emptyPos p i) :=
  (s.setVerdict_works p i 0 0).trans (State.setPos_works ..)

theorem State.squashPort_works (s : State) (p : Nat) (c : SquashCause) : Works p s (s.squashPort p c) :=
  Works.foldl _ (fun s k => s.squashBeat_works p (k + 1) c) _ s

theorem State.retireJob_works (s : State) (p kind i : Nat) : Works p s (s.retireJob p kind i) := by
  unfold retireJob
  split
  · exact .refl p s
  · exact s.dropJobs_works p _

/-! ## Every populated port begins its reset -/

/-- One position after a reset of its port: unpinned, as reset, UNVERIFIED. -/
def State.resetPos (s : State) (p i : Nat) : State :=
  let s := s.unpin (posCtx p i)
  let s := s.setPos p i (s.pos p i).reset
  s.setVerdict p i 1 (s.pos p i).reason

theorem State.resetPos_works (s : State) (p i : Nat) : Works p s (s.resetPos p i) :=
  ((s.unpin_works p _).trans (State.setPos_works ..)).trans (State.setVerdict_works ..)

/-- The positions of a port after its reset. -/
def State.resetWork (s : State) (p : Nat) : State :=
  (List.range 32).foldl (fun s k => s.resetPos p (k + 1)) (s.squashPort p .identity)

theorem State.resetWork_works (s : State) (p : Nat) : Works p s (s.resetWork p) :=
  (s.squashPort_works p .identity).trans (Works.foldl _ (fun t k => t.resetPos_works p (k + 1)) _ _)

/-- A port whose reset begins has no work left. -/
def Port.resetting (x : Port) : Port := { x with
  jobs := [], hostq := [], check := none, checkq := [], probeAt := none, collectAt := none, uprobe := false
  probeReq := false, reenumRuns := x.reenum, txn := none, spuWait := none, spuOn := false, spuPlace := false
  trimSent := false, fault := 0 }

theorem State.resetBegins_eq (s : State) (p : Nat) :
    s.resetBegins p = (s.resetWork p).setPort p ((s.resetWork p).port p).resetting := rfl

/-- A port that charges its line before its reset. -/
def Port.charges (x : Port) : Prop := x.state = .charge ∧ x.resetDue = true

/-- A port in the charge period before its reset. -/
def Port.started (x : Port) : Port := { x with state := .charge, charge := true, resetDue := true }

/-- `t` is `s` after some of its ports began their reset. -/
structure Starts (s t : State) : Prop where
  keeps : KeepsBut (.ports :: .spc :: opParts) s t
  entry : ∀ r, (t.port r).entry = (s.port r).entry
  charges : ∀ r, (s.port r).charges → (t.port r).charges

theorem Starts.refl (s : State) : Starts s s := ⟨.refl _ s, fun _ => rfl, fun _ h => h⟩

theorem Starts.trans {s t u : State} (h : Starts s t) (k : Starts t u) : Starts s u :=
  ⟨h.keeps.trans k.keeps, fun r => (k.entry r).trans (h.entry r), fun r c => k.charges r (h.charges r c)⟩

theorem State.startPort_populated {s : State} {p : Nat} (populated : (s.port p).entry.isSome = true) :
    (∀ r, r ≠ p → (s.startPort p).port r = s.port r) ∧ ((s.startPort p).port p).entry = (s.port p).entry
      ∧ ((s.startPort p).port p).charges ∧ KeepsBut (.ports :: .spc :: opParts) s (s.startPort p) := by
  have works := s.resetWork_works p
  have empty : ¬ (s.port p).entry.isNone = true := by rw [Option.isNone_iff_eq_none]; rintro h; simp [h] at populated
  have eq : s.startPort p = (s.resetBegins p).setPort p ((s.resetBegins p).port p).started := by
    unfold startPort
    rw [if_neg empty]
    rfl
  have line : (s.resetBegins p).port p = ((s.resetWork p).port p).resetting := by
    rw [resetBegins_eq, port_setPort_same]
  rw [eq, line]
  refine ⟨fun r hr => ?_, ?_, ?_, ?_⟩
  · rw [port_setPort_other hr, resetBegins_eq, port_setPort_other hr, works.others r hr]
  · have kept (x : Port) : x.resetting.started.entry = x.entry := rfl
    rw [port_setPort_same, kept]
    exact works.portField Port.entry fun _ => rfl
  · rw [port_setPort_same]
    exact ⟨rfl, rfl⟩
  · rw [resetBegins_eq]
    exact (works.keeps.trans ((State.setPort_keeps _ p _).mono (by decide))).trans
      ((State.setPort_keeps _ p _).mono (by decide))

theorem State.startPort_starts (s : State) (p : Nat) : Starts s (s.startPort p) := by
  cases populated : (s.port p).entry.isSome with
  | false =>
    have same : s.startPort p = s := if_pos (by simpa using populated)
    rw [same]
    exact .refl s
  | true =>
    obtain ⟨others, entry, charges, keeps⟩ := State.startPort_populated populated
    refine ⟨keeps, fun r => ?_, fun r c => ?_⟩
    · by_cases h : r = p
      · rw [h, entry]
      · rw [others r h]
    · by_cases h : r = p
      · rw [h]; exact charges
      · rw [others r h]; exact c

/-- Each port of a list begins its reset. -/
theorem State.startPorts_starts (l : List (Nat × Port)) : ∀ s : State,
    Starts s (l.foldl (fun s e => s.startPort e.1) s)
      ∧ ∀ e ∈ l, (s.port e.1).entry.isSome = true → ((l.foldl (fun s e => s.startPort e.1) s).port e.1).charges := by
  induction l with
  | nil => exact fun s => ⟨.refl s, fun _ he => absurd he List.not_mem_nil⟩
  | cons a l ih =>
    intro s
    obtain ⟨rest, each⟩ := ih (s.startPort a.1)
    have first := s.startPort_starts a.1
    rw [List.foldl_cons]
    refine ⟨first.trans rest, fun e he populated => ?_⟩
    rcases List.mem_cons.1 he with rfl | he
    · exact rest.charges _ (State.startPort_populated populated).2.2.1
    · exact each e he (by rw [first.entry]; exact populated)

/-- A populated port stands in the table. -/
theorem State.port_mem {s : State} {p : Nat} (populated : (s.port p).entry.isSome = true) : ∃ e ∈ s.ports, e.1 = p := by
  unfold port at populated
  generalize s.ports = t at populated
  induction t with
  | nil => exact Bool.noConfusion populated
  | cons e t ih =>
    obtain ⟨i, x⟩ := e
    simp only [tabGet] at populated
    by_cases h : i = p
    · exact ⟨_, List.mem_cons_self .., h⟩
    · rw [if_neg h] at populated
      obtain ⟨e, he, k⟩ := ih populated
      exact ⟨e, List.mem_cons_of_mem _ he, k⟩

/-! ## Stage ends -/

/-- Stage's state at the end of its last step. -/
def State.staged (s : State) : State := (s.withMod { Mod.stepEnded { s.mod with begun := insertNew s.mod.begun 10 } 10 with
  stageDone := true, stageTime := (s.tick - s.mod.stageBegin).toNat % 2 ^ 32 })

/-- The tenth step ends Stage. -/
theorem State.endStep_last {s : State} (nine : s.mod.done.length = 9) (causes : s.vig.causes = []) :
    (s.beginStep 10).endStep 10 = s.staged.raise .mode := by
  have last : ((s.beginStep 10).mod.done ++ [10]).length = 10 := by
    rw [List.length_append]
    exact congrArg (· + 1) nine
  unfold endStep
  dsimp only
  rw [if_pos last]
  refine (if_neg ?_).trans rfl
  show ¬ (State.raise _ .mode).vig.causes ≠ []
  rw [(State.raise_chats _ .mode).vig]
  exact fun h => h causes

theorem State.staged_keeps (s : State) : KeepsBut [.mod, .irq] s (s.staged.raise .mode) :=
  KeepsBut.within (s.withMod_keeps _) |>.also (s.staged.raise_keeps .mode)

/-- Settles O17: the last step is one write and Stage's end, and the entry starts the ports one by one. -/
theorem stageEndsInService : Obligations.StageEndsInService := by
  unfold Obligations.StageEndsInService
  refine ⟨fun s next nine causes keys => ?_, fun s x i h next nine causes keys picked => ?_,
    fun s running mode prelude done causes go => ?_⟩
  · have ended : s.step10 ⟨true, true⟩ true = s.staged.raise .mode := by
      unfold State.step10
      dsimp only
      rw [if_neg (show ¬ (s.beginStep 10).hasKeys = true from fun h => Bool.noConfusion (keys.symm.trans h))]
      exact State.endStep_last nine causes
    refine runs_step (fun s => s.step10 ⟨true, true⟩ true) rfl (State.stepDue_of_next next) _ ended s.staged_keeps ?_
    rw [settle_mod, settle_ldr, (s.staged.raise_chats .mode).mod, (s.staged.raise_chats .mode).ldr]
    exact ⟨rfl, rfl, rfl⟩
  · let u : State := { s with ldr := s.ldr.opened i h }
    have ended : s.step10 x true = u.staged.raise .mode := by
      have opens : (s.beginStep 10).openLarder x true = u.beginStep 10 := by
        unfold State.openLarder
        rw [show (s.beginStep 10).pickHeader x = some (i, h) from picked]
        rfl
      unfold State.step10
      dsimp only
      rw [if_pos (show (s.beginStep 10).hasKeys = true from keys), opens]
      exact State.endStep_last nine causes
    refine runs_step (fun s => s.step10 x true) rfl (State.stepDue_of_next next) _ ended
      (((s.withLdr_keeps _).mono (by decide)).trans (u.staged_keeps.mono (by decide))) ?_
    rw [settle_mod, settle_ldr, (u.staged.raise_chats .mode).mod, (u.staged.raise_chats .mode).ldr]
    exact ⟨rfl, rfl⟩
  · let u := (s.withMod { s.mod with goReq := false }).setMode .service
    have same : KeepsBut [.mod, .mode, .irq, .msp] s u :=
      ((s.withMod_keeps _).mono (by decide)).trans ((State.setMode_keeps _ _).mono (by decide))
    have ports : u.ports = s.ports := same .ports (by decide)
    have port (p : Nat) : u.port p = s.port p := by unfold State.port; rw [ports]
    let v := u.ports.foldl (fun s e => s.startPort e.1) u
    obtain ⟨starts, each⟩ := State.startPorts_starts u.ports u
    have entered : s.enterService = { v with glz := { v.glz with state := v.glzIdle } } := if_pos ⟨mode, prelude, done, causes, go⟩
    have modeV : v.mode = .service := (starts.keeps .mode (by decide)).trans (State.setMode_mode _ _)
    have modV : v.mod = { s.mod with goReq := false } := (starts.keeps .mod (by decide)).trans (State.setMode_mod _ _)
    have rcpV : v.rcp = s.rcp := (starts.keeps .rcp (by decide)).trans (same .rcp (by decide))
    refine runs_clock State.enterService rfl running _ entered
      (((same.mono (by decide)).trans (starts.keeps.mono (by decide))).trans ((v.withGlz_keeps _).mono (by decide))) ?_
    rw [settle_mode, settle_mod, settle_glz]
    refine ⟨modeV, modV, ?_, fun p populated => ?_⟩
    · show v.glzIdle = s.glzIdle
      unfold State.glzIdle
      rw [rcpV]
    · have inTable : ∃ e ∈ u.ports, e.1 = p := State.port_mem (by rw [port]; exact populated)
      obtain ⟨e, he, rfl⟩ := inTable
      have charged := each e he (by rw [port]; exact populated)
      unfold State.port at charged ⊢
      rw [settle_ports]
      exact charged

end Sys2Proof.Machine
end

section
/-! PROOF. An epoch: what it leaves once its ports have had their turn, the drop of a late beat, the release of one, and
the preparation ahead of it. -/

namespace Sys2Proof.Machine

/-! ## Rejoining engines -/

/-- A rejoining unit that has passed its self-test. -/
def UnitSt.joins (x : UnitSt) : Bool := x.st == .rejoining && x.passed

/-- The unit once it is ACTIVE. -/
def UnitSt.joined (x : UnitSt) : UnitSt := { x with st := .active, passed := false }

/-- `t` is `s` after some of its rejoining units became ACTIVE. -/
structure Joins (s t : State) : Prop where
  chats : Chats s { t with rcp := { t.rcp with units := s.rcp.units } }
  units : ∀ u, t.unit u = s.unit u ∨ ((s.unit u).joins = true ∧ t.unit u = (s.unit u).joined)

theorem Joins.refl (s : State) : Joins s s := ⟨.refl s, fun _ => .inl rfl⟩

/-- What is said stands beside any units. -/
theorem Chats.overUnits {s t : State} (h : Chats s t) (x : Tab UnitSt) :
    Chats { s with rcp := { s.rcp with units := x } } { t with rcp := { t.rcp with units := x } } := by
  obtain ⟨talks, out, sch, sts, links, irq, queue⟩ := h
  refine ⟨?_, out, sch, sts, links, irq, queue⟩
  unfold TalksOnly at *
  exact congrArg (fun u : State => { u with rcp := { u.rcp with units := x } }) talks

theorem Joins.trans {s t u : State} (h : Joins s t) (k : Joins t u) : Joins s u := by
  refine ⟨h.chats.trans (k.chats.overUnits s.rcp.units), fun n => ?_⟩
  rcases k.units n with same | ⟨joins, joined⟩
  · rw [same]
    exact h.units n
  · rcases h.units n with same | ⟨_, active⟩
    · rw [same] at joins joined
      exact .inr ⟨joins, joined⟩
    · rw [active] at joins
      exact absurd joins Bool.false_ne_true

theorem Joins.keeps {s t : State} (h : Joins s t) : KeepsBut (.rcp :: talkParts) s t := by
  have put : KeepsBut [.rcp] { t with rcp := { t.rcp with units := s.rcp.units } } t :=
    keepsBut_of_restore (by cases t; rfl)
  exact (h.chats.keeps.mono (by decide)).trans (put.mono (by decide))

theorem Joins.recipe {s t : State} (h : Joins s t) : t.rcp.recipe = s.rcp.recipe :=
  (congrArg Rcp.recipe h.chats.rcp :)

theorem Joins.activating {s t : State} (h : Joins s t) : t.rcp.activating = s.rcp.activating :=
  (congrArg Rcp.activating h.chats.rcp :)

/-- Units that become ACTIVE leave the Proofer at rest. -/
theorem Joins.prfQuiet {s t : State} (h : Joins s t) (quiet : s.prfQuiet) : t.prfQuiet := by
  obtain ⟨gathers, insts, limit, j, hj, on⟩ := quiet
  have int : t.reseedInt = s.reseedInt := by unfold State.reseedInt; rw [h.recipe]
  have inst (i : Nat) : t.inst i = s.inst i := by
    unfold State.inst
    exact congrArg (fun v => vecGet Prf.start v i) (h.chats.prf :)
  refine ⟨fun o ho => gathers o ?_, fun i hi => ?_, int ▸ limit, j, hj, ?_⟩
  · have ops : t.sch.ops = s.sch.ops := h.chats.ops
    exact ops ▸ ho
  · rw [inst, int]
    exact insts i hi
  · unfold State.unitIs at on ⊢
    rcases h.units (prfUnit j) with same | ⟨-, active⟩
    · rw [same]
      exact on
    · rw [active]
      rfl

theorem State.moveUnit_joins {s : State} {u : Nat} (joins : (s.unit u).joins = true) :
    Joins s (s.moveUnit u (s.unit u).joined) := by
  have put : Joins s (s.setUnit u (s.unit u).joined) := by
    refine ⟨.refl s, fun n => ?_⟩
    rw [unit_setUnit]
    split
    · rename_i same
      rw [same]
      exact .inr ⟨joins, rfl⟩
    · exact .inl rfl
  have talks {t v : State} (h : Chats t v) : Joins t v := by
    have same : ({ v with rcp := { v.rcp with units := t.rcp.units } } : State) = v := by rw [← h.rcp]
    exact ⟨same ▸ h, fun n => .inl (h.unit n)⟩
  unfold moveUnit
  extract_lets old moved raised
  split
  · exact put
  · exact put.trans (talks ((Chats.ite (State.raise_chats _ .engine)).trans (State.report_chats ..)))

theorem State.joinUnit_joins {s : State} (rest : s.prfQuiet) (u : Nat) : Joins s (s.joinUnit u) := by
  unfold joinUnit
  extract_lets x moved
  split
  · rename_i goes
    have joins : x.joins = true := by
      simp only [Bool.and_eq_true] at goes
      unfold UnitSt.joins
      rw [goes.1.1, goes.1.2]
      rfl
    have one : Joins s moved := State.moveUnit_joins joins
    have calm : moved.prfReact = moved := State.prfReact_quiet (one.prfQuiet rest)
    rw [calm, ite_self]
    exact one
  · exact .refl s

/-- A unit other than a Proofer instance that may join does. -/
theorem State.joinUnit_unit {s : State} (rest : s.prfQuiet) {u : Nat} (low : 128 ≤ u) (engine : u < 176)
    (joins : (s.unit u).joins = true) : (s.joinUnit u).unit u = (s.unit u).joined := by
  have goes : ((s.unit u).st == .rejoining && (s.unit u).passed && (decide (u < 176) || (s.inst (u - 176)).state != 0))
      = true := by
    rw [show ((s.unit u).st == .rejoining && (s.unit u).passed) = true from joins, decide_eq_true engine]
    rfl
  have one : Joins s (s.moveUnit u (s.unit u).joined) := State.moveUnit_joins joins
  have calm := State.prfReact_quiet (one.prfQuiet rest)
  have active : (s.moveUnit u (s.unit u).joined).unit u = (s.unit u).joined := by
    have differs : ¬ (u < 128 ∨ (s.unit u).st = (s.unit u).joined.st) := by
      simp only [UnitSt.joins, Bool.and_eq_true, beq_iff_eq] at joins
      rw [joins.1]
      rintro (h | h)
      · omega
      · exact UnitState.noConfusion h
    unfold moveUnit
    dsimp only
    rw [if_neg differs, (State.report_chats ..).unit]
    split
    · rw [(State.raise_chats ..).unit, unit_setUnit_same]
    · rw [unit_setUnit_same]
  unfold joinUnit
  dsimp only
  rw [if_pos goes]
  show State.unit (if _ then State.prfReact (s.moveUnit u (s.unit u).joined) else s.moveUnit u (s.unit u).joined) u = _
  rw [calm, ite_self]
  exact active

theorem State.joinUnits_list (l : List Nat) : ∀ {s : State}, s.prfQuiet → Joins s (l.foldl State.joinUnit s)
    ∧ ∀ u ∈ l, 128 ≤ u → u < 176 → (s.unit u).joins = true → (l.foldl State.joinUnit s).unit u = (s.unit u).joined := by
  induction l with
  | nil => exact fun {s} _ => ⟨.refl s, fun _ h => absurd h List.not_mem_nil⟩
  | cons a l ih =>
    intro s rest
    have one := State.joinUnit_joins rest a
    obtain ⟨others, each⟩ := ih (one.prfQuiet rest)
    rw [List.foldl_cons]
    have settled {u : Nat} (h : (s.joinUnit a).unit u = (s.unit u).joined) :
        (l.foldl State.joinUnit (s.joinUnit a)).unit u = (s.unit u).joined := by
      rcases others.units u with same | ⟨joins, -⟩
      · rw [same, h]
      · rw [h] at joins
        exact absurd joins Bool.false_ne_true
    refine ⟨one.trans others, fun u hu low engine joins => ?_⟩
    by_cases here : (s.joinUnit a).unit u = (s.unit u).joined
    · exact settled here
    · have waits : (s.joinUnit a).unit u = s.unit u := by
        rcases one.units u with same | ⟨-, joined⟩
        · exact same
        · exact absurd joined here
      rcases List.mem_cons.1 hu with rfl | hu
      · exact settled (State.joinUnit_unit rest low engine joins)
      · rw [← waits] at joins ⊢
        exact each u hu low engine joins

theorem State.joinUnits_joins {s : State} (rest : s.prfQuiet) : Joins s s.joinUnits :=
  (State.joinUnits_list _ rest).1

theorem State.joinUnits_unit {s : State} (rest : s.prfQuiet) {u : Nat} (low : 128 ≤ u) (engine : u < 176)
    (joins : (s.unit u).joins = true) : s.joinUnits.unit u = (s.unit u).joined := by
  refine (State.joinUnits_list _ rest).2 u ?_ low engine joins
  simp only [eccUnits, aesUnits, shaUnits, List.mem_append, List.mem_map, List.mem_range]
  by_cases ecc : u < 136
  · exact .inl (.inl (.inl ⟨u - 128, by omega, by omega⟩))
  · by_cases aes : u < 168
    · exact .inl (.inl (.inr ⟨u - 136, by omega, by omega⟩))
    · exact .inl (.inr ⟨u - 168, by omega, by omega⟩)

/-! ## An epoch without descriptors -/

theorem State.creditQueue_que (s : State) (q : Nat) : ∃ x, s.creditQueue q = { s with que := x } := by
  unfold creditQueue
  dsimp only
  repeat' split
  all_goals exact ⟨_, rfl⟩

theorem State.creditQueues_que (l : List (Nat × Queue)) : ∀ s : State,
    ∃ x, l.foldl (fun s e => s.creditQueue e.1) s = { s with que := x } := by
  induction l with
  | nil => exact fun s => ⟨s.que, rfl⟩
  | cons a l ih =>
    intro s
    obtain ⟨x, hx⟩ := s.creditQueue_que a.1
    obtain ⟨y, hy⟩ := ih (s.creditQueue a.1)
    rw [List.foldl_cons, hy, hx]
    exact ⟨y, rfl⟩

/-- The epoch is taken. -/
def State.epochTaken (s : State) : State := { s with sch := { s.sch with epochDue := false } }

/-- The epoch's work at the ports. -/
def State.worked (s : State) : State :=
  if s.epochTaken.applyClasses.mode = .service then
    s.epochTaken.applyClasses.ports.foldl (fun s e => s.epochPort e.1) s.epochTaken.applyClasses
  else s.epochTaken.applyClasses

/-- The descriptors past their deadlines. -/
def State.waitsDropped (s : State) : State := s.que.foldl (fun s e => s.lateWaiting e.1) s

/-- The credit of every queue. -/
def State.credited (s : State) : State := s.que.foldl (fun s e => s.creditQueue e.1) s

theorem State.epochTurn_eq {s : State} (due : s.sch.epochDue = true) :
    s.epochTurn = s.worked.waitsDropped.lateGather.joinUnits.credited := if_pos due

/-- `e` is `v` after what an epoch does once the ports have had their turn. -/
structure Epochs (v e : State) : Prop where
  joins : ∃ w x, e = { w with que := x } ∧ Joins v w
  units : ∀ u, 128 ≤ u → u < 176 → (v.unit u).joins = true → e.unit u = (v.unit u).joined

theorem State.epochTurn_epochs {s v : State} (due : s.sch.epochDue = true) (works : s.worked = v) (que : v.que = [])
    (ops : v.sch.ops = []) (rest : v.prfQuiet) (act : v.rcp.activating = none) : Epochs v s.epochTurn.activateGo := by
  have drops : v.waitsDropped = v := by
    unfold waitsDropped
    rw [que]
    rfl
  have gathers : v.lateGather = v := by
    unfold lateGather
    rw [ops]
    rfl
  have joins := State.joinUnits_joins rest
  have units := fun u low engine h => State.joinUnits_unit rest (u := u) low engine h
  have eq := State.epochTurn_eq due
  rw [works, drops, gathers] at eq
  generalize v.joinUnits = w at joins units eq
  obtain ⟨x, credit⟩ := State.creditQueues_que w.que w
  have ends : s.epochTurn = { w with que := x } := eq.trans credit
  have calm : ({ w with que := x } : State).rcp.activating = none := joins.activating.trans act
  rw [ends, State.activateGo_none calm]
  exact ⟨⟨w, x, rfl, joins⟩, units⟩

theorem Epochs.keeps {v e : State} (h : Epochs v e) : KeepsBut (.rcp :: talkParts) v e := by
  obtain ⟨w, x, rfl, joins⟩ := h.joins
  have put : KeepsBut [.queues] w { w with que := x } := keepsBut_of_restore (by cases w; rfl)
  exact joins.keeps.trans (put.mono (by decide))

theorem Epochs.sch {α : Type} {v e : State} (h : Epochs v e) (f : Scheduler → α) (hf : ∀ x, f x.quietly = f x) :
    f e.sch = f v.sch := by
  obtain ⟨w, x, rfl, joins⟩ := h.joins
  exact joins.chats.schField f hf

theorem Epochs.part {v e : State} (h : Epochs v e) (p : Part) (hp : p ∉ Part.rcp :: talkParts) : p.same v e := h.keeps p hp

/-- A quiet block without operations is quiet after it. -/
theorem Epochs.quiet {v e : State} (h : Epochs v e) (ops : v.sch.ops = []) (quiet : v.quiet) : e.quiet := by
  have cnt : e.cnt = v.cnt := h.part .cnt (by decide)
  have ports : e.ports = v.ports := h.part .ports (by decide)
  have glz : e.glz = v.glz := h.part .glz (by decide)
  have ldr : e.ldr = v.ldr := h.part .ldr (by decide)
  have none : e.sch.ops = [] := (h.sch Scheduler.ops fun _ => rfl).trans ops
  obtain ⟨-, calm⟩ := quiet
  unfold State.quiet
  rw [none, cnt, ports, glz, ldr]
  exact ⟨fun o ho => absurd ho List.not_mem_nil, calm⟩

theorem State.applyClasses_none {s : State} (none : s.sch.classesNew = none) : s.applyClasses = s := by
  unfold applyClasses
  rw [none]

/-- The scheduler once new classes are in force. -/
theorem State.applyClasses_sch (s : State) : ∃ x, s.applyClasses = { s with sch := x } ∧ x.ops = s.sch.ops
    ∧ (∀ n, s.sch.classesNew = some n → x.acc = n.1 ∧ x.ctr = n.2 ∧ x.classesNew = none) := by
  unfold applyClasses
  split
  · rename_i none
    exact ⟨s.sch, rfl, rfl, fun n h => absurd (none.symm.trans h) (by simp)⟩
  · rename_i n some
    refine ⟨_, rfl, rfl, fun m h => ?_⟩
    obtain rfl : n = m := Option.some.inj (some.symm.trans h)
    exact ⟨rfl, rfl, rfl⟩

theorem State.withSch_keeps (s : State) (x : Scheduler) : KeepsBut [.sch] s { s with sch := x } :=
  keepsBut_of_restore (by cases s; rfl)

end Sys2Proof.Machine
end

section
/-! PROOF. Beats at an epoch: one that is dropped, one that is released and prepared, and the preparation ahead of it. -/

namespace Sys2Proof.Machine

/-! ## A port with nothing due -/

/-- No release time of a position stands. -/
def Pos.undue (x : Pos) : Prop := x.beatAt = none ∧ x.authAt = none ∧ x.catchupAt = none ∧ x.prioAt = none

theorem State.releasePos_undue {s : State} {p i : Nat} (undue : (s.pos p i).undue) (live : Bool) :
    s.releasePos p i live = s := by
  obtain ⟨beat, auth, catchup, prio⟩ := undue
  simp [releasePos, beat, auth, catchup, prio, reached]

theorem State.releaseLine_none {s : State} {p : Nat} (probe : (s.port p).probeAt = none)
    (collect : (s.port p).collectAt = none) (live : Bool) : s.releaseLine p live = s := by
  unfold releaseLine
  dsimp only
  rw [probe, collect]

/-! ## A single port -/

theorem State.port_single {s : State} {p : Nat} {x : Port} (one : s.ports = [(p, x)]) : s.port p = x := by
  unfold port
  rw [one]
  exact if_pos rfl

theorem Port.at_single {x : Port} {i : Nat} {y : Pos} (one : x.pos = [(i, y)]) (k : Nat) :
    x.at k = if i = k then y else posEmpty := by
  unfold Port.at
  rw [one]
  rfl

theorem State.setPort_single {s : State} {p : Nat} {x y : Port} (one : s.ports = [(p, x)]) (there : y ≠ portOff) :
    s.setPort p y = { s with ports := [(p, y)] } := by
  unfold setPort tabSet
  rw [if_neg there, one]
  simp [tabPut]

theorem Port.setPos_single {x : Port} {i : Nat} {y z : Pos} (one : x.pos = [(i, y)]) (there : z ≠ posEmpty) :
    x.setPos i z = { x with pos := [(i, z)] } := by
  unfold setPos tabSet
  rw [if_neg there, one]
  simp [tabPut]

/-! ## A beat dropped at its deadline (R395, R396) -/

/-- A table answers its default or one of its entries. -/
theorem tabGet_cases {α : Type} (d : α) (t : Tab α) (k : Nat) : tabGet d t k = d ∨ (k, tabGet d t k) ∈ t := by
  induction t with
  | nil => exact .inl rfl
  | cons e t ih =>
    obtain ⟨i, x⟩ := e
    simp only [tabGet]
    split
    · rename_i same
      exact .inr (by rw [← same]; exact List.mem_cons_self ..)
    · exact ih.imp id (List.mem_cons_of_mem _)

/-- No port of a state has work that waits. -/
def State.portsQuiet (s : State) : Prop := ∀ e ∈ s.ports, e.2.quiet = true

theorem Port.quiet_dropped {x : Port} (h : x.quiet = true) (f : Job → Bool) : (x.dropped f).quiet = true := by
  unfold Port.quiet at h ⊢
  rw [Bool.and_eq_true] at h ⊢
  exact ⟨List.all_eq_true.2 fun j hj => List.all_eq_true.1 h.1 j (List.mem_filter.1 hj).1, h.2⟩

/-- A position written with its authentication as it was. -/
theorem Port.quiet_setPos {x : Port} (h : x.quiet = true) {i : Nat} {v : Pos} (auth : v.auth = (x.at i).auth) :
    (x.setPos i v).quiet = true := by
  unfold Port.quiet at h ⊢
  rw [Bool.and_eq_true] at h ⊢
  refine ⟨h.1, List.all_eq_true.2 fun e he => ?_⟩
  rcases mem_tabSet he with rfl | he
  · dsimp only
    rw [auth]
    rcases tabGet_cases posEmpty x.pos i with empty | there
    · unfold Port.at
      rw [empty]
      rfl
    · exact List.all_eq_true.1 h.2 _ there
  · exact List.all_eq_true.1 h.2 e he

theorem State.portsQuiet_setPos {s : State} (h : s.portsQuiet) {p i : Nat} {v : Pos} (auth : v.auth = (s.pos p i).auth) :
    (s.setPos p i v).portsQuiet :=
  State.quiet_setPort h (Port.quiet_setPos (State.port_quiet h p) auth)

/-- The drop of a beat's job, its page unpinned. -/
def State.beatGone (s : State) (p i : Nat) (j : Job) : State := (s.unpin (posCtx p i)).dropJobs p j.same

/-- A position whose beat was dropped and is counted a miss. -/
def Pos.missed (x : Pos) : Pos := { x with beatBusy := false, misses := x.misses + 1 }

/-- A beat counted late and missed. -/
def Scheduler.beatMissed (x : Scheduler) : Scheduler :=
  { x with beatsLate := satInc x.beatsLate, misses := satInc x.misses }

/-- What the drop of a late beat leads to. -/
structure Dropped (s t : State) (p i : Nat) : Prop where
  keeps : KeepsBut [.ports, .ldr, .sch] s t
  port : { t.port p with pos := [], jobs := [] } = { s.port p with pos := [], jobs := [] }
  pos : t.pos p i = (s.pos p i).missed
  others : ∀ k, k ≠ i → t.pos p k = s.pos p k
  sch : t.sch = s.sch.beatMissed
  que : t.que = s.que
  records : t.ldr.records = s.ldr.records
  stalled : t.ldr.stalled = s.ldr.stalled
  quiet : s.portsQuiet → t.portsQuiet

theorem State.miss_few {s : State} {p i at_ : Nat} {c : AccClass} (cls : s.accClass (s.pos p i).classId = some c)
    (few : (s.pos p i).misses + 1 < c.missLimit) (room : (s.pos p i).misses < 15) :
    s.miss p i at_ = { s.setPos p i { s.pos p i with misses := (s.pos p i).misses + 1 } with
      sch := { s.sch with misses := satInc s.sch.misses } } := by
  have n : min 15 ((s.pos p i).misses + 1) = (s.pos p i).misses + 1 := by omega
  unfold miss
  dsimp only
  rw [n, show ∀ (x : Pos) (y : Scheduler), y.acc = s.sch.acc → State.accClass
    { s.setPos p i x with sch := y } (s.pos p i).classId = some c from fun x y h => by
      unfold State.accClass at cls ⊢; rw [← cls]; exact congrArg (fun l : List AccClass => l.find? _) h]
  · exact if_neg fun h => by omega
  · rfl

theorem State.beatGone_port (s : State) (p i : Nat) (j : Job) : (s.beatGone p i j).port p = (s.port p).dropped j.same := by
  unfold beatGone
  rw [dropJobs_eq, port_setPort_same]
  rfl

theorem State.beatGone_pos (s : State) (p i : Nat) (j : Job) (k : Nat) : (s.beatGone p i j).pos p k = s.pos p k := by
  unfold pos
  rw [beatGone_port]
  rfl

theorem State.beatGone_rest (s : State) (p i : Nat) (j : Job) : (s.beatGone p i j).sch = s.sch
    ∧ (s.beatGone p i j).que = s.que ∧ (s.beatGone p i j).ldr = (s.unpin (posCtx p i)).ldr := ⟨rfl, rfl, rfl⟩

theorem State.unpin_ldr (s : State) (c : Nat) : (s.unpin c).ldr.records = s.ldr.records
    ∧ (s.unpin c).ldr.stalled = s.ldr.stalled := ⟨rfl, rfl⟩

theorem State.beatGone_keeps (s : State) (p i : Nat) (j : Job) : KeepsBut [.ports, .ldr, .sch] s (s.beatGone p i j) := by
  have unpinned : KeepsBut [.ldr] s (s.unpin (posCtx p i)) := keepsBut_of_restore (by cases s; rfl)
  exact (unpinned.mono (by decide)).trans ((State.setPort_keeps _ p _).mono (by decide))

/-- A position whose beat is busy no more, and the block that counts it late. -/
def State.beatLate (s : State) (p i : Nat) : State :=
  { s.setPos p i { s.pos p i with beatBusy := false } with sch := { s.sch with beatsLate := satInc s.sch.beatsLate } }

theorem State.beatLate_keeps (s : State) (p i : Nat) : KeepsBut [.ports, .ldr, .sch] s (s.beatLate p i) :=
  ((s.setPort_keeps p _).mono (by decide)).trans ((State.withSch_keeps _ _).mono (by decide))

theorem State.beatLate_rest (s : State) (p i : Nat) : (s.beatLate p i).sch = { s.sch with beatsLate := satInc s.sch.beatsLate }
    ∧ (s.beatLate p i).que = s.que ∧ (s.beatLate p i).ldr = s.ldr := ⟨rfl, rfl, rfl⟩

theorem State.beatLate_pos (s : State) (p i k : Nat) :
    (s.beatLate p i).pos p k = if k = i then { s.pos p i with beatBusy := false } else s.pos p k :=
  s.pos_setPos p i k _

/-- A miss that does not reach the limit. -/
def State.missed (s : State) (p i : Nat) : State :=
  { s.setPos p i { s.pos p i with misses := (s.pos p i).misses + 1 } with sch := { s.sch with misses := satInc s.sch.misses } }

theorem State.missed_keeps (s : State) (p i : Nat) : KeepsBut [.ports, .ldr, .sch] s (s.missed p i) :=
  ((s.setPort_keeps p _).mono (by decide)).trans ((State.withSch_keeps _ _).mono (by decide))

theorem State.missed_rest (s : State) (p i : Nat) : (s.missed p i).sch = { s.sch with misses := satInc s.sch.misses }
    ∧ (s.missed p i).que = s.que ∧ (s.missed p i).ldr = s.ldr := ⟨rfl, rfl, rfl⟩

theorem State.missed_pos (s : State) (p i k : Nat) :
    (s.missed p i).pos p k = if k = i then { s.pos p i with misses := (s.pos p i).misses + 1 } else s.pos p k :=
  s.pos_setPos p i k _

/-- The drop of a late beat is the end of its job, the beat counted late, and a miss. -/
theorem State.dropLate_eq {s : State} {p i : Nat} {j : Job} {c : AccClass} (kind : j.kind = jobBeat) (at' : j.pos = i)
    (idle : (s.port p).txn = none) (gone : ((s.beatGone p i j).port p).jobs = [])
    (cls : s.accClass (s.pos p i).classId = some c) (few : (s.pos p i).misses + 1 < c.missLimit)
    (room : (s.pos p i).misses < 15) : s.dropLate p j = ((s.beatGone p i j).beatLate p i).missed p i := by
  let u := (s.beatGone p i j).beatLate p i
  have pos : u.pos p i = { s.pos p i with beatBusy := false } := by
    rw [State.beatLate_pos, if_pos rfl, beatGone_pos]
  have missed : u.miss p i (s.tick.toNat + 1) = u.missed p i :=
    State.miss_few (c := c) (by rw [pos]; exact cls) (by rw [pos]; exact few) (by rw [pos]; exact room)
  have stays : (s.unpin (posCtx p i)).leaveWait p j = s.unpin (posCtx p i) := by
    unfold leaveWait
    dsimp only
    rw [show ((s.unpin (posCtx p i)).port p).txn = none from idle]
  have busy : (s.beatGone p i j).hasJob p jobBeat i = false := by
    unfold hasJob
    rw [gone]
    rfl
  rw [← missed]
  unfold dropLate
  dsimp only
  rw [if_pos kind, at', stays]
  show State.miss { (s.beatGone p i j).setPos p i
    { (s.beatGone p i j).pos p i with beatBusy := (s.beatGone p i j).hasJob p jobBeat i } with sch := _ } p i _ = _
  rw [busy]
  rfl

theorem State.dropLate_beat {s : State} {p i : Nat} {j : Job} {c : AccClass} (kind : j.kind = jobBeat) (at' : j.pos = i)
    (idle : (s.port p).txn = none) (only : (s.port p).jobs = [j])
    (cls : s.accClass (s.pos p i).classId = some c) (few : (s.pos p i).misses + 1 < c.missLimit)
    (room : (s.pos p i).misses < 15) : Dropped s (s.dropLate p j) p i ∧ ((s.dropLate p j).port p).jobs = [] := by
  let u := s.beatGone p i j
  let v := u.beatLate p i
  have empty : (u.port p).jobs = [] := by
    rw [State.beatGone_port]
    show (s.port p).jobs.filter (fun k => !j.same k) = []
    rw [only]
    simp [Job.same]
  have port : (v.missed p i).port p = ((u.port p).setPos i { u.pos p i with beatBusy := false }).setPos i
      { v.pos p i with misses := (v.pos p i).misses + 1 } := by
    show (v.setPos p i _).port p = _
    rw [port_setPos_same]
    exact congrArg (Port.setPos · i _) (u.port_setPos_same p i _)
  have pos (k : Nat) : (v.missed p i).pos p k = if k = i then (s.pos p i).missed else s.pos p k := by
    rw [State.missed_pos, State.beatLate_pos, State.beatLate_pos, if_pos rfl, State.beatGone_pos, State.beatGone_pos]
    split <;> rfl
  rw [State.dropLate_eq kind at' idle empty cls few room]
  obtain ⟨sch, que, ldr⟩ := s.beatGone_rest p i j
  obtain ⟨schLate, queLate, ldrLate⟩ := u.beatLate_rest p i
  obtain ⟨schMissed, queMissed, ldrMissed⟩ := v.missed_rest p i
  obtain ⟨records, stalled⟩ := s.unpin_ldr (posCtx p i)
  have larder : (v.missed p i).ldr = (s.unpin (posCtx p i)).ldr := (ldrMissed.trans ldrLate).trans ldr
  refine ⟨⟨?_, ?_, ?_, fun k hk => ?_, ?_, (queMissed.trans queLate).trans que, (congrArg Larder.records larder).trans records,
    (congrArg Larder.stalled larder).trans stalled, fun quiet => ?_⟩, ?_⟩
  · exact ((s.beatGone_keeps p i j).trans (u.beatLate_keeps p i)).trans (v.missed_keeps p i)
  · rw [port, State.beatGone_port]
    rfl
  · rw [pos, if_pos rfl]
  · rw [pos, if_neg hk]
  · rw [schMissed, schLate, sch]
    rfl
  · have dropped : u.portsQuiet := State.quiet_setPort (s := s.unpin (posCtx p i)) quiet
      (Port.quiet_dropped (State.port_quiet quiet p) j.same)
    have freed : v.portsQuiet := State.portsQuiet_setPos dropped rfl
    exact State.portsQuiet_setPos freed rfl
  · have kept (x : Port) (k : Nat) (y : Pos) : (x.setPos k y).jobs = x.jobs := rfl
    rw [port, kept, kept]
    exact empty

end Sys2Proof.Machine
end

section
/-! PROOF. What an epoch does at one port: it drops a late beat or releases the one that is due, and the released beat is
prepared. -/

namespace Sys2Proof.Machine

theorem State.jobBegun_beat {s : State} {p : Nat} {j : Job} (kind : j.kind = jobBeat) (idle : (s.port p).txn = none) :
    s.jobBegun p j = false := by
  unfold jobBegun
  dsimp only
  rw [if_pos kind, idle]

/-- A port with one job, a beat that has not begun at its deadline. -/
theorem State.lateJobs_beat {s : State} {p : Nat} {j : Job} (only : (s.port p).jobs = [j]) (kind : j.kind = jobBeat)
    (late : j.deadline ≤ s.tick.toNat) (idle : (s.port p).txn = none) : s.lateJobs p = s.dropLate p j := by
  have kept : [j].filter (fun j => decide (j.deadline ≤ s.tick.toNat)) = [j] := by simp [late]
  unfold lateJobs
  rw [only, kept, List.foldl_cons, List.foldl_nil, State.jobBegun_beat kind idle]
  rfl

theorem State.lateJobs_none {s : State} {p : Nat} (none : (s.port p).jobs = []) : s.lateJobs p = s := by
  unfold lateJobs
  rw [none]
  rfl

/-- A port of which nothing is due has only its late jobs dropped. -/
theorem State.epochPort_undue {s t : State} {p : Nat} (late : s.lateJobs p = t) (undue : ∀ k, (t.pos p k).undue)
    (probe : (t.port p).probeAt = none) (collect : (t.port p).collectAt = none) : s.epochPort p = t := by
  unfold epochPort
  dsimp only
  rw [late, foldl_stays fun e _ => State.releasePos_undue (undue e.1) _, State.releaseLine_none probe collect]

/-- In SERVICE, with one port and no new classes, the epoch's work is that port's. -/
theorem State.worked_one {s : State} {p : Nat} {x : Port} (mode : s.mode = .service) (classes : s.sch.classesNew = none)
    (one : s.ports = [(p, x)]) : s.worked = s.epochTaken.epochPort p := by
  have same : s.epochTaken.applyClasses = s.epochTaken := State.applyClasses_none classes
  unfold worked
  rw [same, if_pos (show s.epochTaken.mode = .service from mode), show s.epochTaken.ports = [(p, x)] from one]
  rfl

/-! ## The release of a beat (R392, R393) -/

/-- The port of a released beat: its position, and its job, which has a context. -/
def Port.withBeat (x : Port) (i : Nat) (y : Pos) (due deadline : Nat) : Port := { x with
  pos := [(i, { y with beatAt := some due, beatBusy := true })]
  jobs := [{ jobNew jobBeat i deadline with ctx := true }] }

theorem noShadows {l : List (Nat × Port)} (h : ∀ e ∈ l, ∀ y ∈ e.2.pos, y.2.shadow = none) :
    (l.flatMap fun p => p.2.pos.filter fun x => x.2.shadow.isSome) = [] := by
  rw [List.flatMap_eq_nil_iff]
  intro e he
  rw [List.filter_eq_nil_iff]
  intro y hy
  rw [h e he y hy]
  exact Bool.false_ne_true

/-- A beat context is free where no job and no preparation stands. -/
theorem State.releaseJob_free {s : State} {p : Nat} {x : Port} (one : s.ports = [(p, x)]) (jobs : x.jobs = [])
    (shadows : ∀ y ∈ x.pos, y.2.shadow = none) (j : Job) :
    s.releaseJob p j = (({ s with sch := { s.sch with released := satInc s.sch.released } } : State).setPort p
      { x with jobs := [{ j with ctx := true }] }).peaks := by
  let u : State := { s with sch := { s.sch with released := satInc s.sch.released } }
  have used : u.beatUsed = 0 := by
    show (s.ports.flatMap fun p => p.2.jobs.filter (·.ctx)).length = 0
    rw [one, List.flatMap_cons, jobs]
    rfl
  have shadow : u.beatShadows = 0 := by
    show (s.ports.flatMap _).length = 0
    rw [one, noShadows fun e he y hy => ?_]
    · rfl
    · obtain rfl := List.mem_singleton.1 he
      exact shadows y hy
  have room : ¬ 512 ≤ u.beatUsed + u.beatShadows := by omega
  have free : decide (u.beatUsed + u.beatShadows < 512) = true := decide_eq_true (by omega)
  have port : u.port p = x := State.port_single one
  unfold releaseJob
  dsimp only
  rw [if_neg room]
  dsimp only
  rw [free, if_pos rfl, port, jobs]
  rfl

/-- What the release of a beat leads to. -/
structure Released (s t : State) (p i due deadline : Nat) (x : Port) (y : Pos) : Prop where
  keeps : KeepsBut [.ports, .sch] s t
  ports : t.ports = [(p, x.withBeat i y due deadline)]
  released : t.sch.released = satInc s.sch.released
  ops : t.sch.ops = s.sch.ops
  que : t.que = s.que

theorem State.noteClass_sch (s : State) (c : Nat) : ∃ l, s.noteClass c = { s with sch := { s.sch with firstBeat := l } } := by
  unfold noteClass
  split
  · exact ⟨s.sch.firstBeat, rfl⟩
  · exact ⟨_, rfl⟩

theorem State.releaseBeat_released {s : State} {p i r : Nat} {x : Port} {y : Pos} (one : s.ports = [(p, x)])
    (pos : x.pos = [(i, y)]) (runs : x.state = .running) (jobs : x.jobs = []) (calm : y.catchupDue = false)
    (shadow : y.shadow = none) :
    Released s (s.releaseBeat p i r true) p i (r + s.beatPeriod p i) (r + s.beatPeriod p i) x y := by
  generalize hn : r + s.beatPeriod p i = next
  have portOn (z : Port) (h : z.state = .running) : z ≠ portOff := fun e => by
    rw [e] at h
    cases h
  have posOn (z : Pos) (h : z.beatAt = some next) : z ≠ posEmpty := fun e => by
    rw [e] at h
    cases h
  have port : s.port p = x := State.port_single one
  have at' : s.pos p i = y := by
    show (s.port p).at i = y
    rw [port, Port.at_single pos, if_pos rfl]
  let y1 : Pos := { y with beatAt := some next }
  let x1 : Port := { x with pos := [(i, y1)] }
  have first : s.setPos p i { s.pos p i with beatAt := some next } = { s with ports := [(p, x1)] } := by
    unfold setPos
    rw [port, at', Port.setPos_single pos (posOn y1 rfl), State.setPort_single one (portOn x1 runs)]
  obtain ⟨l, noted⟩ := ({ s with ports := [(p, x1)] } : State).noteClass_sch y.classId
  let u : State := { s with ports := [(p, x1)], sch := { s.sch with firstBeat := l } }
  have portU : u.port p = x1 := State.port_single rfl
  have atU : u.pos p i = y1 := by
    show (u.port p).at i = y1
    rw [portU, Port.at_single rfl, if_pos rfl]
  have unshadowed : u.confirmBeat p i = (u, none) := by
    unfold confirmBeat
    dsimp only
    rw [atU, show y1.shadow = none from shadow]
  let j : Job := { jobNew jobBeat i next with prep := none }
  have job := State.releaseJob_free (s := u) (p := p) (x := x1) rfl jobs
    (fun z hz => by obtain rfl := List.mem_singleton.1 hz; exact shadow) j
  let x2 : Port := { x1 with jobs := [{ j with ctx := true }] }
  have put : u.releaseJob p j = ({ u with sch := { u.sch with released := satInc u.sch.released }, ports := [(p, x2)] } :
      State).peaks := by
    rw [job, State.setPort_single (x := x1) rfl (portOn x2 runs)]
  let v := u.releaseJob p j
  have portsV : v.ports = [(p, x2)] := congrArg State.ports put
  have portV : v.port p = x2 := State.port_single portsV
  have atV : v.pos p i = y1 := by
    show (v.port p).at i = y1
    rw [portV, Port.at_single rfl, if_pos rfl]
  have last : v.setPos p i { v.pos p i with beatBusy := true } = { v with ports := [(p, x.withBeat i y next next)] } := by
    unfold setPos
    rw [portV, atV, Port.setPos_single (x := x2) rfl (posOn { y1 with beatBusy := true } rfl)]
    exact State.setPort_single portsV (portOn (x.withBeat i y next next) runs)
  have due : ({ v with ports := [(p, x.withBeat i y next next)] } : State).pos p i
      = { y with beatAt := some next, beatBusy := true } := by
    show (State.port _ p).at i = _
    rw [State.port_single rfl, Port.at_single rfl, if_pos rfl]
  have eq : s.releaseBeat p i r true = { v with ports := [(p, x.withBeat i y next next)] } := by
    unfold releaseBeat
    rw [hn]
    dsimp only
    rw [if_neg (by decide), first, show State.pos { s with ports := [(p, x1)] } p i = y1 from atU, noted]
    rw [show ({ ({ s with ports := [(p, x1)] } : State) with sch := { s.sch with firstBeat := l } } : State) = u from rfl,
      unshadowed]
    show (if ((v.setPos p i { v.pos p i with beatBusy := true }).pos p i).catchupDue = true then _
      else v.setPos p i { v.pos p i with beatBusy := true }) = _
    rw [last, due, if_neg (by rw [calm]; decide)]
  rw [eq, show v = _ from put]
  exact ⟨keepsBut_of_restore (by cases s; rfl), rfl, rfl, rfl, rfl⟩

end Sys2Proof.Machine
end

section
/-! PROOF. A released beat is prepared at the end of its epoch, and another ahead of its release. -/

namespace Sys2Proof.Machine

/-! ## The page of a beat -/

/-- `t` is `s` with another Larder, in which the stalled work is the same. -/
def Larders (s t : State) : Prop := ∃ l, t = { s with ldr := l } ∧ l.stalled = s.ldr.stalled

theorem Larders.refl (s : State) : Larders s s := ⟨s.ldr, rfl, rfl⟩

theorem Larders.trans {s t u : State} (h : Larders s t) (k : Larders t u) : Larders s u := by
  obtain ⟨l, rfl, same⟩ := h
  obtain ⟨m, rfl, same'⟩ := k
  exact ⟨m, rfl, same'.trans same⟩

theorem Larders.foldl {α : Type} (f : State → α → State) (hf : ∀ s a, Larders s (f s a)) (l : List α) (s : State) :
    Larders s (l.foldl f s) := by
  induction l generalizing s with
  | nil => exact .refl s
  | cons a l ih => exact (hf s a).trans (ih _)

theorem Paged.larders {s t : State} (h : Paged s t) : Larders s t :=
  ⟨t.ldr, h.eq, (congrArg Larder.stalled h.pageless :)⟩

theorem State.orphan_larders (s : State) (n : Nat) : Larders s (s.orphan n) := by
  unfold orphan
  split
  · have put : Larders s (s.putRecord n { recordFree with state := 2 }) := by
      have first : Larders s { s with ldr := { s.ldr with records := tabSet recordFree s.ldr.records n { recordFree with state := 2 } } } :=
        ⟨_, rfl, rfl⟩
      exact first.trans (State.touchPage_paged _ _).larders
    exact put.trans ⟨_, rfl, rfl⟩
  · exact .refl s

theorem State.install_larders (s : State) (page : Nat) : Larders s (s.install page) := by
  have placed : ∀ t : State, Larders s t →
      Larders s (if page < 16384 then (List.range 16).foldl (fun s k => s.orphan (16 * page + k)) t else t) := by
    intro t h
    split
    · exact h.trans (Larders.foldl _ (fun s k => s.orphan_larders _) _ _)
    · exact h
  unfold install
  dsimp only
  apply placed
  split
  · exact ⟨_, rfl, rfl⟩
  · split
    · exact ⟨_, rfl, rfl⟩
    · split
      · exact .refl s
      · have evicted : ∀ l : Larder, l.stalled = s.ldr.stalled → Larders s { s with ldr := l } := fun l h => ⟨l, rfl, h⟩
        split
        · exact (evicted _ rfl).trans (State.storeDdr_paged _ _).larders
        · exact evicted _ rfl

theorem State.needPage_larders (s : State) (page ctx : Nat) : Larders s (s.needPage page ctx).1 := by
  unfold needPage
  split
  · exact .refl s
  · split
    · exact ⟨_, rfl, rfl⟩
    · split
      · exact (s.install_larders page).trans ⟨_, rfl, rfl⟩
      · unfold wantPage
        split
        · exact .refl s
        · exact ⟨_, rfl, rfl⟩

/-! ## The preparation of a released beat (R404) -/

theorem State.draw_prf {s t : State} {n : Nat} {b : Bytes} (h : s.draw n = some (b, t)) : ∃ v, t = { s with prf := v } := by
  unfold draw at h
  split at h
  · cases h
  · unfold drawFrom at h
    dsimp only at h
    split at h
    · simp only [Option.some.injEq, Prod.mk.injEq] at h
      exact ⟨_, h.2.symm⟩
    · cases h

/-- What the preparation of the one job of a block changes. -/
structure Prepared (s t : State) (p : Nat) (x : Port) : Prop where
  rest : ∃ l v js, t = { s with ldr := l, prf := v, ports := [(p, { x with jobs := js })] }
    ∧ l.stalled = s.ldr.stalled ∧ ∀ j ∈ js, j.ctx = true

theorem State.prepare_one {s : State} {p : Nat} {x : Port} {j : Job} (one : s.ports = [(p, x)]) (runs : x.state = .running)
    (only : x.jobs = [j]) (kind : j.kind = jobBeat) (ctx : j.ctx = true) : Prepared s (s.prepare p j) p x := by
  have portOn (js : List Job) : ({ x with jobs := js } : Port) ≠ portOff := fun e => by
    have := congrArg Port.state e
    rw [show ({ x with jobs := js } : Port).state = .running from runs] at this
    cases this
  have self (b : Option BeatPrep) : Job.same j { j with prep := b } = true := by simp [Job.same]
  have setJob (l : Larder) (v : Vector Prf 4) (b : BeatPrep) :
      ({ s with ldr := l, prf := v } : State).setJob p { j with prep := some b }
        = { s with ldr := l, prf := v, ports := [(p, { x with jobs := [{ j with prep := some b }] })] } := by
    have port : ({ s with ldr := l, prf := v } : State).port p = x := State.port_single one
    unfold setJob
    dsimp only
    rw [port, only]
    have jobs : [j].map (fun k => if k.same { j with prep := some b } then { j with prep := some b } else k)
        = [{ j with prep := some b }] := by
      rw [List.map_singleton, if_pos (self (some b))]
    rw [jobs]
    exact State.setPort_single one (portOn _)
  have larder (b : BeatPrep) :
      Larders s (if b.copy.isSome then (s, PageState.ready) else s.needPage b.page (posCtx p j.pos)).1 := by
    split
    · exact .refl s
    · exact s.needPage_larders ..
  unfold prepare
  extract_lets b r u b'
  obtain ⟨m, eq', same⟩ : Larders s r.1 := larder b
  split
  · refine ⟨m, s.prf, [], ?_, same, fun _ h => absurd h List.not_mem_nil⟩
    rw [eq', dropJobs_eq, show ({ s with ldr := m } : State).port p = x from State.port_single one]
    have dropped : x.dropped (fun k => k.kind == jobBeat && k.pos == j.pos) = { x with jobs := [] } := by
      unfold Port.dropped
      rw [only]
      simp [kind]
    rw [dropped]
    exact State.setPort_single one (portOn [])
  · have ctxs (b : Option BeatPrep) : ∀ k ∈ [({ j with prep := b } : Job)], k.ctx = true := fun k hk => by
      obtain rfl := List.mem_singleton.1 hk
      exact ctx
    have there : u = { s with ldr := m } := eq'
    split
    · exact ⟨m, s.prf, _, by rw [there]; exact setJob m s.prf b', same, ctxs _⟩
    · split
      · exact ⟨m, s.prf, _, by rw [there]; exact setJob m s.prf b', same, ctxs _⟩
      · rename_i drawn
        obtain ⟨v, rfl⟩ := State.draw_prf drawn
        exact ⟨m, v, _, by rw [there]; exact setJob m v _, same, ctxs _⟩

/-- With nothing else that waits, a command's end only prepares the beat. -/
theorem State.react_prepares {s t : State} (ops : s.sch.ops = []) (auths : ∀ e ∈ s.auths, e.2.2.quiet = true)
    (prepares : s.prepareAll = t) (arrivals : t.cnt.arrivals = []) (commits : t.cnt.queue = [] ∨ t.cnt.busy.isSome = true)
    (hand : ∀ h, t.glz.hand = some h → h.reply.isSome = true)
    (commit : ∀ c, t.glz.commit = some c → (c.labelsIn || c.lockEnded || !c.tokensDone) = true)
    (windows : t.ldr.stalled = []) (stalled : t.glz.stalled = none) (given : t.ctxWaiters = []) : s.react = t := by
  have engines : s.engineKick = s := by
    have drawn : (s.auths.filter fun e => e.2.2.stage == .keys && e.2.2.priv.isNone) = [] :=
      List.filter_eq_nil_iff.2 fun e he => Bool.eq_false_iff.1 (Auth.drawn_quiet (auths e he))
    have engaged : (s.auths.filter fun e => e.2.2.unit.isNone && (e.2.2.stage == .verify || e.2.2.stage == .keys)) = [] :=
      List.filter_eq_nil_iff.2 fun e he => Bool.eq_false_iff.1 (Auth.engaged_quiet (auths e he))
    have wants (f : Nat × Nat × Auth → Bool) : (s.auths.filter fun e => e.2.2.wantsEngine && f e) = [] :=
      List.filter_eq_nil_iff.2 fun e he => by simp [Auth.wantsEngine_quiet (auths e he)]
    have none : s.assignEcc = s := by
      unfold assignEcc eccWaiting
      rw [wants, ops]
      rfl
    have stays : ∀ l : List Nat, l.foldl (fun (s : State) _ => s.assignEcc) s = s := fun l => foldl_stays fun _ _ => none
    unfold engineKick
    rw [drawn, List.foldl_nil]
    dsimp only
    rw [engaged, List.foldl_nil, ops]
    exact stays _
  have sweeps : s.sweepOps = s := by
    unfold sweepOps
    rw [ops]
    rfl
  have answers : t.glzAnswer = t := by
    unfold glzAnswer
    split
    · rfl
    · rename_i h
      exact if_pos (hand _ h)
  have advances : t.glzAdvance = t := by
    unfold glzAdvance
    split
    · rfl
    · rename_i h
      exact if_pos (commit _ h)
  have serves : t.serveStalled = t := by
    unfold serveStalled
    rw [windows]
    rfl
  have resumes : t.glzResume = t := by
    unfold glzResume
    rw [stalled]
  have passes : t.commitPass = t := commitPass_quiet arrivals commits
  unfold react
  rw [engines, sweeps, prepares, answers]
  dsimp only
  rw [passes, advances, passes, passes, serves, resumes, given]
  rfl

end Sys2Proof.Machine
end

section
/-! PROOF. The scheduler's epoch, the preparation of beats ahead of their release, and classes that become warm. -/

namespace Sys2Proof.Machine

/-! ## Preparation ahead of the release (R402–R406) -/

/-- The pauses of a preparation are counted. -/
def Spec.paused (x : Spec) (n : Nat) : Spec := { x with preemptions := satAdd x.preemptions n }

/-- A preparation is counted as begun. -/
def State.prepBegun (s : State) : State := { s with spc := { s.spc with started := satInc s.spc.started } }

/-- The pauses of a preparation are counted in its block. -/
def State.prepPaused (s : State) (run : SpecRun) : State := { s with spc := s.spc.paused run.pauses }

/-- The steps of a preparation from its first. -/
def State.prepFirst (s : State) (p i : Nat) (run : SpecRun) (lane : Option Nat) : State :=
  let r := s.specCopy ((s.pos p i).record.getD 0) (s.prepNew p i) run.pageOk
  let q := r.1.specNonce p i r.2 lane
  q.1.setPos p i { q.1.pos p i with shadow := some q.2 }

/-- The lane on which a preparation is to pause, where it is ACTIVE. -/
def State.prepLane (s : State) (run : SpecRun) : Option Nat :=
  match run.lane with
  | none => none
  | some l => if s.unitIs (136 + l) .active then some l else none

theorem State.beatPrepare_begins {s : State} {p i : Nat} (run : SpecRun) (shadow : (s.pos p i).shadow = none)
    (may : s.mayPrepare p i = true) :
    s.beatPrepare p i run = (s.prepBegun.prepFirst p i run (s.prepLane run)).prepPaused run := by
  unfold beatPrepare
  rw [if_neg (by rw [shadow]; decide), if_neg (by rw [may]; decide)]
  rfl

/-- A preparation that holds the record from the cache. -/
def State.prepCopied (s : State) (p i n : Nat) : BeatPrep :=
  { s.prepNew p i with copy := some (s.record n), version := tabGet 0 s.ldr.versions (s.prepNew p i).page }

/-- The first steps with the record in the cache, where no instance serves beats. -/
theorem State.prepFirst_cached {s : State} {p i n : Nat} (run : SpecRun) (lane : Option Nat)
    (bound : (s.pos p i).record = some n) (there : s.pageThere (recordPage n)) (unserved : s.server 1 = none) :
    s.prepFirst p i run lane = s.setPos p i { s.pos p i with shadow := some (s.prepCopied p i n) } := by
  have page : (s.prepNew p i).page = recordPage n := by
    show (s.pos p i).page = _
    unfold Pos.page
    rw [bound]
  obtain ⟨cached, sound⟩ := there
  have copies : s.specCopy n (s.prepNew p i) run.pageOk = (s, s.prepCopied p i n) := by
    unfold specCopy
    dsimp only
    rw [if_neg (by rw [page, sound]; decide), if_pos (by rw [page, cached])]
    rfl
  have nonceless (b : BeatPrep) : s.specNonce p i b lane = (s, b) := by
    unfold specNonce
    rw [unserved]
  unfold prepFirst
  dsimp only
  rw [show (s.pos p i).record.getD 0 = n by rw [bound]; rfl, copies]
  dsimp only
  rw [nonceless]

/-- A preparation that stands paused is finished. -/
theorem State.beatPrepare_resumes {s : State} {p i l : Nat} {run : SpecRun} {b : BeatPrep} {n : BitVec 64}
    (shadow : (s.pos p i).shadow = some b) (lane : b.lane = some l) (nonce : b.nonce = some n) (free : run.lane = none) :
    s.beatPrepare p i run = { s.setPos p i { s.pos p i with shadow := some (s.prepMac p i b n) } with
      spc := s.spc.paused run.pauses } := by
  unfold beatPrepare
  dsimp only
  have resumes : s.resumePrepare p i none = s.setPos p i { s.pos p i with shadow := some (s.prepMac p i b n) } := by
    unfold resumePrepare
    dsimp only
    rw [shadow]
    dsimp only
    rw [lane, nonce]
  rw [if_pos (by rw [shadow]; exact congrArg Option.isSome lane), free]
  dsimp only
  rw [resumes]
  rfl

theorem mem_tabPut_same {α : Type} (t : Tab α) (k : Nat) (v : α) : (k, v) ∈ tabPut t k v := by
  induction t with
  | nil => exact List.mem_cons_self ..
  | cons e t ih =>
    obtain ⟨i, w⟩ := e
    unfold tabPut
    split
    · exact List.mem_cons_self ..
    · split
      · exact List.mem_cons_self ..
      · exact List.mem_cons_of_mem _ ih

/-- A position written with its authentication as it was, by which nothing new may move. -/
theorem State.quiet_setPos {s : State} (h : s.quiet) {p i : Nat} {v : Pos} (there : v ≠ posEmpty)
    (auth : v.auth = (s.pos p i).auth) : (s.setPos p i v).quiet := by
  have pos : ((s.port p).setPos i v).pos = tabPut (s.port p).pos i v := if_neg there
  have mem : (i, v) ∈ ((s.port p).setPos i v).pos := by
    rw [pos]
    exact mem_tabPut_same ..
  refine State.quiet_port (fun e => ?_) (fun u ⟨y, hy, a, busy⟩ => ?_) h
    (Port.quiet_setPos (State.port_quiet h.2.2.1 p) auth) (fun _ held => held)
  · rw [e] at mem
    exact absurd mem List.not_mem_nil
  · rcases mem_tabPut_old posEmpty (k := i) (v := v) hy with old | rfl
    · exact ⟨y, pos ▸ old, a, busy⟩
    · exact ⟨_, mem, a, auth.trans busy.1, busy.2⟩

/-! ## One port at an epoch -/

/-- The Proofer at rest stays so with its instances and units. -/
theorem State.prfQuiet_congr {s t : State} (h : s.prfQuiet) (ops : t.sch.ops = []) (prf : t.prf = s.prf)
    (rcp : t.rcp = s.rcp) : t.prfQuiet := by
  obtain ⟨-, others⟩ := h
  refine ⟨fun o ho => ?_, ?_⟩
  · rw [ops] at ho
    exact absurd ho List.not_mem_nil
  · unfold inst reseedInt unitIs unit
    rw [rcp, prf]
    exact others

/-- A port of which only a beat is due releases it. -/
theorem State.epochPort_beat {s : State} {p i r due deadline : Nat} {x : Port} {y : Pos} (one : s.ports = [(p, x)])
    (pos : x.pos = [(i, y)]) (runs : x.state = .running) (jobs : x.jobs = []) (active : s.unitIs p .active = true)
    (probe : x.probeAt = none) (collect : x.collectAt = none) (beat : y.beatAt = some r) (late : r ≤ s.tick.toNat)
    (released : Released s (s.releaseBeat p i r true) p i due deadline x y)
    (undue : y.authAt = none ∧ y.catchupAt = none ∧ y.prioAt = none) : s.epochPort p = s.releaseBeat p i r true := by
  obtain ⟨auth, catchup, prio⟩ := undue
  have port : s.port p = x := State.port_single one
  have at' : s.pos p i = y := by
    show (s.port p).at i = y
    rw [port, Port.at_single pos, if_pos rfl]
  have none : s.lateJobs p = s := State.lateJobs_none (by rw [port]; exact jobs)
  have live : (s.unitIs p .active && (s.port p).state == .running) = true := by
    rw [active, port, runs]
    rfl
  have keys : (s.port p).pos = [(i, y)] := by rw [port, pos]
  have first : s.releasePos p i true = s.releaseBeat p i r true := by
    have again : ((s.releaseBeat p i r true).pos p i) = { y with beatAt := some due, beatBusy := true } := by
      show (State.port _ p).at i = _
      rw [State.port_single released.ports, Port.at_single rfl, if_pos rfl]
    generalize hv : s.releaseBeat p i r true = v at again
    unfold releasePos
    rw [at', beat]
    simp only [if_pos late, hv, again, auth, catchup, prio, reached, Bool.not_true, Bool.false_eq_true, if_false,
      Bool.false_and]
  have line : (s.releaseBeat p i r true).releaseLine p true = s.releaseBeat p i r true := by
    have portV := State.port_single released.ports
    exact State.releaseLine_none (by rw [portV]; exact probe) (by rw [portV]; exact collect) true
  unfold epochPort
  dsimp only
  rw [none, live, keys, List.foldl_cons, List.foldl_nil, first, line]

/-- A block with one port and on it one job that is a beat to be prepared. -/
theorem State.prepareAll_one {s : State} {p i : Nat} {x : Port} {y : Pos} {due deadline : Nat}
    (one : s.ports = [(p, x.withBeat i y due deadline)]) :
    s.prepareAll = s.prepare p { jobNew jobBeat i deadline with ctx := true } := by
  unfold prepareAll
  rw [one]
  rfl

/-- No job of a single port waits for a context. -/
theorem State.ctxWaiters_one {s : State} {p : Nat} {x : Port} (one : s.ports = [(p, x)]) (ctx : ∀ j ∈ x.jobs, j.ctx = true) :
    s.ctxWaiters = [] := by
  have none : x.jobs.filter (fun j => !j.ctx) = [] := List.filter_eq_nil_iff.2 fun j hj => by rw [ctx j hj]; decide
  unfold ctxWaiters
  rw [one, List.flatMap_cons, none]
  rfl

/-- Settles O56: the epoch is what its ports do, rejoining units and credit after it, in a block where nothing else waits. -/
theorem schedulerEpochs : Obligations.SchedulerEpochs := by
  unfold Obligations.SchedulerEpochs
  refine ⟨?_, ?_, ?_, ?_, ?_, ?_, ?_, ?_, ?_⟩
  · intro s running quiet due act
    have idle : s.epochTurn.activateGo = s := by
      unfold State.epochTurn
      rw [if_neg (by rw [due]; decide), State.activateGo_none act]
    refine runs_react (fun s => s.epochTurn.activateGo) rfl running s idle quiet (.refl _ s) ?_
    rw [settle_sch, settle_ports]
    exact ⟨rfl, rfl⟩
  · intro s n running quiet due rest mode que ops act classes
    obtain ⟨x, applied, same, new⟩ := s.epochTaken.applyClasses_sch
    let v : State := { s.epochTaken with sch := x }
    have works : s.worked = v := by
      unfold State.worked
      rw [applied]
      exact if_neg mode
    have opsV : v.sch.ops = [] := same.trans ops
    have restV : v.prfQuiet := by
      obtain ⟨gathers, others⟩ := rest
      exact ⟨fun o ho => gathers o (same ▸ ho), others⟩
    have epochs := State.epochTurn_epochs due works que opsV restV act
    obtain ⟨acc, ctr, taken⟩ := new n classes
    refine runs_react (fun s => s.epochTurn.activateGo) rfl running _ rfl
      (epochs.quiet opsV (quiet_congr quiet same))
      (((s.epochTaken.withSch_keeps x).mono (by decide) |> ((s.withSch_keeps _).mono (by decide)).trans).trans epochs.keeps) ?_
    rw [settle_sch]
    exact ⟨(epochs.sch Scheduler.acc fun _ => rfl).trans acc, (epochs.sch Scheduler.ctr fun _ => rfl).trans ctr,
      (epochs.sch Scheduler.classesNew fun _ => rfl).trans taken⟩
  · intro s u running quiet due rest ports que ops act low high rejoining passed
    obtain ⟨x, applied, same, -⟩ := s.epochTaken.applyClasses_sch
    let v : State := { s.epochTaken with sch := x }
    have works : s.worked = v := by
      unfold State.worked
      rw [applied]
      have idle : v.ports.foldl (fun s e => s.epochPort e.1) v = v := by
        rw [show v.ports = [] from ports]
        rfl
      show (if v.mode = .service then v.ports.foldl (fun s e => s.epochPort e.1) v else v) = v
      rw [idle, ite_self]
    have opsV : v.sch.ops = [] := same.trans ops
    have restV : v.prfQuiet := by
      obtain ⟨gathers, others⟩ := rest
      exact ⟨fun o ho => gathers o (same ▸ ho), others⟩
    have epochs := State.epochTurn_epochs due works que opsV restV act
    have joins : (v.unit u).joins = true := by
      show ((s.unit u).st == .rejoining && (s.unit u).passed) = true
      rw [show ((s.unit u).st == .rejoining) = true from rejoining, passed]
      rfl
    refine runs_react (fun s => s.epochTurn.activateGo) rfl running _ rfl
      (epochs.quiet opsV (quiet_congr quiet same))
      (((s.epochTaken.withSch_keeps x).mono (by decide) |> ((s.withSch_keeps _).mono (by decide)).trans).trans epochs.keeps) ?_
    rw [unit_settle]
    exact epochs.units u low high joins
  · intro s p i r x y running quiet due rest mode que ops act classes one pos active runs jobs probe collect beat late
      auth prio catchup calm shadow
    let u := s.epochTaken
    have port : u.port p = x := State.port_single one
    have posI : u.pos p i = y := by
      show (u.port p).at i = y
      rw [port, Port.at_single pos, if_pos rfl]
    have released : Released u (u.releaseBeat p i r true) p i (r + s.beatPeriod p i) (r + s.beatPeriod p i) x y :=
      State.releaseBeat_released one pos runs jobs calm shadow
    generalize hn : r + s.beatPeriod p i = next at released
    have works : s.worked = u.releaseBeat p i r true := by
      rw [State.worked_one mode classes one]
      exact State.epochPort_beat (s := u) one pos runs jobs active probe collect beat late released ⟨auth, catchup, prio⟩
    generalize u.releaseBeat p i r true = v at works released
    have opsV : v.sch.ops = [] := released.ops.trans ops
    have part (q : Part) (hq : q ∉ [Part.ports, .sch]) : q.same u v := released.keeps q hq
    have rcp : v.rcp = s.rcp := part .rcp (by decide)
    have restV : v.prfQuiet := State.prfQuiet_congr rest opsV (part .prf (by decide)) rcp
    have epochs := State.epochTurn_epochs due works (released.que.trans que) opsV restV (by rw [rcp]; exact act)
    let e := s.epochTurn.activateGo
    have ports : e.ports = [(p, x.withBeat i y next next)] :=
      (epochs.part .ports (by decide) : e.ports = v.ports).trans released.ports
    have cnt : e.cnt = s.cnt := (epochs.part .cnt (by decide) : e.cnt = v.cnt).trans (part .cnt (by decide))
    have glz : e.glz = s.glz := (epochs.part .glz (by decide) : e.glz = v.glz).trans (part .glz (by decide))
    have ldr : e.ldr = s.ldr := (epochs.part .ldr (by decide) : e.ldr = v.ldr).trans (part .ldr (by decide))
    have opsE : e.sch.ops = [] := (epochs.sch Scheduler.ops fun _ => rfl).trans opsV
    obtain ⟨l, w, js, prepares, stalled, ctx⟩ := (State.prepare_one (s := e) ports runs rfl rfl rfl).rest
    obtain ⟨-, ⟨arrivals, commits⟩, portsQuiet, hand, commit, windows, noStall⟩ := quiet
    have calmAuth : ∀ a, y.auth = some a → a.quiet = true := fun a h => by
      have k := portsQuiet (p, x) (by rw [one]; exact List.mem_singleton.2 rfl)
      unfold Port.quiet at k
      rw [Bool.and_eq_true, pos] at k
      have := List.all_eq_true.1 k.2 (i, y) (List.mem_singleton.2 rfl)
      rw [h] at this
      exact this
    have auths : ∀ a ∈ e.auths, a.2.2.quiet = true := fun a ha => by
      obtain ⟨q, hq, z, hz, at'⟩ := State.mem_auths ha
      rw [ports] at hq
      obtain rfl := List.mem_singleton.1 hq
      obtain rfl := List.mem_singleton.1 hz
      exact calmAuth _ at'
    have reacts : e.react = { e with ldr := l, prf := w, ports := [(p, { x.withBeat i y next next with jobs := js })] } := by
      refine State.react_prepares opsE auths ?_ (by rw [cnt]; exact arrivals) (by rw [cnt]; exact commits)
        (by rw [glz]; exact hand) (by rw [glz]; exact commit) (by rw [stalled, ldr]; exact windows)
        (by rw [glz]; exact noStall) ?_
      · exact (State.prepareAll_one ports).trans prepares
      · exact State.ctxWaiters_one rfl ctx
    refine runs_clock (fun s => s.epochTurn.activateGo.react) rfl running _ reacts ?_ ?_
    · have last : KeepsBut [.ldr, .prf, .ports] e
          { e with ldr := l, prf := w, ports := [(p, { x.withBeat i y next next with jobs := js })] } :=
        keepsBut_of_restore (by cases e; rfl)
      exact ((((s.withSch_keeps _).mono (by decide)).trans (released.keeps.mono (by decide))).trans
        (epochs.keeps.mono (by decide))).trans (last.mono (by decide))
    · have at' : (settle s { e with
          ldr := l, prf := w, ports := [(p, { x.withBeat i y next next with jobs := js })] }).pos p i
          = { y with beatAt := some next, beatBusy := true } := by
        unfold State.pos State.port
        rw [settle_ports]
        show (State.port { e with ports := [(p, { x.withBeat i y next next with jobs := js })] } p).at i = _
        rw [State.port_single rfl, Port.at_single rfl, if_pos rfl]
      rw [at', settle_sch]
      exact ⟨rfl, rfl, (epochs.sch Scheduler.released fun _ => rfl).trans released.released⟩
  · intro s p i x y j c running quiet due rest mode que ops act classes one pos jobs kind at' late idle probe collect beat
      auth prio catchup cls few room
    let u := s.epochTaken
    have port : u.port p = x := State.port_single one
    have posU (k : Nat) : u.pos p k = if i = k then y else posEmpty := by
      show (u.port p).at k = _
      rw [port, Port.at_single pos]
    have posI : u.pos p i = y := (posU i).trans (if_pos rfl)
    have idleU : (u.port p).txn = none := by rw [port]; exact idle
    have only : (u.port p).jobs = [j] := by rw [port]; exact jobs
    obtain ⟨dropped, empty⟩ := State.dropLate_beat (s := u) kind at' idleU only (c := c) (by rw [posI]; exact cls)
      (by rw [posI]; exact few) (by rw [posI]; exact room)
    let v := u.dropLate p j
    have gone : u.lateJobs p = v := State.lateJobs_beat only kind late idleU
    have undue (k : Nat) : (v.pos p k).undue := by
      by_cases h : k = i
      · rw [h, dropped.pos, posI]
        exact ⟨beat, auth, catchup, prio⟩
      · rw [dropped.others k h, posU, if_neg (Ne.symm h)]
        exact ⟨rfl, rfl, rfl, rfl⟩
    have line {α : Type} (f : Port → α) (hf : ∀ x, f { x with pos := [], jobs := [] } = f x) : f (v.port p) = f x := by
      rw [← hf, dropped.port, hf, port]
    have works : s.worked = v := by
      rw [State.worked_one mode classes one]
      exact State.epochPort_undue gone undue ((line Port.probeAt fun _ => rfl).trans probe)
        ((line Port.collectAt fun _ => rfl).trans collect)
    have opsV : v.sch.ops = [] := by
      rw [dropped.sch]
      exact ops
    have part (q : Part) (hq : q ∉ [Part.ports, .ldr, .sch]) : q.same u v := dropped.keeps q hq
    have rcp : v.rcp = s.rcp := part .rcp (by decide)
    have prf : v.prf = s.prf := part .prf (by decide)
    have restV : v.prfQuiet := State.prfQuiet_congr rest opsV prf rcp
    have epochs := State.epochTurn_epochs due works (dropped.que.trans que) opsV restV (by rw [rcp]; exact act)
    have quietV : v.quiet := by
      obtain ⟨-, commits, ports, hand, commit, windows, stalled⟩ := quiet
      unfold State.quiet
      rw [opsV, show v.cnt = s.cnt from part .cnt (by decide), show v.glz = s.glz from part .glz (by decide),
        dropped.stalled]
      exact ⟨fun o ho => absurd ho List.not_mem_nil, commits, dropped.quiet ports, hand, commit, windows, stalled⟩
    have ports : s.epochTurn.activateGo.ports = v.ports := epochs.part .ports (by decide)
    have ldr : s.epochTurn.activateGo.ldr = v.ldr := epochs.part .ldr (by decide)
    refine runs_react (fun s => s.epochTurn.activateGo) rfl running _ rfl (epochs.quiet opsV quietV)
      ((((s.withSch_keeps _).mono (by decide)).trans (dropped.keeps.mono (by decide))).trans (epochs.keeps.mono (by decide))) ?_
    have portEq : (settle s s.epochTurn.activateGo).port p = v.port p := by
      unfold State.port
      rw [settle_ports, ports]
    have posEq : (settle s s.epochTurn.activateGo).pos p i = y.missed := by
      show ((settle s s.epochTurn.activateGo).port p).at i = _
      rw [portEq, ← posI]
      exact dropped.pos
    rw [portEq, posEq, settle_sch, settle_ldr, ldr]
    refine ⟨empty, rfl, rfl, ?_, ?_, dropped.records⟩
    · exact (epochs.sch Scheduler.beatsLate fun _ => rfl).trans (congrArg Scheduler.beatsLate dropped.sch)
    · exact (epochs.sch Scheduler.misses fun _ => rfl).trans (congrArg Scheduler.misses dropped.sch)
  · intro s p i n run h running quiet may bound session there unserved
    have shadow : (s.pos p i).shadow = none := by
      simp only [State.mayPrepare, Bool.and_eq_true, Option.isNone_iff_eq_none] at may
      obtain ⟨⟨⟨⟨⟨-, shadow⟩, -⟩, -⟩, -⟩, -⟩ := may
      exact shadow
    let u := s.prepBegun.setPos p i { s.pos p i with shadow := some (s.prepCopied p i n) }
    have begun : s.beatPrepare p i run = u.prepPaused run := by
      rw [State.beatPrepare_begins run shadow may]
      exact congrArg (State.prepPaused · run) (State.prepFirst_cached (s := s.prepBegun) run _ bound there unserved)
    have calm : u.quiet := State.quiet_setPos (s := s.prepBegun) (quiet_congr quiet) (fun e => by cases congrArg Pos.shadow e) rfl
    have keeps : KeepsBut [.ports, .spc] s (u.prepPaused run) := keepsBut_of_restore (by cases s; rfl)
    refine runs_react (fun s => s.beatPrepare p i run) rfl running _ begun (quiet_congr calm) keeps ?_
    have at' : (settle s (u.prepPaused run)).pos p i = { s.pos p i with shadow := some (s.prepCopied p i n) } := by
      unfold State.pos State.port
      rw [settle_ports]
      exact (s.prepBegun.pos_setPos p i i _).trans (if_pos rfl)
    have page : (s.prepNew p i).page = recordPage n := by
      show (s.pos p i).page = _
      unfold Pos.page
      rw [bound]
    rw [at', settle_spc]
    refine ⟨⟨_, rfl, rfl, rfl, page, rfl, ?_, rfl⟩, rfl⟩
    show (match (s.pos p i).session with | none => 0 | some h => h.epoch) = _
    rw [session]
  · intro s p i l run b n running quiet shadow lane nonce free
    let u := s.setPos p i { s.pos p i with shadow := some (s.prepMac p i b n) }
    have calm : u.quiet := State.quiet_setPos quiet (fun e => by cases congrArg Pos.shadow e) rfl
    have keeps : KeepsBut [.ports, .spc] s (u.prepPaused run) := keepsBut_of_restore (by cases s; rfl)
    refine runs_react (fun s => s.beatPrepare p i run) rfl running (u.prepPaused run)
      (State.beatPrepare_resumes shadow lane nonce free) (quiet_congr calm) keeps ?_
    have at' : (settle s (u.prepPaused run)).pos p i = { s.pos p i with shadow := some (s.prepMac p i b n) } := by
      unfold State.pos State.port
      rw [settle_ports]
      exact (s.pos_setPos p i i _).trans (if_pos rfl)
    rw [at', settle_spc]
    exact ⟨rfl, rfl⟩
  · intro s p i run running quiet may lanes
    have idle : s.beatPrepare p i run = s := by
      unfold State.beatPrepare
      dsimp only
      rw [if_neg (by
        cases h : (s.pos p i).shadow with
        | none => exact Bool.false_ne_true
        | some b =>
          show ¬ b.lane.isSome = true
          rw [lanes b h]
          exact Bool.false_ne_true), may]
      rfl
    refine runs_react (fun s => s.beatPrepare p i run) rfl running s idle quiet (.refl _ s) ?_
    unfold State.pos
    rw [port_settle]
  · intro s c f a running mode first cls due
    have warms : s.classWarm c = { s with sch := { s.sch with warm := insertNew s.sch.warm c } } := by
      unfold State.classWarm
      rw [first, cls]
      exact if_pos ⟨mode, due⟩
    refine runs_clock (fun s => s.classWarm c) rfl running _ warms (s.withSch_keeps _) ?_
    rw [settle_sch]

end Sys2Proof.Machine
end

section
/-! PROOF. The Glaze session's requests: how one is heard, judged and answered (R437–R439). -/

namespace Sys2Proof.Machine

/-! ## A response on its way (R425, R427) -/

/-- Content on its way, the port left as `g` (R427). -/
def State.glzSent (s : State) (g : Glaze) (c : Bytes) : State :=
  (({ s with glz := g }).emit (.glzFrame (sirFrame c))).emit (.glzLed s.glz.rate (sirCells (sirFrame c)))

theorem State.glzSent_keeps (s : State) (g : Glaze) (c : Bytes) : KeepsBut [.glz, .out] s (s.glzSent g c) :=
  ((s.withGlz_keeps g).within.also (State.emit_keeps _ _)).also (State.emit_keeps _ _)

theorem State.glzSent_frame (s : State) (g : Glaze) (c : Bytes) : .glzFrame (sirFrame c) ∈ (s.glzSent g c).out := by
  simp [glzSent]

theorem State.glzSent_led (s : State) (g : Glaze) (c : Bytes) :
    .glzLed s.glz.rate (sirCells (sirFrame c)) ∈ (s.glzSent g c).out := by
  simp [glzSent]

/-- Outside the hush content is sent at once. -/
theorem State.glzSend_now {s : State} (hush : s.glz.hushEnd = none) (c : Bytes) (next : Option Nat) :
    s.glzSend c next = s.glzSent { s.glz with sending := true, nextRate := next } c := by
  unfold glzSend
  exact if_neg (by rw [hush]; decide)

/-! ## A request that is heard -/

/-- The session once its next request has been taken (R437). -/
def State.glzServing (s : State) (x : GlzSession) : GlzSession :=
  { x with drops := 0, lastAt := s.tick, lastSeq := x.lastSeq + 1 }

/-- The port in a request, its session `y`. -/
def State.glzTaking (s : State) (y : GlzSession) : State :=
  { s with glz := { s.glz with framesOk := satInc s.glz.framesOk, session := some y } }

theorem State.GlzAsks.stalled {s : State} {f : GlzFrame} {x : GlzSession} (asks : s.GlzAsks f x) : s.glz.stalled = none :=
  asks.quiet.2.2.2.2.2.2

/-- The next request of a session reaches its service. -/
theorem State.GlzAsks.request {s : State} {f : GlzFrame} {x : GlzSession} (asks : s.GlzAsks f x) (typ : Byte)
    (right : Option Nat) (run : GlzSession → State → State × Option (Status × Bytes)) :
    s.glzRequest f typ right run
      = if !x.may right then (s.glzTaking (s.glzServing x)).glzRespond typ .notPermitted []
        else match (run (s.glzServing x) (s.glzTaking (s.glzServing x))).2 with
          | none => (run (s.glzServing x) (s.glzTaking (s.glzServing x))).1
          | some a => (run (s.glzServing x) (s.glzTaking (s.glzServing x))).1.glzRespond typ a.1 a.2 := by
  have room := asks.room
  have right' : (!f.tagOk || f.seq == 0 || decide (65536 ≤ f.seq) || !(f.seq == x.lastSeq || f.seq == x.lastSeq + 1))
      = false := by
    rw [asks.tag, asks.next]
    simp
    omega
  have fresh : ¬ f.seq = x.lastSeq := by rw [asks.next]; omega
  unfold glzRequest
  rw [if_neg (by rw [asks.hears]; decide)]
  dsimp only
  rw [show s.glzDelivered.glz.session = some x from asks.session]
  dsimp only
  rw [if_neg (by rw [show s.glzDelivered.glz.commit = none from asks.free,
    show s.glzDelivered.glz.stalled = none from asks.stalled]; decide), if_neg (by rw [right']; decide), if_neg fresh, asks.next]
  rfl

/-- A response to the request that was taken, its session as `y` but for what is stored. -/
theorem State.glzRespond_taking {s : State} (hush : s.glz.hushEnd = none) (y : GlzSession) (typ : Byte) (st : Status)
    (data : Bytes) :
    (s.glzTaking y).glzRespond typ st data = s.glzSent
      (s.glzSending { y with stored := glzContent y.kbl (typ ||| 0x80) y.lastSeq (leBytes 2 st.code ++ data) })
      (glzContent y.kbl (typ ||| 0x80) y.lastSeq (leBytes 2 st.code ++ data)) :=
  glzSend_now (s := { s.glzTaking y with glz := { (s.glzTaking y).glz with session := _ } }) hush _ none

/-- A request that its service answers, the session's staged items then `l`. -/
theorem State.GlzAsks.answers {s : State} {f : GlzFrame} {x : GlzSession} (asks : s.GlzAsks f x) {typ : Byte}
    {right : Option Nat} {run : GlzSession → State → State × Option (Status × Bytes)} {st : Status} {data : Bytes}
    {l : List GlzItem} (permitted : x.may right = true)
    (serves : run (s.glzServing x) (s.glzTaking (s.glzServing x))
      = (s.glzTaking { s.glzServing x with staged := l }, some (st, data))) :
    s.glzRequest f typ right run
      = s.glzSent (s.glzSending { s.glzReplied x typ st data with staged := l }) (x.reply typ st data) := by
  rw [asks.request, if_neg (by rw [permitted]; decide), serves]
  exact glzRespond_taking asks.noHush _ typ st data

/-- A request without its right. -/
theorem State.GlzAsks.refuses {s : State} {f : GlzFrame} {x : GlzSession} (asks : s.GlzAsks f x) (typ : Byte)
    {right : Option Nat} (run : GlzSession → State → State × Option (Status × Bytes)) (forbidden : x.may right = false) :
    s.glzRequest f typ right run
      = s.glzSent (s.glzSending (s.glzReplied x typ .notPermitted [])) (x.reply typ .notPermitted []) := by
  rw [asks.request, if_pos (by rw [forbidden]; rfl)]
  exact glzRespond_taking asks.noHush _ typ .notPermitted []

/-- A command whose request is answered, its session then `y`. -/
theorem State.GlzAsks.runs {s : State} {f : GlzFrame} {x : GlzSession} (asks : s.GlzAsks f x) {c : Instr} {y : GlzSession}
    {w : Bytes} (g : State → State) (hx : exec c s = reacting s g) (eq : g s = s.glzSent (s.glzSending y) w) :
    Runs c s [.glz, .out] fun t => .glzFrame (sirFrame w) ∈ t.out ∧ t.glz = s.glzSending y := by
  refine runs_react g hx asks.running _ eq (quiet_congr asks.quiet) (s.glzSent_keeps _ w)
    ⟨mem_settle_out (s.glzSent_frame _ w), ?_⟩
  rw [settle_glz]
  rfl

/-! ## READ (R439) -/

theorem State.readable_below {s : State} {a : Nat} (h : a < 256 * s.ldr.capacity) : s.readable a = true := by
  unfold readable
  rw [decide_eq_true h]
  rfl

/-- A READ inside the records whose pages are in the cache. -/
theorem State.glzReadRun_cached {s : State} {off len : Nat} (chk : PageCheck) (isOpen : s.ldr.isOpen = true) (low : 4 ≤ len)
    (high : len ≤ 256) (words : len % 4 = 0) (inside : off + len ≤ 256 * s.ldr.capacity)
    (cached : ∀ p ∈ windowPages off len, s.cached p = true) :
    s.glzReadRun off len chk = (s, .ok, (List.range len).map fun i => s.windowByte (off + i)) := by
  have all : ((List.range len).any fun i => !s.readable (off + i)) = false := by
    rw [List.any_eq_false]
    intro i hi
    have below : off + i < 256 * s.ldr.capacity := by have := List.mem_range.1 hi; omega
    rw [readable_below below]
    decide
  unfold glzReadRun
  rw [if_neg (by omega), if_neg (by rw [isOpen]; decide), if_neg (by rw [readable_below (by omega)]; decide),
    if_neg (by rw [all]; decide), bypass_cached cached]
  rfl

/-- Settles O38: each request is served in the port's state as it took it, and its answer is sent. -/
theorem glazeRequests : Obligations.GlazeRequests := by
  unfold Obligations.GlazeRequests
  refine ⟨?_, ?_, ?_, ?_, ?_, ?_⟩
  · intro s f x off len chk asks permitted isOpen low high words inside cached
    let v := s.glzTaking (s.glzServing x)
    have served : v.glzReadRun off len chk = (v, .ok, (List.range len).map fun i => s.windowByte (off + i)) :=
      State.glzReadRun_cached (s := v) chk isOpen low high words inside cached
    exact asks.runs (fun s => s.glzRequest f 0x10 (some 0) fun _ s => answered (s.glzReadRun off len chk)) rfl
      (asks.answers (l := x.staged) permitted (congrArg answered served))
  · intro s f x c r asks permitted attests
    refine asks.runs (fun s => s.glzRequest f 0x11 (some 3) fun _ s => match s.attest (beBytes 32 c.toNat) with
      | none => (s, some (.notPermitted, []))
      | some r => (s, some (.ok, r))) rfl (asks.answers (l := x.staged) permitted ?_)
    dsimp only
    rw [show (s.glzTaking (s.glzServing x)).attest (beBytes 32 c.toNat) = some r from attests]
    rfl
  · intro s f x k asks permitted inside
    exact asks.runs (fun s => s.glzRequest f 0x12 (some 3) fun _ s =>
      if 4 ≤ k then (s, some (.badDescriptor, [])) else (s, some (.ok, slice s.certWindow (256 * k) 256))) rfl
      (asks.answers (l := x.staged) permitted (if_neg (by omega)))
  · intro s f x asks
    exact asks.runs (fun s => s.glzRequest f 0x23 none fun x s =>
      ({ s with glz := { s.glz with session := some { x with staged := [] } } }, some (.ok, []))) rfl
      (asks.answers (l := []) rfl rfl)
  · intro s f x asks waiting hand
    have heard := State.glzHears_iff.1 asks.hears
    obtain ⟨on, -, -⟩ := heard
    have answer := asks.answers (typ := 0x2F) (right := none) (run := fun _ s => (s, some (.ok, []))) (l := x.staged) rfl rfl
    let u := s.glzSent (s.glzSending (s.glzReplied x 0x2F .ok [])) (x.reply 0x2F .ok [])
    have closes : s.glzCloseRequest f = u.glzEnd := by
      unfold State.glzCloseRequest
      dsimp only
      rw [answer, asks.session]
      exact if_neg (show ¬ x.lastSeq + 1 = x.lastSeq by omega)
    have ended : u.glzEnd = { u with glz := { u.glz with
        session := none, close := false, stalled := none, waiting := none, nextRate := some 0, state := 1 } } := by
      unfold State.glzEnd State.glzFix
      dsimp only
      rw [show u.glz.sending = true from rfl, if_pos rfl, show u.glz.waiting = none from waiting]
      dsimp only
      rw [if_neg (show ¬ u.glz.state = 0 from on), show u.glz.commit = none from asks.free, show u.glz.hand = none from hand]
      rfl
    refine runs_react (fun s => s.glzCloseRequest f) rfl asks.running _ (closes.trans ended)
      (quiet_congr asks.quiet (stalled := asks.stalled.symm)) ((s.glzSent_keeps _ _).trans ((u.withGlz_keeps _).mono (by decide)))
      ⟨mem_settle_out (s.glzSent_frame _ _), ?_⟩
    rw [settle_glz]
    exact ⟨rfl, rfl, rfl⟩
  · intro s f x off len chk asks forbidden
    exact asks.runs (fun s => s.glzRequest f 0x10 (some 0) fun _ s => answered (s.glzReadRun off len chk)) rfl
      (asks.refuses 0x10 _ forbidden)

end Sys2Proof.Machine
end

section
/-! PROOF. The Glaze handshake: HELLO and its reply, PROVE, and what ends a handshake (R435, R436). -/

namespace Sys2Proof.Machine

/-! ## HELLO -/

/-- The port once a HELLO has been heard. -/
def State.glzHeard (s : State) : Glaze := { s.glz with framesOk := satInc s.glz.framesOk, lastHello := some s.tick }

/-- What a HELLO that has been heard is judged by, in order (R435). -/
def State.helloJudged (s : State) (body : Bytes) : State :=
  if s.mode = .quarantine then s.glzRefuse .quarantined
  else if !s.engineActive eccUnits 0 then s.glzRefuse .retryLater
  else if !s.helloOk body then s.glzAuthFail.glzRefuse .notPermitted
  else (({ s with glz := { s.glz with hand := some { body := body, reply := none, bnonce := 0, priv := 0 } } }).glzFix).glzAnswer

/-- A HELLO of a length that a frame can have, with no COMMIT and no handshake just before it, is judged. -/
theorem State.glzHello_heard {s : State} {body : Bytes} (hears : s.glzHears = true) (short : body.length ≤ 317)
    (commit : s.glz.commit = none) (soon : s.glzSoon = false) :
    s.glzHello body = ({ s with glz := s.glzHeard } : State).helloJudged body := by
  have free : ¬ (s.glzDelivered.glz.commit.isSome || s.glzDelivered.glzSoon) = true := by
    rw [show s.glzDelivered.glz.commit = none from commit, show s.glzDelivered.glzSoon = false from soon]
    decide
  unfold glzHello
  rw [if_neg (by rw [hears]; decide), if_neg (by omega)]
  dsimp only
  rw [if_neg free]
  rfl

/-- STATE outside a COMMIT (R445). -/
theorem State.glzFix_idle {s : State} (on : s.glz.state ≠ 0) (commit : s.glz.commit = none) :
    s.glzFix = { s with glz := { s.glz with
      state := if s.glz.hand.isSome then 2 else if s.glz.session.isSome then 3 else 1 } } := by
  unfold glzFix
  rw [if_neg on, commit]
  rfl

/-- A port with another handshake that has its reply, or none, waits for nothing more than before. -/
theorem State.quiet_glz {s : State} {g : Glaze} (quiet : s.quiet) (hand : ∀ h, g.hand = some h → h.reply.isSome = true)
    (commit : g.commit = s.glz.commit) (stalled : g.stalled = s.glz.stalled) : ({ s with glz := g } : State).quiet := by
  obtain ⟨ops, cnt, ports, -, commits, windows, stalls⟩ := quiet
  exact ⟨ops, cnt, ports, hand, fun c h => commits c (commit.symm.trans h), windows, stalled.trans stalls⟩

theorem State.helloOk_length {s : State} {body : Bytes} (ok : s.helloOk body = true) : body.length = 305 := by
  unfold helloOk at ok
  simp only [Bool.and_eq_true, beq_iff_eq] at ok
  obtain ⟨⟨⟨⟨⟨⟨⟨⟨length, -⟩, -⟩, -⟩, -⟩, -⟩, -⟩, -⟩, -⟩ := ok
  exact length

/-- The port that refuses a HELLO. -/
def Glaze.refused (g : Glaze) : Glaze := { g with
  hand := none
  state := if g.state = 0 then 0 else if g.commit.isSome then 4 else if g.session.isSome then 3 else 1 }

/-- The content of a HELLO_REPLY that refuses. -/
def helloRefusal (st : Status) : Bytes := [Config.glzReplyType, 0, 0] ++ leBytes 2 st.code ++ List.replicate 161 0

theorem State.glzRefuse_now {s : State} (hush : s.glz.hushEnd = none) (st : Status) :
    s.glzRefuse st = s.glzSent { s.glz.refused with sending := true, nextRate := none } (helloRefusal st) :=
  glzSend_now (s := { s with glz := s.glz.refused }) hush (helloRefusal st) none

/-- The octets drawn do not depend on the port. -/
theorem State.draw_glz {s u : State} {n : Nat} {bs : Bytes} (drawn : s.draw n = some (bs, u)) (g : Glaze) :
    ({ s with glz := g } : State).draw n = some (bs, { s with glz := g, prf := u.prf }) := by
  unfold draw at drawn ⊢
  rw [show ({ s with glz := g } : State).server 1 = s.server 1 from rfl]
  split at drawn
  · cases drawn
  · rename_i i _
    unfold drawFrom at drawn ⊢
    dsimp only at drawn ⊢
    rw [show ({ s with glz := g } : State).inst i = s.inst i from rfl]
    split at drawn
    · rename_i enough
      simp only [Option.some.injEq, Prod.mk.injEq] at drawn
      obtain ⟨rfl, rfl⟩ := drawn
      rw [if_pos enough]
      rfl
    · cases drawn

/-- The handshake once its reply is formed. -/
def State.handReplied (s : State) (body bs : Bytes) : GlzHand :=
  { body := body, reply := some (s.helloReply body bs), bnonce := BitVec.ofNat 128 (beNat (bs.take 16))
    priv := BitVec.ofNat 256 (beNat (bs.drop 16)) }

/-- The port once a right HELLO has been answered. -/
def State.helloAnswered (s : State) (body bs : Bytes) : Glaze := { s.glzHeard with
  state := 2, sending := true, nextRate := none, hand := some (s.handReplied body bs) }

/-- The content of the HELLO_REPLY that opens a handshake. -/
def State.helloContent (s : State) (body bs : Bytes) : Bytes := [Config.glzReplyType, 0, 0] ++ s.helloReply body bs

theorem State.helloJudged_right {s : State} {v : Vector Prf 4} {body bs : Bytes} (on : s.glz.state ≠ 0)
    (commit : s.glz.commit = none) (hush : s.glz.hushEnd = none) (mode : s.mode ≠ .quarantine)
    (engine : s.engineActive eccUnits 0 = true) (ok : s.helloOk body = true)
    (drawn : ∀ g, ({ s with glz := g } : State).draw 48 = some (bs, { s with glz := g, prf := v })) :
    s.helloJudged body = ({ s with prf := v } : State).glzSent
      { s.glz with state := 2, sending := true, nextRate := none, hand := some (s.handReplied body bs) }
      (s.helloContent body bs) := by
  let g : Glaze := { s.glz with state := 2, hand := some { body := body, reply := none, bnonce := 0, priv := 0 } }
  have fixed : ({ s with glz := { s.glz with hand := g.hand } } : State).glzFix = { s with glz := g } :=
    glzFix_idle (s := { s with glz := { s.glz with hand := g.hand } }) on commit
  have answers : ({ s with glz := g } : State).glzAnswer
      = ({ s with glz := { g with hand := some (s.handReplied body bs) }, prf := v } : State).glzSend
        (s.helloContent body bs) none := by
    unfold glzAnswer
    rw [show ({ s with glz := g } : State).glz.hand = some { body := body, reply := none, bnonce := 0, priv := 0 } from rfl]
    dsimp only
    rw [if_neg (by decide), drawn g]
    rfl
  unfold helloJudged
  rw [if_neg mode, if_neg (by rw [engine]; decide), if_neg (by rw [ok]; decide)]
  exact (congrArg State.glzAnswer fixed).trans (answers.trans
    (glzSend_now (s := { s with glz := { g with hand := some (s.handReplied body bs) }, prf := v }) hush _ none))

theorem State.glzHello_right {s u : State} {body bs : Bytes} (hears : s.glzHears = true) (commit : s.glz.commit = none)
    (hush : s.glz.hushEnd = none) (soon : s.glzSoon = false) (mode : s.mode ≠ .quarantine)
    (engine : s.engineActive eccUnits 0 = true) (ok : s.helloOk body = true) (drawn : s.draw 48 = some (bs, u)) :
    s.glzHello body = ({ s with prf := u.prf }).glzSent (s.helloAnswered body bs) (s.helloContent body bs) := by
  have length := helloOk_length ok
  rw [glzHello_heard hears (by omega) commit soon]
  exact helloJudged_right (s := { s with glz := s.glzHeard }) (v := u.prf) (glzHears_iff.1 hears).1 commit hush mode engine
    ok fun g => State.draw_glz drawn g

theorem State.helloJudged_wrong {s : State} {body : Bytes} (hush : s.glz.hushEnd = none)
    (wrong : s.mode = .quarantine ∨ s.engineActive eccUnits 0 = true ∧ s.helloOk body = false) :
    s.helloJudged body = s.glzSent { s.glz.refused with
        sending := true, nextRate := none
        authFails := if s.mode = .quarantine then s.glz.authFails else satInc s.glz.authFails }
      (helloRefusal (if s.mode = .quarantine then .quarantined else .notPermitted)) := by
  unfold helloJudged
  by_cases mode : s.mode = .quarantine
  · simp only [if_pos mode]
    exact glzRefuse_now hush .quarantined
  · obtain ⟨engine, bad⟩ := wrong.resolve_left mode
    rw [if_neg mode, if_neg mode, if_neg mode, if_neg (by rw [engine]; decide), if_pos (by rw [bad]; decide)]
    exact glzRefuse_now (s := s.glzAuthFail) hush .notPermitted

/-! ## PROVE and its timeout -/

/-- The session that a right PROVE opens. -/
def State.provenSession (s : State) (h : GlzHand) : GlzSession :=
  { loaderId := helloLoader h.body, rights := helloRights h.body, klb := (s.glzKeys h >>> 128).truncate 128
    kbl := (s.glzKeys h).truncate 128, rate := s.glzRate h.body, lastSeq := 0, stored := [], drops := 0, lastAt := s.tick
    staged := [] }

/-- The port whose handshake has opened its session. -/
def State.glzOpened (s : State) (h : GlzHand) : Glaze := { s.glz with
  framesOk := satInc s.glz.framesOk, hand := none, state := 3, close := false, sending := true
  nextRate := some (s.glzRate h.body), session := some (s.provenSession h) }

/-- A PROVE of a handshake that has its reply, outside a COMMIT, is judged by its signature. -/
theorem State.glzProve_heard {s : State} {h : GlzHand} (sigL : Bytes) (hears : s.glzHears = true)
    (hand : s.glz.hand = some h) (replied : h.reply.isSome = true) (commit : s.glz.commit = none) :
    s.glzProve sigL = if !h.proven sigL then
        (({ s with glz := { s.glz with framesOk := satInc s.glz.framesOk, hand := none } } : State).glzAuthFail).glzFix
      else (({ s with glz := { s.glz with
          framesOk := satInc s.glz.framesOk, hand := none, close := false, stalled := none
          session := some (s.provenSession h) } } : State).glzFix).glzSend
        (glzContent ((s.glzKeys h).truncate 128) 0x04 0 []) (some (s.glzRate h.body)) := by
  have free : ¬ (h.reply.isNone || s.glzDelivered.glz.commit.isSome) = true := by
    rw [show s.glzDelivered.glz.commit = none from commit]
    cases hr : h.reply with
    | none => rw [hr] at replied; cases replied
    | some r => exact Bool.false_ne_true
  unfold glzProve
  rw [if_neg (by rw [hears]; decide)]
  dsimp only
  rw [show s.glzDelivered.glz.hand = some h from hand]
  dsimp only
  rw [if_neg free]
  rfl

theorem State.glzProve_right {s : State} {h : GlzHand} {sigL : Bytes} (hears : s.glzHears = true)
    (hand : s.glz.hand = some h) (replied : h.reply.isSome = true) (commit : s.glz.commit = none)
    (hush : s.glz.hushEnd = none) (stalled : s.glz.stalled = none) (proven : h.proven sigL = true) :
    s.glzProve sigL = s.glzSent (s.glzOpened h) (glzContent ((s.glzKeys h).truncate 128) 0x04 0 []) := by
  let g : Glaze := { s.glz with
    framesOk := satInc s.glz.framesOk, hand := none, close := false, stalled := none, session := some (s.provenSession h) }
  have fixed : ({ s with glz := g } : State).glzFix = { s with glz := { g with state := 3 } } :=
    glzFix_idle (s := { s with glz := g }) (glzHears_iff.1 hears).1 commit
  have opened : { g with state := 3, sending := true, nextRate := some (s.glzRate h.body) } = s.glzOpened h := by
    simp only [g, glzOpened, stalled]
  rw [glzProve_heard sigL hears hand replied commit, if_neg (by rw [proven]; decide)]
  show State.glzSend (({ s with glz := g } : State).glzFix) _ _ = _
  rw [fixed, glzSend_now (s := { s with glz := { g with state := 3 } }) hush, ← opened]
  rfl

/-- The port whose handshake has failed, its count of frames `n`. -/
def Glaze.handFailed (g : Glaze) (n : Word) : Glaze := { g with
  framesOk := n, hand := none, authFails := satInc g.authFails, state := if g.session.isSome then 3 else 1 }

theorem State.glzFail_fixed {s : State} {n : Word} (on : s.glz.state ≠ 0) (commit : s.glz.commit = none) :
    (({ s with glz := { s.glz with framesOk := n, hand := none } }).glzAuthFail).glzFix
      = { s with glz := s.glz.handFailed n } :=
  glzFix_idle (s := ({ s with glz := { s.glz with framesOk := n, hand := none } } : State).glzAuthFail) on commit

theorem State.glzProve_wrong {s : State} {h : GlzHand} {sigL : Bytes} (hears : s.glzHears = true)
    (hand : s.glz.hand = some h) (replied : h.reply.isSome = true) (commit : s.glz.commit = none)
    (wrong : h.proven sigL = false) : s.glzProve sigL = { s with glz := s.glz.handFailed (satInc s.glz.framesOk) } := by
  rw [glzProve_heard sigL hears hand replied commit, if_pos (by rw [wrong]; rfl)]
  exact glzFail_fixed (glzHears_iff.1 hears).1 commit

theorem State.glzProveTimeout_waits {s : State} {h : GlzHand} (hand : s.glz.hand = some h) (replied : h.reply.isSome = true)
    (on : s.glz.state ≠ 0) (commit : s.glz.commit = none) :
    s.glzProveTimeout = { s with glz := s.glz.handFailed s.glz.framesOk } := by
  unfold glzProveTimeout
  rw [hand]
  dsimp only
  rw [if_pos replied]
  exact glzFail_fixed on commit

/-- Settles O37: each step of the handshake leaves the port as named above, and what it sends is on its way. -/
theorem glazeHandshake : Obligations.GlazeHandshake := by
  unfold Obligations.GlazeHandshake
  refine ⟨?_, ?_, ?_, ?_, ?_⟩
  · intro s u body bs running quiet hears commit hush soon mode engine ok drawn
    have answers := State.glzHello_right hears commit hush soon mode engine ok drawn
    have calm : ({ s with glz := s.helloAnswered body bs } : State).quiet := State.quiet_glz quiet
      (fun h hand => by obtain rfl := Option.some.inj hand; rfl) rfl rfl
    have prf : KeepsBut [.prf] s { s with prf := u.prf } := keepsBut_of_restore (by cases s; rfl)
    refine runs_react (fun s => s.glzHello body) rfl running _ answers (quiet_congr calm)
      ((prf.mono (by decide)).trans ((State.glzSent_keeps _ _ _).mono (by decide)))
      ⟨?_, mem_settle_out (State.glzSent_frame _ _ _), mem_settle_out (State.glzSent_led _ _ _), ?_⟩
    · rw [settle_glz]
      rfl
    · rw [settle_prf]
      rfl
  · intro s body running quiet hears commit hush soon wrong short
    have answers := (State.glzHello_heard hears short commit soon).trans
      (State.helloJudged_wrong (s := { s with glz := s.glzHeard }) hush wrong)
    have calm : ({ s with glz := s.glzHeard.refused } : State).quiet := State.quiet_glz quiet nofun rfl rfl
    refine runs_react (fun s => s.glzHello body) rfl running _ answers (quiet_congr calm)
      ((s.withGlz_keeps _).within.trans (State.glzSent_keeps _ _ _)) ⟨mem_settle_out (State.glzSent_frame _ _ _), ?_⟩
    rw [settle_glz]
    exact ⟨rfl, rfl, rfl⟩
  · intro s h sigL running quiet hears hand commit hush proven
    obtain ⟨-, -, -, hands, -, -, stalled⟩ := id quiet
    have opens := State.glzProve_right hears hand (hands h hand) commit hush stalled proven
    have calm : ({ s with glz := s.glzOpened h } : State).quiet := State.quiet_glz quiet nofun rfl rfl
    refine runs_react (fun s => s.glzProve sigL) rfl running _ opens (quiet_congr calm) (State.glzSent_keeps _ _ _)
      ⟨?_, mem_settle_out (State.glzSent_frame _ _ _)⟩
    rw [settle_glz]
    rfl
  · intro s h sigL c running quiet hand on commit which
    obtain ⟨-, -, -, hands, -, -, -⟩ := id quiet
    have fails (n : Word) {f : State → State} (hx : exec c s = reacting s f) (eq : f s = { s with glz := s.glz.handFailed n }) :
        Runs c s [.glz] fun t => t.glz.hand = none ∧ t.glz.authFails = satInc s.glz.authFails
          ∧ t.glz.session = s.glz.session ∧ t.glz.state = if s.glz.session.isSome then 3 else 1 := by
      refine runs_react f hx running _ eq (State.quiet_glz quiet nofun rfl rfl) (s.withGlz_keeps _) ?_
      rw [settle_glz]
      exact ⟨rfl, rfl, rfl, rfl⟩
    rcases which with rfl | ⟨hears, wrong, rfl⟩
    · exact fails _ (f := State.glzProveTimeout) rfl (State.glzProveTimeout_waits hand (hands h hand) on commit)
    · exact fails _ (f := fun s => s.glzProve sigL) rfl (State.glzProve_wrong hears hand (hands h hand) commit wrong)
  · intro s h running quiet hand waits hush
    have starves : s.glzStarved
        = s.glzSent { s.glz.refused with sending := true, nextRate := none } (helloRefusal .entropyStarved) := by
      unfold State.glzStarved
      rw [hand]
      dsimp only
      rw [if_pos (by rw [waits]; rfl)]
      exact State.glzRefuse_now hush .entropyStarved
    refine runs_react State.glzStarved rfl running _ starves (quiet_congr quiet) (State.glzSent_keeps _ _ _)
      ⟨?_, mem_settle_out (State.glzSent_frame _ _ _)⟩
    rw [settle_glz]
    rfl

end Sys2Proof.Machine
end

section
/-! PROOF. What a Glaze session stages, and the COMMIT of a label (R441, R442). -/

namespace Sys2Proof.Machine

/-! ## Staging -/

/-- A page that is in the cache and sound is reached at once. -/
theorem State.reachPage_there {s : State} {page : Nat} (there : s.pageThere page) (chk : PageCheck) :
    s.reachPage page chk = (s, .ready) := by
  obtain ⟨cached, sound⟩ := there
  unfold reachPage
  rw [if_neg (by rw [sound]; decide), if_pos cached]

theorem State.stageLabel_bound {s : State} {x : GlzSession} {n : Nat} {l : Bytes} (chk : PageCheck) (room : x.staged.length < 8)
    (inside : n < s.ldr.capacity) (there : s.pageThere (recordPage n)) (bound : (s.record n).state = 1) (length : l.length = 32) :
    s.stageLabel x n l chk = (s.stageItem x (.label n (BitVec.ofNat 256 (beNat l))), some .ok) := by
  unfold stageLabel
  rw [if_neg (by omega), if_neg (by omega), reachPage_there there]
  dsimp only
  rw [if_neg (by omega)]

/-- The token that a block of 192 octets carries, for record `n`. -/
def tokenItem (n : Nat) (k : Bytes) : GlzItem :=
  .token n (BitVec.ofNat 128 (beAt k 0x18 16)) (BitVec.ofNat 32 (leAt k 0x28 4)) (leAt k 0x2C 6) (leAt k 0x32 6)

theorem State.stageToken_first {s : State} {x : GlzSession} {n : Nat} {k : Bytes} (chk : PageCheck) (first : x.staged = [])
    (length : k.length = 192) (ok : s.tokenOk k = true) (there : s.pageThere (indexPageOf (BitVec.ofNat 128 (beAt k 0x18 16))))
    (found : s.indexFind (BitVec.ofNat 128 (beAt k 0x18 16)) = some n) (bound : (s.record n).state = 1)
    (raises : s.tokenRaise n = true) : s.stageToken x k chk = (s.stageItem x (tokenItem n k), some .ok) := by
  have few : ¬ (8 ≤ x.staged.length ∨ s.tokenOk k = false) := by
    rw [first, ok]
    simp
  unfold stageToken
  dsimp only
  rw [if_neg (by omega), if_neg few, reachPage_there there]
  dsimp only
  rw [found]
  dsimp only
  rw [if_neg (by rw [bound, raises, first]; simp)]
  rfl

/-! ## The COMMIT of a label (R442) -/

/-- With nothing else that waits, a command's end only advances the COMMIT. -/
theorem State.react_advances {u t : State} (calm : ({ u with glz := { u.glz with commit := none } } : State).quiet)
    (advances : u.glzAdvance = t) (quiet : t.quiet) : u.react = t := by
  obtain ⟨ops, ⟨arrivals, commits⟩, ports, hand, -, windows, stalled⟩ := calm
  have answers : u.glzAnswer = u := by
    unfold glzAnswer
    split
    · rfl
    · rename_i h
      exact if_pos (hand _ h)
  have rests := react_quiet quiet
  obtain ⟨-, ⟨arrivals', commits'⟩, ports', -, -, windows', stalled'⟩ := quiet
  have passes : t.commitPass = t := commitPass_quiet arrivals' commits'
  have serves : t.serveStalled = t := by
    unfold serveStalled
    rw [windows']
    rfl
  have resumes : t.glzResume = t := by
    unfold glzResume
    rw [stalled']
  unfold react
  rw [engineKick_quiet (s := u) ports ops, sweepOps_quiet (s := u) ops, prepareAll_quiet (s := u) ports, answers]
  dsimp only
  rw [commitPass_quiet (s := u) arrivals commits, advances, passes, passes, serves, resumes, ctxWaiters_quiet ports']
  rfl

/-- A port with another COMMIT that waits for nothing it could go on with. -/
theorem State.quiet_commit {s : State} {g : Glaze} (quiet : s.quiet) (hand : g.hand = s.glz.hand)
    (commit : ∀ c, g.commit = some c → (c.labelsIn || c.lockEnded || !c.tokensDone) = true)
    (stalled : g.stalled = s.glz.stalled) : ({ s with glz := g } : State).quiet := by
  obtain ⟨ops, cnt, ports, hands, -, windows, stalls⟩ := quiet
  exact ⟨ops, cnt, ports, fun h k => hands h (hand.symm.trans k), commit, windows, stalled.trans stalls⟩

/-- A COMMIT of one label. -/
def labelCommit (seq n : Nat) (l : BitVec 256) (labelsIn : Bool) : GlzCommit :=
  { seq := seq, items := [.label n l], statuses := [none], labelsIn := labelsIn, lockEnded := false }

theorem labelCommit_labels (seq n : Nat) (l : BitVec 256) (b : Bool) : (labelCommit seq n l b).labels = [(0, n, l)] := rfl

/-- The COMMIT of one label has begun: its record is locked. -/
def State.labelLocked (s : State) (seq n : Nat) (l : BitVec 256) : State := { s with
  ldr := { s.ldr with locked := [n], lockAt := s.tick, lockOld := tabSet recordFree [] n (s.record n) }
  glz := { s.glz with state := 4, commit := some (labelCommit seq n l false) } }

/-- STATE in a COMMIT (R445). -/
theorem State.glzFix_commit {s : State} {c : GlzCommit} (on : s.glz.state ≠ 0) (commit : s.glz.commit = some c) :
    s.glzFix = { s with glz := { s.glz with state := 4 } } := by
  unfold glzFix
  rw [if_neg on, commit]
  rfl

theorem State.glzCommitRun_label {s : State} {x : GlzSession} {n : Nat} {l : BitVec 256} (on : s.glz.state ≠ 0)
    (early : s.spw.early = false) (staged : x.staged = [.label n l]) :
    s.glzCommitRun x = (s.labelLocked x.lastSeq n l, none) := by
  unfold glzCommitRun
  rw [if_neg (by rw [early]; decide), staged, if_neg (by simp)]
  exact congrArg (·, none) (glzFix_commit on rfl)

theorem State.glzCommitRun_none {s : State} {x : GlzSession} (early : s.spw.early = false) (none : x.staged = []) :
    s.glzCommitRun x = (s, some (.ok, [0])) := by
  unfold glzCommitRun
  rw [if_neg (by rw [early]; decide), if_pos none]

/-- The label's page is pinned, and the labels are about to be written. -/
def State.labelPinned (s : State) (seq n : Nat) (l : BitVec 256) : State :=
  { s.pin (recordPage n) glzCtx with glz := { s.glz with commit := some (labelCommit seq n l true) } }

/-- The COMMIT asks for a round. -/
def State.glzRound (s : State) : State :=
  { s.unpin glzCtx with ldr := { (s.unpin glzCtx).ldr with needs := s.ldr.needs ++ [Need.glaze] } }

theorem State.writeLabel_sound {s : State} {n : Nat} (sound : s.poisoned (recordPage n) = false) (k : Nat) (l : BitVec 256) :
    s.writeLabel k n l = s.putRecord n { s.record n with label := l } := by
  unfold writeLabel
  exact if_neg (by rw [sound]; decide)

theorem State.glzAdvance_label {s : State} {seq n : Nat} {l : BitVec 256} (there : s.pageThere (recordPage n))
    (commit : s.glz.commit = some (labelCommit seq n l false)) :
    s.glzAdvance = ((s.labelPinned seq n l).putRecord n { s.record n with label := l }).glzRound := by
  have waits : ¬ ((labelCommit seq n l false).labelsIn || (labelCommit seq n l false).lockEnded
      || !(labelCommit seq n l false).tokensDone) = true := Bool.false_ne_true
  unfold glzAdvance
  rw [commit]
  dsimp only
  rw [if_neg waits, labelCommit_labels, List.foldl_cons, List.foldl_nil, needPage_there there]
  dsimp only
  rw [if_neg (by decide), List.foldl_cons, List.foldl_nil]
  exact congrArg State.glzRound (State.writeLabel_sound (s := s.labelPinned seq n l) there.2 0 l)

/-- The write changes the Larder alone: neither its locks nor what is stalled. -/
theorem State.labelPinned_put (s : State) (seq n : Nat) (l : BitVec 256) (r : Record) :
    ∃ y, (s.labelPinned seq n l).putRecord n r
        = { s with glz := { s.glz with commit := some (labelCommit seq n l true) }, ldr := y }
      ∧ y.locked = s.ldr.locked ∧ y.stalled = s.ldr.stalled := by
  have paged := State.putRecord_paged (s.labelPinned seq n l) n r
  generalize (s.labelPinned seq n l).putRecord n r = q at paged
  exact ⟨q.ldr, paged.eq, (congrArg Larder.locked paged.pageless :), (congrArg Larder.stalled paged.pageless :)⟩

/-- The port and the Larder once a COMMIT has written its label. -/
def State.labelled (s : State) (x : GlzSession) (n : Nat) (l : BitVec 256) (y : Larder) : State := { s with
  glz := { s.glz with
    framesOk := satInc s.glz.framesOk, session := some (s.glzServing x), state := 4
    commit := some (labelCommit (x.lastSeq + 1) n l true) }
  ldr := y }

/-- A request whose service gives no answer yet. -/
theorem State.GlzAsks.begins {s u : State} {f : GlzFrame} {x : GlzSession} (asks : s.GlzAsks f x) {typ : Byte}
    {right : Option Nat} {run : GlzSession → State → State × Option (Status × Bytes)} (permitted : x.may right = true)
    (serves : run (s.glzServing x) (s.glzTaking (s.glzServing x)) = (u, none)) : s.glzRequest f typ right run = u := by
  rw [asks.request, if_neg (by rw [permitted]; decide), serves]

theorem State.labelled_eq (s : State) (x : GlzSession) (n : Nat) (l : BitVec 256) (y : Larder) :
    { (s.glzTaking (s.glzServing x)).labelLocked (x.lastSeq + 1) n l with
        glz := { ((s.glzTaking (s.glzServing x)).labelLocked (x.lastSeq + 1) n l).glz with
          commit := some (labelCommit (x.lastSeq + 1) n l true) }
        ldr := y } = s.labelled x n l y := rfl

/-- Settles O39: staging ends in the session's items, and the COMMIT of a label in its write under the lock. -/
theorem glazeStaging : Obligations.GlazeStaging := by
  unfold Obligations.GlazeStaging
  refine ⟨?_, ?_, ?_, ?_⟩
  · intro s f x n l chk asks permitted room inside there bound length
    refine asks.runs (fun s => s.glzRequest f 0x21 (some 2) fun x s =>
      let r := s.stageLabel x n l chk
      (r.1, r.2.map fun st => (st, []))) rfl
      (asks.answers (l := x.staged ++ [.label n (BitVec.ofNat 256 (beNat l))]) permitted ?_)
    have staged := State.stageLabel_bound (s := s.glzTaking (s.glzServing x)) (x := s.glzServing x) chk room inside there bound length
    exact congrArg (fun r : State × Option Status => (r.1, r.2.map fun st => (st, ([] : Bytes)))) staged
  · intro s f x k n chk asks permitted first length ok there found bound raises
    refine asks.runs (fun s => s.glzRequest f 0x20 (some 1) fun x s =>
      let r := s.stageToken x k chk
      (r.1, r.2.map fun st => (st, []))) rfl (asks.answers (l := [tokenItem n k]) permitted ?_)
    have staged := State.stageToken_first (s := s.glzTaking (s.glzServing x)) (x := s.glzServing x) chk first length ok there
      found bound raises
    refine (congrArg (fun r : State × Option Status => (r.1, r.2.map fun st => (st, ([] : Bytes)))) staged).trans ?_
    unfold State.stageItem
    rw [show (s.glzServing x).staged = [] from first]
    rfl
  · intro s f x asks none early
    refine asks.runs (fun s => s.glzRequest f 0x22 Option.none fun x s => s.glzCommitRun x) rfl
      (asks.answers (l := x.staged) rfl (State.glzCommitRun_none (s := s.glzTaking (s.glzServing x)) early none))
  · intro s f x n l asks staged early there
    have on := (State.glzHears_iff.1 asks.hears).1
    let u := (s.glzTaking (s.glzServing x)).labelLocked (x.lastSeq + 1) n l
    have begins : s.glzRequest f 0x22 none (fun x s => s.glzCommitRun x) = u := asks.begins rfl
      (State.glzCommitRun_label (s := s.glzTaking (s.glzServing x)) (x := s.glzServing x) on early staged)
    have advances := State.glzAdvance_label (s := u) there rfl
    have records := State.record_putRecord (u.labelPinned (x.lastSeq + 1) n l) n
    obtain ⟨y, eq, locked, stalled⟩ := u.labelPinned_put (x.lastSeq + 1) n l { u.record n with label := l }
    have put : (u.labelPinned (x.lastSeq + 1) n l).putRecord n { u.record n with label := l } = s.labelled x n l y :=
      eq.trans (s.labelled_eq x n l y)
    have record (m : Nat) : (s.labelled x n l y).record m = if m = n then { s.record n with label := l } else s.record m := by
      rw [← put, records, State.record_congr (show u.ldr.records = s.ldr.records from rfl) n,
        State.record_congr (show (u.labelPinned (x.lastSeq + 1) n l).ldr.records = s.ldr.records from rfl) m]
    rw [put] at advances
    have rest : ({ u with glz := { u.glz with commit := none } } : State).quiet :=
      quiet_congr asks.quiet (commit := asks.free.symm)
    have ends : (s.labelled x n l y).glzRound.quiet := by
      have port : ({ s with glz := (s.labelled x n l y).glz } : State).quiet := State.quiet_commit asks.quiet rfl
        (fun c h => by obtain rfl := Option.some.inj h; rfl) rfl
      exact quiet_congr port (window := stalled)
    refine runs_clock (fun s => (s.glzRequest f 0x22 none fun x s => s.glzCommitRun x).react) rfl asks.running
      (s.labelled x n l y).glzRound ?_ (keepsBut_of_restore (by cases s; rfl)) ?_
    · rw [begins]
      exact State.react_advances rest advances ends
    · have same (m : Nat) : (settle s (s.labelled x n l y).glzRound).record m = (s.labelled x n l y).record m := by
        rw [record_settle]
        rfl
      rw [settle_glz, settle_ldr, same n, record, if_pos rfl]
      refine ⟨rfl, locked, rfl, fun m hm => ?_, ?_, rfl⟩
      · rw [same, record, if_neg hm]
      · exact List.mem_append_right _ (List.mem_singleton_self _)

end Sys2Proof.Machine
end

section
/-! PROOF. A strong pull-up that shorts, and why what its end changes is not confined to its frame: where a table of ports
lists a port twice, the port that is left as it was at reset takes with it the second entry and the engine that entry
holds (R196, R386). -/

namespace Sys2Proof.Machine

open Sys2Proof.Tests

/-- The hold of a catch-up. -/
def catchupHold : Txn := { Txn.first .catchup opCatchup 1 [] with holding := true }

/-- Port 0 stands in the table twice: first with nothing but a catch-up in its hold, then with an authentication that holds
engine 128, for which an operation waits. -/
def portTwice : State := { countWaits with ports := (0, { portOff with txn := some catchupHold }) :: countWaits.ports }

theorem portTwice_quiet : portTwice.quiet := (quiet_iff _).2 (by decide +kernel)

/-- The state that the short leads to. -/
def portTwiceShort : State := ((portTwice.spuShort 0).1.commandEnd 0 (portTwice.spuShort 0).2).react

theorem exec_spuShort_portTwice : exec (.spuShort 0) portTwice = .next (settle portTwice portTwiceShort) :=
  reacting_next (fun s => (s.spuShort 0).1.commandEnd 0 (s.spuShort 0).2) rfl

/-- The operation runs on the engine and completes, and its count shows. -/
theorem portTwiceShort_visible : portTwiceShort.cnt.visible = [] := by decide +kernel

/-- Refutes O52: its last clause holds the counters among what a short leaves alone, and says nothing of the order of the
table of ports. Here the end of the command frees an engine, and the count of the operation that waited for it shows. -/
theorem not_plaitAnswers : ¬ Obligations.PlaitAnswers := by
  rintro ⟨-, -, -, -, -, -, -, short⟩
  obtain ⟨t, ran, keeps, -⟩ := short portTwice 0 catchupHold rfl portTwice_quiet rfl rfl rfl rfl
  obtain rfl : settle portTwice portTwiceShort = t := Host.Outcome.next.inj (exec_spuShort_portTwice.symm.trans ran)
  have kept : portTwiceShort.cnt = portTwice.cnt := (settle_cnt ..).symm.trans (keeps .cnt (by decide))
  have shown : portTwice.cnt.visible = [] := kept ▸ portTwiceShort_visible
  exact List.cons_ne_nil _ [] shown

end Sys2Proof.Machine
end

section
/-! PROOF. A command that begins with a hold, and why it need not find the place that was free before it: where the table
of ports is not in the order of their numbers, a write of a port's position lists the port a second time, and its place in
the cluster counts twice (R195). -/

namespace Sys2Proof.Machine

open Sys2Proof.Tests

/-- A port that holds a place for the strong pull-up and nothing else. -/
def placed : Port := { portOff with spuPlace := true }

/-- Port 0, whose next work is a CONSUME, stands in the table behind ports 1 and 2, and each of the three holds a place. -/
def portsUnordered : State :=
  { hosted 0x10 with ports := [(1, placed), (2, placed), (0, { (hosted 0x10).port 0 with spuPlace := true })] }

theorem portsUnordered_serves : portsUnordered.Serves 0 (.host (portOp 0x10)) := (serves_iff ..).2 (by decide +kernel)

/-- A fourth place is free, and no port waits for one. -/
theorem portsUnordered_placeFree : portsUnordered.placeFree 0 := ⟨by decide +kernel, by decide +kernel⟩

theorem portsUnordered_session : (portsUnordered.pos 0 (portOp 0x10).desc.position).session = some tagSession := by
  decide +kernel

/-- The state that the command leads to. -/
def consumeUnordered : State := (portsUnordered.plaitCommand 0 opConsume).react

theorem exec_plaitConsume_portsUnordered :
    exec (.plaitConsume 0) portsUnordered = .next (settle portsUnordered consumeUnordered) :=
  reacting_next (fun s => s.plaitCommand 0 opConsume) rfl

/-- The command has not found a place: it waits for one, in the order of the requests. -/
theorem consumeUnordered_waits : consumeUnordered.sch.spuSeq = portsUnordered.sch.spuSeq + 1 := by decide +kernel

/-- Refutes O51: its clause on a CONSUME with a place free has it take the place, and says nothing of the order of the
table of ports. Here the write of the session's MSEQ lists the port twice, and the command waits for a fifth place. -/
theorem not_plaitCommandsBegin : ¬ Obligations.PlaitCommandsBegin := by
  rintro ⟨-, -, -, -, -, -, -, consume, -⟩
  obtain ⟨t, ran, keeps, -⟩ := consume portsUnordered 0 (portOp 0x10) tagSession portsUnordered_serves rfl rfl
    (by decide +kernel) portsUnordered_session (by decide) portsUnordered_placeFree
  obtain rfl : settle portsUnordered consumeUnordered = t :=
    Host.Outcome.next.inj (exec_plaitConsume_portsUnordered.symm.trans ran)
  have kept : consumeUnordered.sch = portsUnordered.sch := (settle_sch ..).symm.trans (keeps .sch (by decide))
  have same : consumeUnordered.sch.spuSeq = portsUnordered.sch.spuSeq := congrArg Scheduler.spuSeq kept
  have waits := consumeUnordered_waits
  omega

end Sys2Proof.Machine
end

section
/-! PROOF. What a port's lines do to it (R189–R192, R200, R201, R205): the work that stays at rest when a field of the port
changes, its events, and what a reset, a fault and the start of an enumeration make of its positions. -/

namespace Sys2Proof.Machine

/-! ## A change beside the work of a port -/

/-- A port is on where a field of it differs from that of a port that is off. -/
theorem Port.on_of {α : Type} (f : Port → α) {x : Port} (h : f x ≠ f portOff) : x ≠ portOff := fun same => h (same ▸ rfl)

/-- A port that has the positions, the jobs, the queue and the transaction of another leaves the block as quiet. -/
theorem State.quiet_line {s : State} {p : Nat} {x : Port} (quiet : s.quiet) (on : x ≠ portOff)
    (pos : x.pos = (s.port p).pos := by rfl) (jobs : x.jobs = (s.port p).jobs := by rfl)
    (hostq : x.hostq = (s.port p).hostq := by rfl) (txn : x.txn = (s.port p).txn := by rfl) : (s.setPort p x).quiet := by
  refine quiet_port on ?_ quiet ?_ ?_
  · unfold Port.engages
    rw [pos]
    exact fun _ h => h
  · have calm := port_quiet quiet.2.2.1 p
    unfold Port.quiet at calm ⊢
    rw [pos, jobs]
    exact calm
  · unfold Port.holds
    rw [hostq, txn]
    exact fun _ h => h

/-- A command that changes such a field and nothing else. -/
theorem runs_line {c : Instr} {s : State} {p : Nat} {x : Port} (f : State → State) (hx : exec c s = reacting s f)
    (running : s.running = true) (eq : f s = s.setPort p x) (quiet : (s.setPort p x).quiet) :
    Runs c s [.ports] fun t => t.port p = x := by
  refine runs_react f hx running _ eq quiet (s.setPort_keeps p x) ?_
  rw [port_settle, State.port_setPort_same]

/-- The same where something is sent as well. -/
theorem runs_lineOut {c : Instr} {s : State} {p : Nat} {x : Port} {o : Output} (f : State → State)
    (hx : exec c s = reacting s f) (running : s.running = true) (eq : f s = (s.setPort p x).emit o)
    (quiet : (s.setPort p x).quiet) : Runs c s [.ports, .out] fun t => t.port p = x ∧ o ∈ t.out := by
  refine runs_react f hx running _ eq (quiet_congr quiet)
    (KeepsBut.within (s.setPort_keeps p x) |>.also (keepsBut_of_restore (by cases s; rfl) : KeepsBut [.out] _ _)) ⟨?_, ?_⟩
  · rw [port_settle, (State.emit_chats _ o).port, State.port_setPort_same]
  · exact mem_settle_out (List.mem_append_right _ (List.mem_singleton_self _))

/-! ## Events (R204) -/

/-- A port with an event bit set. -/
def Port.marked (x : Port) (b : Nat) : Port := { x with event := setBit x.event b true }

theorem setBit_set {n : Nat} {v : BitVec n} {b : Nat} (h : v.getLsbD b = true) : setBit v b true = v := by
  apply BitVec.eq_of_getLsbD_eq
  intro i hi
  rw [getLsbD_setBit]
  split
  · rename_i same
    rw [same.1, h]
  · rfl

/-- `t` is `s` after an event of port `p`: its bit is set, and what it reports may have gone out. -/
structure Marks (p b : Nat) (s t : State) : Prop where
  keeps : KeepsBut (.ports :: talkParts) s t
  port : t.port p = (s.port p).marked b
  others : ∀ r, r ≠ p → t.port r = s.port r
  ops : t.sch.ops = s.sch.ops
  calm : s.portsQuiet → t.portsQuiet
  quiet : s.quiet → t.quiet

theorem Port.marked_on {x : Port} {b : Nat} (h : b < 8) : x.marked b ≠ portOff := by
  refine Port.on_of (fun x => x.event.getLsbD b) ?_
  show (setBit x.event b true).getLsbD b ≠ (0 : BitVec 8).getLsbD b
  rw [getLsbD_setBit, if_pos ⟨rfl, h⟩]
  exact fun e => Bool.noConfusion (e.trans BitVec.getLsbD_zero)

theorem State.portEvent_marks (s : State) (p : Nat) {b : Nat} (h : b < 8) : Marks p b s (s.portEvent p b) := by
  unfold portEvent
  dsimp only
  split
  · next already =>
    refine ⟨.refl _ s, ?_, fun _ _ => rfl, rfl, id, id⟩
    unfold Port.marked
    rw [setBit_set already]
  · have chats := State.report_chats (s.setPort p ((s.port p).marked b)) 5 [BitVec.ofNat 8 p, BitVec.twoPow 8 b]
    have written := State.setPort_keeps s p ((s.port p).marked b)
    refine ⟨(written.mono (by decide)).trans (chats.keeps.mono (by decide)), ?_, fun r hr => ?_, chats.ops, fun calm => ?_,
      fun quiet => chats.quiet (State.quiet_line quiet (Port.marked_on h))⟩
    · exact (chats.port p).trans (State.port_setPort_same ..)
    · exact (chats.port r).trans (State.port_setPort_other hr _)
    · have put := State.quiet_setPort (p := p) (x := (s.port p).marked b) calm (State.port_quiet calm p)
      exact fun e he => put e (chats.ports ▸ he)

theorem Marks.stepDone {p b : Nat} {s t : State} (h : Marks p b s t) (n : Nat) : t.stepDone n = s.stepDone n := by
  unfold State.stepDone
  rw [h.keeps .mod (by decide)]

/-! ## Work that leaves no port with more to do -/

theorem State.portsQuiet_congr {s t : State} (h : s.portsQuiet) (ports : t.ports = s.ports := by rfl) : t.portsQuiet := by
  unfold portsQuiet
  rw [ports]
  exact h

theorem State.portsQuiet_dropJobs {s : State} (h : s.portsQuiet) (p : Nat) (f : Job → Bool) : (s.dropJobs p f).portsQuiet :=
  State.quiet_setPort h (Port.quiet_dropped (State.port_quiet h p) f)

theorem State.portsQuiet_foldl {α : Type} {f : State → α → State} (hf : ∀ s a, s.portsQuiet → (f s a).portsQuiet)
    (l : List α) : ∀ {s : State}, s.portsQuiet → (l.foldl f s).portsQuiet := by
  induction l with
  | nil => exact id
  | cons a l ih => exact fun h => ih (hf _ a h)

/-- What the squash of a position's beat leaves of the ports. -/
theorem State.squashBeat_ports (s : State) (p i : Nat) (c : SquashCause) :
    (s.squashBeat p i c).ports = s.ports ∧ (s.pos p i).shadow = none
      ∨ (s.squashBeat p i c).ports = (s.setPos p i { s.pos p i with shadow := none }).ports ∧ (s.pos p i).shadow ≠ none := by
  unfold squashBeat
  dsimp only
  split
  · next none => exact .inl ⟨rfl, none⟩
  · next b some =>
    refine .inr ⟨?_, by rw [some]; exact Option.some_ne_none b⟩
    split <;> rfl

theorem State.squashBeat_pos (s : State) (p i : Nat) (c : SquashCause) (j : Nat) :
    (s.squashBeat p i c).pos p j = if j = i then { s.pos p i with shadow := none } else s.pos p j := by
  rcases s.squashBeat_ports p i c with ⟨same, none⟩ | ⟨written, -⟩
  · rw [show (s.squashBeat p i c).pos p j = s.pos p j from congrArg (Port.at · j) (port_congr same p)]
    split
    · next here => rw [here, ← none]
    · rfl
  · rw [show (s.squashBeat p i c).pos p j = _ from congrArg (Port.at · j) (port_congr written p)]
    exact s.pos_setPos p i j _

theorem State.portsQuiet_squashBeat {s : State} (h : s.portsQuiet) (p i : Nat) (c : SquashCause) :
    (s.squashBeat p i c).portsQuiet := by
  rcases s.squashBeat_ports p i c with ⟨same, -⟩ | ⟨written, -⟩
  · exact portsQuiet_congr h same
  · exact portsQuiet_congr (portsQuiet_setPos h (v := { s.pos p i with shadow := none }) rfl) written

theorem State.portsQuiet_squashPort {s : State} (h : s.portsQuiet) (p : Nat) (c : SquashCause) : (s.squashPort p c).portsQuiet :=
  portsQuiet_foldl (fun _ k t => portsQuiet_squashBeat t p (k + 1) c) _ h

/-- A position that turns to another verdict, its beats from then on due at `at_` where that is VERIFIED. -/
def Pos.turned (x : Pos) (v reason at_ : Nat) : Pos :=
  let x := { x with verdict := v, reason := reason }
  let x := if v = 2 then { x with beatAt := some at_, beatBusy := false }
    else { x with beatAt := none, beatBusy := false, catchupAt := none }
  let x := if v = 0 ∨ v = 3 then { x with authAt := none } else x
  if v = 0 then { x with prioAt := none } else x

theorem Pos.turned_verdict (x : Pos) (v reason at_ : Nat) : (x.turned v reason at_).verdict = v := by
  unfold turned
  dsimp only
  (repeat' split) <;> rfl

theorem Pos.turned_auth (x : Pos) (v reason at_ : Nat) : (x.turned v reason at_).auth = x.auth := by
  unfold turned
  dsimp only
  (repeat' split) <;> rfl

/-- A verdict's squash, where it is not VERIFIED. -/
def State.unshadowed (s : State) (p i v : Nat) : State := if v ≠ 2 then s.squashBeat p i .identity else s

/-- The position that a verdict writes keeps its authentication. -/
theorem State.setVerdict_writes (s : State) (p i v reason : Nat) :
    ∃ x : Pos, x.verdict = v ∧ x.auth = ((s.unshadowed p i v).pos p i).auth
      ∧ (s.setVerdict p i v reason = (s.unshadowed p i v).setPos p i x
        ∨ ∃ k b, s.setVerdict p i v reason = ((s.unshadowed p i v).verdictMoved p i v x).report k b) := by
  by_cases same : v = (s.pos p i).verdict
  · refine ⟨{ (s.unshadowed p i v).pos p i with verdict := v, reason := reason }, rfl, rfl, .inl ?_⟩
    exact if_pos same
  · refine ⟨((s.unshadowed p i v).pos p i).turned v reason ((s.unshadowed p i v).tick.toNat + (s.unshadowed p i v).beatPeriod p i),
      Pos.turned_verdict .., Pos.turned_auth .., .inr ⟨4, [BitVec.ofNat 8 p, BitVec.ofNat 8 i,
        BitVec.ofNat 8 (s.pos p i).verdict, BitVec.ofNat 8 v, BitVec.ofNat 8 reason], ?_⟩⟩
    exact if_neg same

theorem State.portsQuiet_verdictMoved {s : State} (h : s.portsQuiet) {p i v : Nat} {x : Pos}
    (auth : x.auth = (s.pos p i).auth) : (s.verdictMoved p i v x).portsQuiet := by
  have dropped {t : State} (k : t.portsQuiet) {c : Prop} [Decidable c] (f : Job → Bool) :
      (if c then t.dropJobs p f else t).portsQuiet := by
    split
    · exact portsQuiet_dropJobs k p f
    · exact k
  have kept {t : State} (k : t.portsQuiet) {c : Prop} [Decidable c] (f : Job → Bool) :
      (if c then t else t.dropJobs p f).portsQuiet := by
    split
    · exact k
    · exact portsQuiet_dropJobs k p f
  have counted {t : State} (k : t.portsQuiet) :
      (if v = 3 then t.setPort p { t.port p with authFails := satInc (t.port p).authFails } else t).portsQuiet := by
    split
    · exact State.quiet_setPort k (State.port_quiet k p)
    · exact k
  unfold verdictMoved
  exact counted (dropped (dropped (kept (portsQuiet_setPos h auth) _) _) _)

theorem State.portsQuiet_setVerdict {s : State} (h : s.portsQuiet) (p i v reason : Nat) :
    (s.setVerdict p i v reason).portsQuiet := by
  have squashed : (s.unshadowed p i v).portsQuiet := by
    unfold unshadowed
    split
    · exact portsQuiet_squashBeat h p i _
    · exact h
  obtain ⟨x, -, auth, eq | ⟨k, b, eq⟩⟩ := s.setVerdict_writes p i v reason <;> rw [eq]
  · exact portsQuiet_setPos squashed auth
  · exact portsQuiet_congr (portsQuiet_verdictMoved squashed auth) (report_chats ..).ports

/-- A position without an authentication has nothing that waits. -/
theorem State.portsQuiet_noAuth {s : State} (h : s.portsQuiet) {p i : Nat} {v : Pos} (none : v.auth = none) :
    (s.setPos p i v).portsQuiet := by
  have calm := State.port_quiet h p
  refine State.quiet_setPort h ?_
  unfold Port.quiet at calm ⊢
  rw [Bool.and_eq_true] at calm ⊢
  refine ⟨calm.1, List.all_eq_true.2 fun e he => ?_⟩
  rcases mem_tabSet he with rfl | he
  · dsimp only
    rw [none]
  · exact List.all_eq_true.1 calm.2 e he

/-- With no operation nothing but a port can have work that waits. -/
theorem State.quiet_idle {s t : State} {p : Nat} (quiet : s.quiet) (works : Works p s t) (ops : s.sch.ops = [])
    (calm : t.portsQuiet) : t.quiet := by
  obtain ⟨-, ⟨arrivals, commits⟩, -, hand, commit, stalled, held⟩ := quiet
  have window : t.ldr.stalled = s.ldr.stalled := (congrArg Larder.stalled works.ldr :)
  refine ⟨fun o ho => ?_, ?_, calm, ?_, ?_, window.trans stalled, ?_⟩
  · rw [works.ops, ops] at ho
    exact absurd ho List.not_mem_nil
  · rw [works.cnt]
    exact ⟨arrivals, commits⟩
  all_goals rw [works.glz]; assumption

end Sys2Proof.Machine
end

section
/-! PROOF. A port's resets, faults and probes (R189, R200, R201, R205): what each makes of its positions, and the port once
the command has ended. -/

namespace Sys2Proof.Machine

/-! ## A verdict that falls -/

/-- Work at a port's positions, its ports as those of a quiet block that such work leads to. -/
theorem Works.quiet_of {p : Nat} {s t u : State} (h : Works p s t) (k : Works p s u) (ports : t.ports = u.ports)
    (quiet : u.quiet) : t.quiet := by
  have ldr : t.ldr.unpinned = u.ldr.unpinned := h.ldr.trans k.ldr.symm
  have glz : t.glz = u.glz := h.glz.trans k.glz.symm
  have rcp : t.rcp = u.rcp := h.rcp.trans k.rcp.symm
  have cnt : t.cnt = u.cnt := h.cnt.trans k.cnt.symm
  have life : t.life = u.life := (h.chats.life).trans (k.chats.life).symm
  exact quiet_congr quiet (h.ops.trans k.ops.symm) ports (by rw [rcp]) (by rw [rcp]) (by rw [life]) (by rw [life])
    (by rw [cnt]) (by rw [cnt]) (by rw [cnt]) (by rw [glz]) (by rw [glz]) (by rw [glz])
    (congrArg Larder.stalled ldr :)

theorem Pos.shown {x : Pos} (h : x.verdict ≠ 0) : x ≠ posEmpty := fun same => h (congrArg Pos.verdict same :)

/-- The squash of a beat at a position where a tag is shown. -/
theorem State.quiet_squashBeat {s : State} (quiet : s.quiet) {p i : Nat} (shown : (s.pos p i).verdict ≠ 0) (c : SquashCause) :
    (s.squashBeat p i c).quiet := by
  have works := s.squashBeat_works p i c
  rcases s.squashBeat_ports p i c with ⟨same, -⟩ | ⟨written, -⟩
  · exact works.quiet_of (.refl p s) same quiet
  · exact works.quiet_of (s.setPos_works p i _) written
      (quiet_setPos quiet (v := { s.pos p i with shadow := none }) (Pos.shown shown) rfl)

theorem State.quiet_dropJobs {s : State} (quiet : s.quiet) {p : Nat} (on : (s.port p).line ≠ portOff) (f : Job → Bool) :
    (s.dropJobs p f).quiet :=
  quiet_port (x := (s.port p).dropped f) (fun off => on (congrArg Port.line off :)) (fun _ h => h) quiet
    (Port.quiet_dropped (port_quiet quiet.2.2.1 p) f) (fun _ h => h)

/-- What becomes of the jobs and the counts of a position that turns UNVERIFIED. -/
theorem State.verdictMoved_unverified (s : State) (p i : Nat) (x : Pos) :
    ∃ f, s.verdictMoved p i 1 x = (s.setPos p i x).dropJobs p f := ⟨_, rfl⟩

theorem State.pos_of_ports {s t : State} (h : t.ports = s.ports) (p i : Nat) : t.pos p i = s.pos p i :=
  congrArg (Port.at · i) (port_congr h p)

theorem State.pos_dropJobs (s : State) (p : Nat) (f : Job → Bool) (i : Nat) : (s.dropJobs p f).pos p i = s.pos p i := by
  show ((s.dropJobs p f).port p).at i = _
  rw [dropJobs_eq, port_setPort_same]
  rfl

/-- A VERIFIED position turns UNVERIFIED: no other turns with it, and nothing begins to move. -/
theorem State.setVerdict_unverified {s : State} {p i : Nat} (verified : (s.pos p i).verdict = 2) (reason : Nat) :
    (∀ j, ((s.setVerdict p i 1 reason).pos p j).verdict = if j = i then 1 else (s.pos p j).verdict)
      ∧ ((s.port p).line ≠ portOff → s.quiet → (s.setVerdict p i 1 reason).quiet) := by
  obtain ⟨x, verdict, auth, eq⟩ := s.setVerdict_writes p i 1 reason
  have here : s.unshadowed p i 1 = s.squashBeat p i .identity := rfl
  rw [here] at auth eq
  let u := (s.squashBeat p i .identity).setPos p i x
  have read (j : Nat) : (u.pos p j).verdict = if j = i then 1 else (s.pos p j).verdict := by
    show (((s.squashBeat p i .identity).setPos p i x).pos p j).verdict = _
    rw [pos_setPos]
    split
    · exact verdict
    · next other => rw [squashBeat_pos, if_neg other]
  have line : (u.port p).line = (s.port p).line :=
    ((s.squashBeat_works p i .identity).trans (State.setPos_works _ p i x)).line
  have quiet (calm : s.quiet) : u.quiet := quiet_setPos (s.quiet_squashBeat calm (by rw [verified]; decide) .identity)
    (Pos.shown (by rw [verdict]; decide)) auth
  rcases eq with eq | ⟨k, b, eq⟩ <;> rw [eq]
  · exact ⟨read, fun _ => quiet⟩
  · obtain ⟨f, moved⟩ := (s.squashBeat p i .identity).verdictMoved_unverified p i x
    rw [moved]
    have chats := (u.dropJobs p f).report_chats k b
    refine ⟨fun j => ?_, fun on calm => chats.quiet (State.quiet_dropJobs (quiet calm) (by rw [line]; exact on) f)⟩
    rw [State.pos_of_ports chats.ports, State.pos_dropJobs, read]

/-! ## Enumeration begins (R188) -/

/-- A VERIFIED position turns UNVERIFIED, its reason as it was. -/
def State.unverify (s : State) (p i : Nat) : State :=
  if (s.pos p i).verdict = 2 then s.setVerdict p i 1 (s.pos p i).reason else s

/-- The positions up to one turn UNVERIFIED. -/
def State.unverifyTo (s : State) (p n : Nat) : State := (List.range n).foldl (fun s k => s.unverify p (k + 1)) s

theorem State.unverify_works (s : State) (p i : Nat) : Works p s (s.unverify p i) :=
  Works.ite (s.setVerdict_works p i 1 _) (.refl p s)

theorem State.unverify_verdict (s : State) (p i j : Nat) (h : j = i ∨ (s.pos p j).verdict ≠ 2) :
    ((s.unverify p i).pos p j).verdict ≠ 2 := by
  unfold unverify
  split
  · next verified =>
    rw [(State.setVerdict_unverified verified _).1]
    split
    · decide
    · next other => exact h.resolve_left other
  · next not => exact h.elim (fun same => same ▸ not) id

theorem State.unverify_quiet {s : State} (p i : Nat) (on : (s.port p).line ≠ portOff) (quiet : s.quiet) :
    (s.unverify p i).quiet := by
  unfold unverify
  split
  · next verified => exact (State.setVerdict_unverified verified _).2 on quiet
  · exact quiet

theorem State.unverifyTo_spec (s : State) (p n : Nat) (on : (s.port p).line ≠ portOff) (quiet : s.quiet) :
    Works p s (s.unverifyTo p n) ∧ (s.unverifyTo p n).quiet
      ∧ ∀ j, 1 ≤ j → j ≤ n → ((s.unverifyTo p n).pos p j).verdict ≠ 2 := by
  induction n with
  | zero => exact ⟨.refl p s, quiet, fun j low high => absurd low (by omega)⟩
  | succ n ih =>
    obtain ⟨works, calm, below⟩ := ih
    have eq : s.unverifyTo p (n + 1) = (s.unverifyTo p n).unverify p (n + 1) := by
      unfold unverifyTo
      rw [List.range_succ, List.foldl_append]
      rfl
    rw [eq]
    refine ⟨works.trans (State.unverify_works _ p _), State.unverify_quiet p _ (by rw [works.line]; exact on) calm,
      fun j low high => State.unverify_verdict _ p _ j ?_⟩
    by_cases last : j = n + 1
    · exact .inl last
    · exact .inr (below j low (by omega))

/-- A port at which enumeration begins at a position. -/
def Port.enumerates (x : Port) (i : Nat) : Port :=
  { x with state := .enumerate, enumPos := i, enumFirst := i, expect := true, window := .none }

theorem State.enumBegin_eq (s : State) (p n : Nat) : s.enumBegin p (n + 1)
    = (s.unverifyTo p n).setPort p (((s.unverifyTo p n).port p).enumerates (n + 1)) := rfl

/-! ## The presence window of a probe (R189) -/

/-- A port whose probe has ended; the next is due at a time. -/
def Port.probed (x : Port) (at_ : Nat) : Port :=
  { x with window := .none, trimSent := false, uprobe := false, probeReq := false, probeAt := some at_ }

/-- A port with a presence pulse in PLT_PRES_MEAS. -/
def Port.measured (x : Port) (y : Presence) : Port := { x with presFall := y.fallUs, presWidth := y.widthUs }

/-- When the next probe of a port is due, its period that of the port `x`. -/
def State.nextProbe (s : State) (x : Port) : Nat := s.tick.toNat + x.profile.probeMs * 1000

/-- The probe that found a tag has ended. -/
def State.probeSeen (s : State) (p : Nat) (y : Presence) : State :=
  let u := s.retireJob p jobProbe 0
  ((u.setPort p ((u.port p).probed (u.nextProbe (s.port p)))).measure p y).portEvent p evInserted

theorem State.presenceClose_probe {s : State} {p : Nat} {y : Presence} (window : (s.port p).window = .presence true)
    (accepted : presAccepted y = true) : s.presenceClose p (some y) false
      = (if ((s.probeSeen p y).port p).chainLen < ((s.probeSeen p y).port p).profile.maxPos
          then (s.probeSeen p y).enumBegin p (((s.probeSeen p y).port p).chainLen + 1)
          else (s.probeSeen p y).portEvent p evOverflow, none) := by
  unfold presenceClose
  dsimp only
  rw [window]
  dsimp only
  rw [if_neg Bool.false_ne_true, if_pos rfl, if_pos accepted]
  rfl

theorem Port.probed_on (x : Port) (at_ : Nat) : x.probed at_ ≠ portOff :=
  Port.on_of (fun x => x.probeAt.isSome) (by simp [probed, portOff])

/-- The port once a probe found a tag, `x` the port that its job has left. -/
theorem State.probeSeen_spec {s : State} {p : Nat} (y : Presence) (quiet : s.quiet)
    (window : (s.port p).window = .presence true) :
    ∃ (x : Port) (at_ : Nat), x.line = (s.port p).line ∧ ((s.probeSeen p y).port p) = ((x.probed at_).measured y).marked 0
      ∧ (s.probeSeen p y).quiet ∧ KeepsBut (.ports :: talkParts) s (s.probeSeen p y) := by
  let u := s.retireJob p jobProbe 0
  have works := s.retireJob_works p jobProbe 0
  have on : (s.port p).line ≠ portOff := Port.on_of Port.window (by
    rw [show (s.port p).line.window = (s.port p).window from rfl, window]
    decide)
  have retired : u.quiet ∧ KeepsBut [.ports] s u := by
    show (s.retireJob p jobProbe 0).quiet ∧ KeepsBut [.ports] s (s.retireJob p jobProbe 0)
    unfold retireJob
    split
    · exact ⟨quiet, .refl _ s⟩
    · exact ⟨State.quiet_dropJobs quiet on _, s.setPort_keeps p _⟩
  let v := u.setPort p ((u.port p).probed (u.nextProbe (s.port p)))
  have ended : v.quiet := State.quiet_line retired.1 (Port.probed_on _ _)
  have port : v.port p = (u.port p).probed (u.nextProbe (s.port p)) := State.port_setPort_same ..
  have measured : v.measure p y = v.setPort p (((u.port p).probed (u.nextProbe (s.port p))).measured y) := by
    rw [← port]
    rfl
  have seen : ((v.setPort p (((u.port p).probed (u.nextProbe (s.port p))).measured y)).quiet) :=
    State.quiet_line ended (Port.on_of (fun x => x.probeAt.isSome) (by simp [Port.measured, Port.probed, portOff]))
      (by rw [port]; rfl) (by rw [port]; rfl) (by rw [port]; rfl) (by rw [port]; rfl)
  have marks := State.portEvent_marks (v.measure p y) p (b := evInserted) (by decide)
  refine ⟨u.port p, u.nextProbe (s.port p), works.line, ?_, marks.quiet (measured ▸ seen), ?_⟩
  · refine marks.port.trans ?_
    rw [measured, State.port_setPort_same]
    rfl
  · exact ((retired.2.mono (by decide)).trans ((u.setPort_keeps p _).mono (by decide))).trans
      ((measured ▸ (v.setPort_keeps p _).mono (by decide)).trans marks.keeps)

end Sys2Proof.Machine
end

section
/-! PROOF. The statement on the lines of a port: its two command bits, probes, line faults and the recovery from them. -/

namespace Sys2Proof.Machine

/-! ## A fault of the line (R200) -/

/-- A position of a port that enters FAULT. -/
def State.faultPos (s : State) (p i : Nat) : State :=
  (s.unpin (posCtx p i)).setPos p i { s.pos p i with auth := none, beatBusy := false }

/-- The positions of a port that enters FAULT. -/
def State.faultWork (s : State) (p : Nat) : State :=
  (List.range 32).foldl (fun s k => s.faultPos p (k + 1)) (s.squashPort p .identity)

/-- A port in FAULT. -/
def Port.faulted (x : Port) (low : Bool) : Port := { x with
  state := .fault, fault := if low then 1 else 2, txn := none, check := none, checkq := [], jobs := [], hostq := []
  window := .none, spuOn := false, spuWait := none, spuPlace := false, present := 0, mute := 0, chainLen := 0
  expect := false, trimSent := false, reenum := false, reenumRuns := false, probeReq := false, uprobe := false }

theorem Port.faulted_jobs (x : Port) (low : Bool) : (x.faulted low).jobs = [] := rfl

theorem Port.faulted_pos (x : Port) (low : Bool) : (x.faulted low).pos = x.pos := rfl

theorem Port.faulted_event (x : Port) (low : Bool) : (x.faulted low).event = x.event := rfl

theorem Port.marked_event (x : Port) (b : Nat) : (x.marked b).event = setBit x.event b true := rfl

theorem State.stepDone_setPort (s : State) (p : Nat) (x : Port) (n : Nat) : (s.setPort p x).stepDone n = s.stepDone n := rfl

/-- The bit of PLT_EVENT for a fault of the line. -/
def faultEvent (low : Bool) : Nat := if low then evLineLow else evLineHigh

/-- The block once a port is in FAULT, before that is raised. -/
def State.faultSeen (s : State) (p : Nat) (low : Bool) : State :=
  ((s.faultWork p).setPort p (((s.faultWork p).port p).faulted low)).portEvent p (faultEvent low)

theorem State.lineFault_idle {s : State} {p : Nat} (idle : (s.port p).txn = none) (low : Bool) :
    s.lineFault p low = ((s.faultSeen p low).raise .plaitFault, none) := by
  have none : (if (s.port p).spuWait.isSome then none else (s.port p).txn) = Option.none := by
    rw [idle]
    split <;> rfl
  unfold lineFault
  dsimp only
  rw [none]
  rfl

theorem State.faultWork_works (s : State) (p : Nat) : Works p s (s.faultWork p) :=
  (s.squashPort_works p .identity).trans (Works.foldl _ (fun t _ => (t.unpin_works p _).trans (State.setPos_works _ p _ _)) _ _)

theorem State.portsQuiet_faultWork {s : State} (h : s.portsQuiet) (p : Nat) : (s.faultWork p).portsQuiet :=
  portsQuiet_foldl (fun t k calm => portsQuiet_noAuth (s := t.unpin (posCtx p (k + 1))) calm rfl) _ (portsQuiet_squashPort h p _)

/-- A port that leaves its jobs is as quiet. -/
theorem Port.quiet_jobless {x y : Port} (h : x.quiet = true) (jobs : y.jobs = []) (pos : y.pos = x.pos) : y.quiet = true := by
  unfold Port.quiet at h ⊢
  rw [Bool.and_eq_true] at h
  rw [jobs, pos, h.2]
  rfl

/-- A change of a port's positions, then of the port, in a block without an operation. -/
theorem State.quiet_reworked {s u : State} {p : Nat} {x : Port} (quiet : s.quiet) (ops : s.sch.ops = []) (works : Works p s u)
    (calm : u.portsQuiet) (jobs : x.jobs = []) (pos : x.pos = (u.port p).pos) : (u.setPort p x).quiet := by
  refine quiet_congr (s := { s with ports := (u.setPort p x).ports }) ?_ works.ops rfl (congrArg Rcp.units works.rcp :)
    (congrArg Rcp.recipe works.rcp :) (congrArg Life.blowing works.chats.life :) (congrArg Life.retireWait works.chats.life :)
    (congrArg Counters.arrivals works.cnt :) (congrArg Counters.queue works.cnt :) (congrArg Counters.busy works.cnt :)
    (congrArg Glaze.hand works.glz :) (congrArg Glaze.commit works.glz :) (congrArg Glaze.stalled works.glz :)
    (congrArg Larder.stalled works.ldr :)
  obtain ⟨-, cnt, -, rest⟩ := quiet
  refine ⟨fun o ho => ?_, cnt, State.quiet_setPort calm (Port.quiet_jobless (State.port_quiet calm p) jobs pos), rest⟩
  exact absurd (ops ▸ ho) List.not_mem_nil

/-- A line that is found at fault with no transaction of its port under way. -/
theorem runs_lineFault {c : Instr} {s : State} {p : Nat} (low : Bool) (f : State → State × Option CmdEnd)
    (hx : exec c s = ending p s f) (running : s.running = true) (quiet : s.quiet) (idle : (s.port p).txn = none)
    (ops : s.sch.ops = []) (eq : f s = s.lineFault p low) :
    Runs c s (.ports :: .spc :: opParts) fun t =>
      (t.port p).state = .fault ∧ (t.port p).fault = (if low then 1 else 2) ∧ (t.port p).present = 0
        ∧ (t.port p).chainLen = 0 ∧ (t.port p).jobs = []
        ∧ (t.port p).event = setBit (s.port p).event (faultEvent low) true
        ∧ (s.stepDone 1 = true → t.irqStat.getLsbD 12 = true) := by
  let u := s.faultWork p
  let v := u.setPort p ((u.port p).faulted low)
  have works := s.faultWork_works p
  have calm : v.quiet := State.quiet_reworked quiet ops works (State.portsQuiet_faultWork quiet.2.2.1 p)
    (Port.faulted_jobs ..) (Port.faulted_pos ..)
  have marks : Marks p (faultEvent low) v (s.faultSeen p low) :=
    State.portEvent_marks v p (by cases low <;> decide)
  have chats := (s.faultSeen p low).raise_chats .plaitFault
  have event : (u.port p).event = (s.port p).event := works.portField Port.event fun _ => rfl
  have port : ((s.faultSeen p low).raise .plaitFault).port p = ((u.port p).faulted low).marked (faultEvent low) := by
    rw [chats.port, marks.port, State.port_setPort_same]
  refine runs_react (fun s => (f s).1.commandEnd p (f s).2) hx running _ ?_ (chats.quiet (marks.quiet calm)) ?_
    ⟨?_, ?_, ?_, ?_, ?_, ?_, fun loaded => ?_⟩
  · show (f s).1.commandEnd p (f s).2 = (s.faultSeen p low).raise .plaitFault
    rw [eq, State.lineFault_idle idle]
    rfl
  · exact ((works.keeps.trans ((u.setPort_keeps p _).mono (by decide))).trans (marks.keeps.mono (by decide))).trans
      (chats.keeps.mono (by decide))
  · rw [port_settle, port]; rfl
  · rw [port_settle, port]; rfl
  · rw [port_settle, port]; rfl
  · rw [port_settle, port]; rfl
  · rw [port_settle, port]; rfl
  · rw [port_settle, port, Port.marked_event, Port.faulted_event, event]
  · rw [settle_irqStat]
    refine State.raise_bit .plaitFault ?_
    rw [marks.stepDone, State.stepDone_setPort, works.stepDone, loaded]

/-! ## The recovery (R201) -/

theorem State.portsQuiet_resetWork {s : State} (h : s.portsQuiet) (p : Nat) : (s.resetWork p).portsQuiet :=
  portsQuiet_foldl (fun t k calm => portsQuiet_setVerdict
    (portsQuiet_noAuth (s := t.unpin (posCtx p (k + 1))) calm (v := (t.pos p (k + 1)).reset) rfl) p (k + 1) 1 _) _
    (portsQuiet_squashPort h p _)

/-- A port in the charge period before its reset, its release over. -/
def Port.recovers (x : Port) : Port := { x.started with window := .none }

theorem Port.recovers_on (x : Port) : x.recovers ≠ portOff := Port.on_of Port.state (show PortState.charge ≠ .off by decide)

theorem State.quiet_recovers {s : State} (quiet : s.quiet) (p : Nat) : (s.setPort p (s.port p).recovers).quiet :=
  State.quiet_line quiet (Port.recovers_on _)

theorem Port.resetting_jobs (x : Port) : x.resetting.jobs = [] := rfl

theorem Port.resetting_pos (x : Port) : x.resetting.pos = x.pos := rfl

theorem State.releaseEnd_high {s : State} {p : Nat} (state : (s.port p).state = .fault) (window : (s.port p).window = .release) :
    s.releaseEnd p true = (s.resetBegins p).setPort p ((s.resetBegins p).port p).recovers := by
  unfold releaseEnd
  rw [if_pos ⟨state, window⟩, if_pos rfl]
  generalize s.resetBegins p = u
  rfl

theorem State.releaseEnd_low {s : State} {p : Nat} (state : (s.port p).state = .fault) (window : (s.port p).window = .release) :
    s.releaseEnd p false = s.setPort p { s.port p with window := .none, reenum := false } := by
  unfold releaseEnd
  rw [if_pos ⟨state, window⟩]
  rfl

/-! ## Probes (R189) -/

theorem State.probeTrim_next {s : State} {p : Nat} (next : s.nextWork p = .probe) :
    s.probeTrim p = (s.setPort p { s.port p with trimSent := true }).emit
      (.plaitFrame p (borpinBody 0 opTrim [BitVec.ofNat 8 (s.port p).chainLen] false)) := by
  unfold probeTrim
  rw [next]
  rfl

/-- A port whose TRIM has gone out has a transaction under way. -/
theorem State.nextWork_busy {s : State} {p : Nat} (sent : (s.port p).trimSent = true) : s.nextWork p ≠ .probe := by
  have busy : ((s.port p).busy || !(s.unitIs p .active || s.unitIs p .rejoining)) = true := by
    unfold Port.busy
    rw [sent]
    simp
  unfold nextWork
  dsimp only
  rw [if_pos busy]
  cases (s.port p).check <;> (repeat' split) <;> nofun

theorem State.probeTrim_sent {s : State} {p : Nat} (sent : (s.port p).trimSent = true) : s.probeTrim p = s := by
  unfold probeTrim
  split
  · next probe => exact absurd probe (State.nextWork_busy sent)
  · rfl

theorem Port.on_of_state {x : Port} (h : x.state = .running ∨ x.state = .fault) : x.state ≠ portOff.state := by
  rcases h with h | h <;> rw [h] <;> decide

theorem presAccepted_of {y : Presence} (fall : 12 ≤ y.fallUs ∧ y.fallUs ≤ 50) (width : 25 ≤ y.widthUs ∧ y.widthUs ≤ 100) :
    presAccepted y = true := by
  unfold presAccepted
  simp [fall, width]

/-- A probe finds a tag behind a chain that has room. -/
theorem runs_probeRoom {s : State} {p : Nat} {y : Presence} (running : s.running = true) (quiet : s.quiet)
    (window : (s.port p).window = .presence true) (accepted : presAccepted y = true)
    (room : (s.port p).chainLen < (s.port p).profile.maxPos) :
    Runs (.presenceWindowClose p (some y) false) s (.ports :: .spc :: opParts) fun t =>
      (t.port p).state = .enumerate ∧ (t.port p).enumPos = (s.port p).chainLen + 1 ∧ (t.port p).expect = true
        ∧ (t.port p).event = setBit (s.port p).event 0 true ∧ (t.port p).trimSent = false
        ∧ ∀ i, 1 ≤ i → i ≤ (s.port p).chainLen → (t.pos p i).verdict ≠ 2 := by
  obtain ⟨x, at_, line, port, calm, keeps⟩ := State.probeSeen_spec y quiet window
  have chain : ((s.probeSeen p y).port p).chainLen = (s.port p).chainLen := by
    rw [port]
    exact (congrArg Port.chainLen line :)
  have profile : ((s.probeSeen p y).port p).profile = (s.port p).profile := by
    rw [port]
    exact (congrArg Port.profile line :)
  have on : ((s.probeSeen p y).port p).line ≠ portOff := by
    rw [port]
    exact Port.on_of (fun x => x.probeAt.isSome) (show true ≠ false by decide)
  obtain ⟨works, rests, fallen⟩ := (s.probeSeen p y).unverifyTo_spec p (s.port p).chainLen on calm
  let u := (s.probeSeen p y).unverifyTo p (s.port p).chainLen
  let e := u.setPort p ((u.port p).enumerates ((s.port p).chainLen + 1))
  have event : (u.port p).event = setBit (s.port p).event 0 true := by
    rw [works.portField Port.event fun _ => rfl, port]
    show setBit x.event 0 true = _
    rw [show x.event = (s.port p).event from (congrArg Port.event line :)]
  have trim : (u.port p).trimSent = false := by
    rw [works.portField Port.trimSent fun _ => rfl, port]
    rfl
  have ends : (s.presenceClose p (some y) false).1.commandEnd p (s.presenceClose p (some y) false).2 = e := by
    rw [State.presenceClose_probe window accepted, chain, profile, if_pos room]
    rfl
  have entered (z : Port) (n : Nat) : (z.enumerates n) ≠ portOff := Port.on_of Port.state (show PortState.enumerate ≠ .off by decide)
  refine runs_react (fun s => (s.presenceClose p (some y) false).1.commandEnd p (s.presenceClose p (some y) false).2) rfl
    running e ends (State.quiet_line rests (entered _ _)) ?_ ?_
  · exact ((keeps.mono (by decide)).trans works.keeps).trans ((u.setPort_keeps p _).mono (by decide))
  · have here : (settle s e).port p = (u.port p).enumerates ((s.port p).chainLen + 1) := by
      rw [port_settle, State.port_setPort_same]
    have field (z : Port) (n : Nat) : (z.enumerates n).state = .enumerate ∧ (z.enumerates n).enumPos = n
        ∧ (z.enumerates n).expect = true ∧ (z.enumerates n).event = z.event ∧ (z.enumerates n).trimSent = z.trimSent
        ∧ ∀ i, (z.enumerates n).at i = z.at i := ⟨rfl, rfl, rfl, rfl, rfl, fun _ => rfl⟩
    obtain ⟨state, enumPos, expect, events, trims, pos⟩ := field (u.port p) ((s.port p).chainLen + 1)
    unfold State.pos
    rw [here]
    exact ⟨state, enumPos, expect, events.trans event, trims.trans trim, fun i low high => by
      rw [pos]
      exact fallen i low high⟩

/-- A probe finds a tag behind a chain that is full. -/
theorem runs_probeFull {s : State} {p : Nat} {y : Presence} (running : s.running = true) (quiet : s.quiet)
    (window : (s.port p).window = .presence true) (accepted : presAccepted y = true)
    (full : (s.port p).profile.maxPos ≤ (s.port p).chainLen) :
    Runs (.presenceWindowClose p (some y) false) s (.ports :: talkParts) fun t =>
      (t.port p).state = (s.port p).state ∧ (t.port p).chainLen = (s.port p).chainLen ∧ (t.port p).window = .none
        ∧ (t.port p).event = setBit (setBit (s.port p).event 0 true) 5 true ∧ (t.port p).trimSent = false := by
  obtain ⟨x, at_, line, port, calm, keeps⟩ := State.probeSeen_spec y quiet window
  have chain : ((s.probeSeen p y).port p).chainLen = (s.port p).chainLen := by
    rw [port]
    exact (congrArg Port.chainLen line :)
  have profile : ((s.probeSeen p y).port p).profile = (s.port p).profile := by
    rw [port]
    exact (congrArg Port.profile line :)
  have marks := (s.probeSeen p y).portEvent_marks p (b := evOverflow) (by decide)
  refine runs_react (fun s => (s.presenceClose p (some y) false).1.commandEnd p (s.presenceClose p (some y) false).2) rfl
    running ((s.probeSeen p y).portEvent p evOverflow) ?_ (marks.quiet calm) (keeps.trans marks.keeps) ?_
  · show (s.presenceClose p (some y) false).1.commandEnd p (s.presenceClose p (some y) false).2 = _
    rw [State.presenceClose_probe window accepted, chain, profile, if_neg (by omega)]
    rfl
  · rw [port_settle, marks.port, port]
    refine ⟨(congrArg Port.state line :), (congrArg Port.chainLen line :), rfl, ?_, rfl⟩
    show setBit (setBit x.event 0 true) 5 true = _
    rw [show x.event = (s.port p).event from (congrArg Port.event line :)]

/-- Settles O50: each command writes its port, and where it works at the positions first, that leaves nothing waiting. -/
theorem plaitLines : Obligations.PlaitLines := by
  unfold Obligations.PlaitLines
  refine ⟨?_, ?_, ?_, ?_, ?_, ?_, ?_, ?_, ?_, ?_, ?_, ?_⟩
  · intro s p running quiet low service state
    exact runs_line (fun s => s.reenum .pcie p) rfl running (if_pos ⟨low, service, state⟩)
      (State.quiet_line quiet (Port.on_of Port.state (Port.on_of_state state)))
  · intro s p running quiet low service state
    exact runs_line (fun s => s.probeNow .pcie p) rfl running (if_pos ⟨low, service, state⟩)
      (State.quiet_line quiet (Port.on_of Port.state (Port.on_of_state (.inl state))))
  · intro s p c hc running quiet refused
    have rejects (f : State → State) (hx : exec c s = reacting s f) (eq : f s = s.reject .pcie) :
        Runs c s [.sts] fun t => t.sts.rejects = satInc s.sts.rejects :=
      runs_react f hx running _ eq (quiet_congr quiet) s.reject_host_keeps (settle_reject_rejects s .pcie)
    simp only [List.mem_cons, List.not_mem_nil, or_false] at hc
    rcases hc with rfl | rfl
    · refine rejects (fun s => s.reenum .pcie p) rfl (if_neg ?_)
      rintro ⟨-, service, state⟩
      exact refused.elim (fun other => other service) fun other => state.elim other.1 other.2
    · refine rejects (fun s => s.probeNow .pcie p) rfl (if_neg ?_)
      rintro ⟨-, service, state⟩
      exact refused.elim (fun other => other service) fun other => other.1 state
  · intro s p serves
    exact runs_lineOut (fun s => s.probeTrim p) rfl serves.running (State.probeTrim_next serves.next)
      (State.quiet_line serves.quiet (Port.on_of Port.trimSent (show true ≠ false by decide)))
  · intro s p running quiet sent window
    refine runs_lineOut (fun s => s.plaitProbe p) rfl running ?_
      (State.quiet_line quiet (Port.on_of Port.window (show Window.presence true ≠ .none by decide)))
    unfold State.plaitProbe
    rw [State.probeTrim_sent sent]
    exact if_pos (by rw [sent, window]; rfl)
  · intro s p y running quiet window fall low wide narrow room
    exact runs_probeRoom running quiet window (presAccepted_of ⟨fall, low⟩ ⟨wide, narrow⟩) room
  · intro s p y running quiet window fall low wide narrow full
    exact runs_probeFull running quiet window (presAccepted_of ⟨fall, low⟩ ⟨wide, narrow⟩) full
  · intro s p w running quiet state idle wide narrow
    let x : Port := { s.port p with uprobe := true }
    have marks := (s.setPort p x).portEvent_marks p (b := evUnsolicited) (by decide)
    have calm : (s.setPort p x).quiet := State.quiet_line quiet (Port.on_of Port.state (Port.on_of_state (.inl state)))
    refine runs_react (fun s => s.unsolicited p w) rfl running _ (if_pos ⟨state, idle, wide, narrow⟩) (marks.quiet calm)
      (((s.setPort_keeps p x).mono (by decide)).trans marks.keeps) ?_
    rw [port_settle, marks.port, State.port_setPort_same]
    rfl
  · intro s p e k c hc running quiet live idle ops
    simp only [List.mem_cons, List.not_mem_nil, or_false] at hc
    rcases hc with rfl | rfl
    · refine runs_lineFault true (fun s => if (s.port p).live then (s.lineSlots ⟨p, e, k⟩).lineFault p true else (s, none)) rfl
        running quiet idle ops ?_
      rw [if_pos live]
      have slots : s.lineSlots ⟨p, e, k⟩ = s := if_neg fun h => by rw [idle] at h; exact Bool.noConfusion h.1
      rw [slots]
    · exact runs_lineFault false (fun s => if (s.port p).live then s.lineFault p false else (s, none)) rfl running quiet idle
        ops (if_pos live)
  · intro s p running quiet service state window
    exact runs_line (fun s => s.recoveryCheck p) rfl running (if_pos ⟨service, state, window⟩)
      (State.quiet_line quiet (Port.on_of Port.state (Port.on_of_state (.inr state))))
  · intro s p running quiet state window ops
    let u := s.resetWork p
    have works := s.resetWork_works p
    have reset : s.resetBegins p = u.setPort p (u.port p).resetting := s.resetBegins_eq p
    have again : (s.resetBegins p).port p = (u.port p).resetting := by rw [reset, State.port_setPort_same]
    have first : (s.resetBegins p).quiet := by
      rw [reset]
      exact State.quiet_reworked quiet ops works (State.portsQuiet_resetWork quiet.2.2.1 p) (Port.resetting_jobs _)
        (Port.resetting_pos _)
    refine runs_react (fun s => s.releaseEnd p true) rfl running _ (State.releaseEnd_high state window)
      (State.quiet_recovers first p) ?_ ?_
    · rw [reset]
      exact (works.keeps.trans ((u.setPort_keeps p _).mono (by decide))).trans ((State.setPort_keeps _ p _).mono (by decide))
    · rw [port_settle, State.port_setPort_same, again]
      exact ⟨rfl, rfl, rfl, rfl, rfl⟩
  · intro s p running quiet state window
    exact runs_line (fun s => s.releaseEnd p false) rfl running (State.releaseEnd_low state window)
      (State.quiet_line quiet (Port.on_of Port.state (Port.on_of_state (.inr state))))

end Sys2Proof.Machine
end
